-- ==== Sys2Proof/Word.lean ====
section
/-! DEFINITION. The plainest types of the model: bytes, the names of buses and heads, moments of the elapsed clock, and
the shape of a sparse table. -/

namespace Sys2Proof

/-- One character of the serial link (R2: 8 data bits). -/
abbrev Byte := BitVec 8

/-- A test bus, B0 to B5. -/
abbrev Bus := Fin 6

/-- A measuring head, H0 to H3. -/
abbrev Head := Fin 4

/-- A moment of the elapsed clock, in units of 125 µs (the unit of R139; every duration of the spec is a whole number
of them). -/
abbrev Moment := Nat

/-- A set of test buses: bit b stands for bus b (R31, R73, R77). -/
abbrev BusSet := BitVec 6

/-- A sparse table: pairs of a key and a value; a key that is not listed reads as the table's reset value. -/
abbrev Table (α : Type) := List (Nat × α)

end Sys2Proof
end

