-- ==== Sys2Proof/Syntax.lean ====
section
/-! DEFINITION. The commands of the block: one constructor for each row of spec/opcode_table.json. -/

namespace Sys2Proof

/-- A hazard input: the A input of one bus, or the one B input, the storm alarm (R75). -/
inductive HazardInput where
  | a (b : Bus)
  | storm
  deriving DecidableEq, Repr

/-- The commands. A request carries the tag and the raw body of a request frame whose last byte has arrived with a
good check (R4 to R6); the other rows are events of the link, the clock, the pins, the plant and the part's timers. -/
inductive Instr where
  /-- CHARACTER_RECEIVED (R2): a character, and whether its stop bit was good. -/
  | characterReceived (c : Byte) (stopOk : Bool)
  /-- INTER_BYTE_TIMEOUT (R3). -/
  | interByteTimeout
  /-- FRAME_SENT (R10): the last character of the frame being sent has left. -/
  | frameSent
  /-- TIME_ADVANCE (R14): a second has passed. -/
  | timeAdvance
  /-- RESET_PIN_ASSERT (R59). -/
  | resetPinAssert
  /-- RESET_PIN_RELEASE (R59). -/
  | resetPinRelease
  /-- RESET_DROP_INTERVAL_EXPIRY (R59): the restore interval of this line's cut in the reset drop runs out. -/
  | resetDropIntervalExpiry (line : Nat)
  /-- STARTING_PHASE_END (R18). -/
  | startingPhaseEnd
  /-- SUPPLY_GOOD_FALL (R60). -/
  | supplyGoodFall
  /-- SUPPLY_GOOD_RISE (R19). -/
  | supplyGoodRise
  /-- ECHO, code 0x10 (R15). -/
  | echo (tag : Byte) (body : List Byte)
  /-- STATUS, code 0x11 (R16). -/
  | status (tag : Byte) (body : List Byte)
  /-- TIME-SET, code 0x12 (R14). -/
  | timeSet (tag : Byte) (body : List Byte)
  /-- RESET, code 0x13 (R17). -/
  | reset (tag : Byte) (body : List Byte)
  /-- DIR-LOAD, code 0x18 (R24). -/
  | dirLoad (tag : Byte) (body : List Byte)
  /-- DIR-READ, code 0x19 (R25). -/
  | dirRead (tag : Byte) (body : List Byte)
  /-- PROFILE-SET, code 0x1A (R28). -/
  | profileSet (tag : Byte) (body : List Byte)
  /-- PROFILE-READ, code 0x1B (R29). -/
  | profileRead (tag : Byte) (body : List Byte)
  /-- ROUTE-SET, code 0x1C (R31, R32). -/
  | routeSet (tag : Byte) (body : List Byte)
  /-- ROUTE-READ, code 0x1D (R33). -/
  | routeRead (tag : Byte) (body : List Byte)
  /-- INTERVAL-SET, code 0x1E (R34). -/
  | intervalSet (tag : Byte) (body : List Byte)
  /-- WATCH-SET, code 0x20 (R72). -/
  | watchSet (tag : Byte) (body : List Byte)
  /-- WATCH-CLEAR, code 0x21 (R73). -/
  | watchClear (tag : Byte) (body : List Byte)
  /-- HAZARD-SET, code 0x22 (R77). -/
  | hazardSet (tag : Byte) (body : List Byte)
  /-- HAZARD-CLEAR, code 0x23 (R79). -/
  | hazardClear (tag : Byte) (body : List Byte)
  /-- TEST, code 0x28 (R20, R96, R97, R112). -/
  | test (tag : Byte) (body : List Byte)
  /-- CUT, code 0x29 (R105). -/
  | cut (tag : Byte) (body : List Byte)
  /-- SPEAK, code 0x2A (R106). -/
  | speak (tag : Byte) (body : List Byte)
  /-- HOLD, code 0x2B (R106). -/
  | hold (tag : Byte) (body : List Byte)
  /-- RETEST, code 0x2C (R107). -/
  | retest (tag : Byte) (body : List Byte)
  /-- RELEASE, code 0x2D (R108). -/
  | release (tag : Byte) (body : List Byte)
  /-- JOB-CANCEL, code 0x2E (R108). -/
  | jobCancel (tag : Byte) (body : List Byte)
  /-- JOB-READ, code 0x2F (R109). -/
  | jobRead (tag : Byte) (body : List Byte)
  /-- HOLD-LIMIT-SET, code 0x30 (R110). -/
  | holdLimitSet (tag : Byte) (body : List Byte)
  /-- SWEEP-START, code 0x34 (R120). -/
  | sweepStart (tag : Byte) (body : List Byte)
  /-- SWEEP-STOP, code 0x35 (R120). -/
  | sweepStop (tag : Byte) (body : List Byte)
  /-- SWEEP-DEFAULT, code 0x36 (R120). -/
  | sweepDefault (tag : Byte) (body : List Byte)
  /-- SWEEP-SET, code 0x37 (R119). -/
  | sweepSet (tag : Byte) (body : List Byte)
  /-- SWEEP-READ, code 0x38 (R132). -/
  | sweepRead (tag : Byte) (body : List Byte)
  /-- HEAD-ACCEPT, code 0x3C (R135). -/
  | headAccept (tag : Byte) (body : List Byte)
  /-- STEP-SET, code 0x3D (R140). -/
  | stepSet (tag : Byte) (body : List Byte)
  /-- STEP-READ, code 0x3E (R140). -/
  | stepRead (tag : Byte) (body : List Byte)
  /-- LINE-READ, code 0x40 (R162). -/
  | lineRead (tag : Byte) (body : List Byte)
  /-- TICKET-REPORT, code 0x44 (R177). -/
  | ticketReport (tag : Byte) (body : List Byte)
  /-- TICKET-DISPATCH, code 0x45 (R180). -/
  | ticketDispatch (tag : Byte) (body : List Byte)
  /-- TICKET-VERIFY, code 0x47 (R180). -/
  | ticketVerify (tag : Byte) (body : List Byte)
  /-- TICKET-CLOSE, code 0x46 (R181). -/
  | ticketClose (tag : Byte) (body : List Byte)
  /-- TICKET-READ, code 0x48 (R182). -/
  | ticketRead (tag : Byte) (body : List Byte)
  /-- TICKET-LIST, code 0x49 (R182). -/
  | ticketList (tag : Byte) (body : List Byte)
  /-- TICKET-ERASE, code 0x4A (R183). -/
  | ticketErase (tag : Byte) (body : List Byte)
  /-- ROLLUP-SET, code 0x4B (R184). -/
  | rollupSet (tag : Byte) (body : List Byte)
  /-- GUARD_WINDOW_EXPIRY (R65). -/
  | guardWindowExpiry (b : Bus)
  /-- CONNECT_INTERVAL_EXPIRY (R47). -/
  | connectIntervalExpiry (b : Bus)
  /-- RESTORE_INTERVAL_EXPIRY (R51). -/
  | restoreIntervalExpiry (b : Bus)
  /-- LOOP_SENSE_CHANGE (R63): the raw loop sense of the bus becomes present or absent. -/
  | loopSenseChange (b : Bus) (present : Bool)
  /-- DEBOUNCE_TIMER_EXPIRY (R63). -/
  | debounceTimerExpiry (b : Bus)
  /-- HOLD_LIMIT_EXPIRY (R110): the hold-limit deadline of this job passes. -/
  | holdLimitExpiry (job : Nat)
  /-- HAZARD_INPUT_ACTIVE (R75). -/
  | hazardInputActive (i : HazardInput)
  /-- HAZARD_INPUT_INACTIVE (R75). -/
  | hazardInputInactive (i : HazardInput)
  /-- HAZARD_RELEASE_TIMER_EXPIRY (R75). -/
  | hazardReleaseTimerExpiry (i : HazardInput)
  /-- HAZARD_HOLD_EXPIRY (R88): the hazard hold deadline of this job passes. -/
  | hazardHoldExpiry (job : Nat)
  /-- HEAD_PRESENCE_LOST (R134). -/
  | headPresenceLost (h : Head)
  /-- HEAD_PRESENCE_RETURN (R134). -/
  | headPresenceReturn (h : Head)
  /-- FRAME_BOUNDARY (R143). -/
  | frameBoundary (h : Head)
  /-- TRIGGER (R145). -/
  | trigger (h : Head)
  /-- SAMPLE_PAIR (R144): a voltage count and a current count, each two's complement. -/
  | samplePair (h : Head) (v i : BitVec 16)
  /-- PACE_TIMER_EXPIRY (R122). -/
  | paceTimerExpiry
  deriving DecidableEq, Repr

end Sys2Proof
end

