-- ==== Sys2Proof/Machine/Records.lean ====
section
/-! DEFINITION. The records of the ten blocks (Configuration Store, Access Controller, Bus Watch, Hazard Unit, Job
Scheduler, Sweep Unit, Measurement Engine, Verdict Unit, Ticket Unit), each with its reset value as `initial`. -/

namespace Sys2Proof.Machine

/-! ## Configuration Store (02) -/

/-- A line directory entry (R23). -/
structure DirEntry where
  cls : Nat
  cable : Nat
  inService : Bool
  deriving DecidableEq, Repr

def DirEntry.initial : DirEntry := ⟨0, 0, false⟩

/-- A class profile: the ten limits of section 2.2 (R27). -/
structure Profile where
  fvDanger : Nat
  fvLimit : Nat
  acLimit : Nat
  shOhm : Nat
  irFail : Nat
  irMarg : Nat
  capMin : Nat
  capPerKm : Nat
  hyst : Nat
  marginalLimit : Nat
  deriving DecidableEq, Repr

/-- The defaults of the table of section 2.2 (R27). -/
def Profile.initial : Profile := ⟨60000, 10000, 5000, 1500, 20000, 1000000, 300, 50, 10, 3⟩

/-- Which of the two release intervals (R31). -/
inductive IntervalName where
  | a
  | b
  deriving DecidableEq, Repr

/-- A group route (R31). -/
structure Route where
  enabled : Bool
  allowed : BusSet
  connect : IntervalName
  restore : IntervalName
  deriving DecidableEq, Repr

def Route.initial : Route := ⟨true, 0x3F#6, .a, .a⟩

/-- The unit of a release interval (R34). -/
inductive IntervalUnit where
  | half
  | one
  | two
  | four
  deriving DecidableEq, Repr

/-- A release interval (R34). -/
structure ReleaseInterval where
  count : Nat
  unit : IntervalUnit
  deriving DecidableEq, Repr

def ReleaseInterval.initial : ReleaseInterval := ⟨20, .one⟩

/-! ## Access Controller (03) -/

inductive AccessState where
  | idle
  | guard
  | monitor
  | cutting
  | connected
  | parked
  | releasing
  deriving DecidableEq, Repr

/-- The function of a bus record (R40). -/
inductive BusFunction where
  | none
  | hold
  | measure
  | speak
  deriving DecidableEq, Repr

inductive SpeechMode where
  | talk
  | listen
  deriving DecidableEq, Repr

/-- A position's circuit on a bus; positions are 1 to 4 (R49). -/
structure Speech where
  position : Nat
  mode : SpeechMode
  deriving DecidableEq, Repr

inductive IntervalKind where
  | connect
  | restore
  deriving DecidableEq, Repr

/-- A connect or restore interval as a transition took it (R35, R40). -/
structure HeldInterval where
  kind : IntervalKind
  duration : Nat
  runsOut : Moment
  deriving DecidableEq, Repr

/-- A bus record (R40). -/
structure BusRecord where
  access : AccessState
  line : Option Nat
  owner : Option Nat
  func : BusFunction
  head : Option Head
  speech : Option Speech
  interval : Option HeldInterval
  parkMark : Bool
  reserveMark : Bool
  deriving DecidableEq, Repr

def BusRecord.initial : BusRecord := ⟨.idle, none, none, .none, none, none, none, false, false⟩

/-- The three relays of a line, as last driven; `true` is the operated state (R36). -/
structure LineRelays where
  cutOpen : Bool
  testPath : Bool
  bridge : Bool
  deriving DecidableEq, Repr

def LineRelays.initial : LineRelays := ⟨false, false, false⟩

/-! ## Bus Watch (04) -/

inductive WatchMode where
  | off
  | loopOn
  | loopOff
  | both
  | loopPresent
  | loopAbsent
  deriving DecidableEq, Repr

inductive WatchBase where
  | quarter
  | four
  deriving DecidableEq, Repr

inductive WatchAction where
  | report
  | yield
  deriving DecidableEq, Repr

/-- The watch settings of a job or a bus (R61, R74). -/
structure WatchSettings where
  mode : WatchMode
  n : Nat
  base : WatchBase
  action : WatchAction
  deriving DecidableEq, Repr

/-- The IDLE values of R61. -/
def WatchSettings.initial : WatchSettings := ⟨.off, 3, .quarter, .report⟩

/-- The settings of sweep and AUTO jobs (R74). -/
def WatchSettings.ofSweep : WatchSettings := ⟨.loopOn, 3, .quarter, .yield⟩

/-- The default watch of a desk job (R20, R74). -/
def WatchSettings.ofDesk : WatchSettings := ⟨.loopOn, 3, .quarter, .report⟩

inductive LoopState where
  | absent
  | present
  deriving DecidableEq, Repr

/-- A debounce timer: the duration taken, the value it would give and when it runs out (R63). -/
structure DebounceTimer where
  duration : Nat
  aim : LoopState
  runsOut : Moment
  deriving DecidableEq, Repr

/-- A watch record (R61). -/
structure WatchRecord where
  settings : WatchSettings
  pending : Bool
  loop : LoopState
  timer : Option DebounceTimer
  guard : Option Moment
  deriving DecidableEq, Repr

def WatchRecord.initial : WatchRecord := ⟨WatchSettings.initial, false, .absent, none, none⟩

/-! ## Hazard Unit (05) -/

inductive HazardMode where
  | latched
  | follow
  deriving DecidableEq, Repr

inductive Hazard where
  | a
  | b
  deriving DecidableEq, Repr

/-- An input state; FILTERING holds the moment its release timer runs out (R75). -/
inductive InputState where
  | asserted
  | filtering (runsOut : Moment)
  | gone
  deriving DecidableEq, Repr

/-- A hazard condition with its input and clear-taken mark (R76, R78). -/
structure Condition where
  input : InputState
  inEffect : Bool
  clearTaken : Bool
  deriving DecidableEq, Repr

def Condition.initial : Condition := ⟨.gone, false, false⟩

/-- The hazard state of a bus (R76). -/
inductive HazardState where
  | none
  | a
  | b
  deriving DecidableEq, Repr

/-- The target of a pending exit (R85). -/
inductive ExitTarget where
  | toNone
  | toB
  deriving DecidableEq, Repr

/-- The hazard record of a bus (R76). -/
structure HazardRecord where
  a : Condition
  state : HazardState
  exit : Option ExitTarget
  deriving DecidableEq, Repr

def HazardRecord.initial : HazardRecord := ⟨Condition.initial, .none, none⟩

/-- The settings of one hazard (R76); a bus in `isolate` has the action ISOLATE, any other PARK. -/
structure HazardSettings where
  mode : HazardMode
  enable : BusSet
  isolate : BusSet
  deriving DecidableEq, Repr

def HazardSettings.initialA : HazardSettings := ⟨.latched, 0x3F#6, 0#6⟩
def HazardSettings.initialB : HazardSettings := ⟨.follow, 0#6, 0x3F#6⟩

/-! ## Steps and results (08, 09) -/

inductive StepKind where
  | fv
  | ir
  | lr
  | cap
  deriving DecidableEq, Repr

inductive Leg where
  | ab
  | ae
  | be
  deriving DecidableEq, Repr

inductive MeasureRange where
  | lo
  | hi
  deriving DecidableEq, Repr

/-- One step of a recipe (R141). -/
structure RecipeStep where
  kind : StepKind
  leg : Leg
  deriving DecidableEq, Repr

/-- The FULL recipe (R141). -/
def fullRecipe : List RecipeStep :=
  [⟨.fv, .ae⟩, ⟨.fv, .be⟩, ⟨.fv, .ab⟩, ⟨.ir, .ab⟩, ⟨.ir, .ae⟩, ⟨.ir, .be⟩, ⟨.cap, .ab⟩]

/-- The flags of a result (R152). -/
structure ResultFlags where
  overRange : Bool := false
  underRange : Bool := false
  foreign : Bool := false
  clip : Bool := false
  skipped : Bool := false
  aborted : Bool := false
  deriving DecidableEq, Repr

/-- An entered result (R151); an absent resistance has value 1 equal to 0 and the flag FOREIGN. -/
structure StepResult where
  kind : StepKind
  leg : Leg
  range : Option MeasureRange
  flags : ResultFlags
  value1 : Int
  value2 : Nat
  deriving DecidableEq, Repr

/-- A step table entry (R139); the source level of FV is none, and FV and CAP have the fixed start range LO. -/
structure StepEntry where
  period : Nat
  phase : Nat
  post : Nat
  discard : Nat
  samples : Nat
  level : Option Nat
  startRange : MeasureRange
  deriving DecidableEq, Repr

/-- The reset values of the step table (R139). -/
def StepEntry.initial : StepKind → StepEntry
  | .fv => ⟨184, 0, 1, 2, 16, none, .lo⟩
  | .ir => ⟨80, 40, 2, 8, 16, some 3, .lo⟩
  | .lr => ⟨80, 40, 1, 4, 16, some 1, .hi⟩
  | .cap => ⟨80, 0, 1, 2, 12, some 1, .lo⟩

/-- The step table, one entry for each kind (R139). -/
structure StepTable where
  fv : StepEntry
  ir : StepEntry
  lr : StepEntry
  cap : StepEntry
  deriving DecidableEq, Repr

def StepTable.initial : StepTable :=
  ⟨StepEntry.initial .fv, StepEntry.initial .ir, StepEntry.initial .lr, StepEntry.initial .cap⟩

/-- The accumulators of a step in hand (section 8.5). -/
structure Accumulators where
  count : Nat
  sumV : Int
  sumI : Int
  vMax : Int
  vMin : Int
  vFirst : Int
  vLast : Int
  /-- v clipped: the index of the first accumulated sample whose v was clipped. -/
  vClip : Option Nat
  /-- v before clip. -/
  vBefore : Option Int
  iClip : Bool
  deriving DecidableEq, Repr

def Accumulators.empty : Accumulators := ⟨0, 0, 0, 0, 0, 0, 0, none, none, false⟩

/-- The step in hand of a head (R133, R142). -/
structure StepInHand where
  job : Nat
  index : Nat
  kind : StepKind
  leg : Leg
  snapshot : StepEntry
  range : MeasureRange
  switched : Bool
  discards : Nat
  acc : Accumulators
  deriving DecidableEq, Repr

/-- A running frame time base (R133, R143). -/
structure TimeBase where
  period : Nat
  phase : Nat
  post : Nat
  index : Nat
  next : Moment
  deriving DecidableEq, Repr

inductive HeadState where
  | absent
  | replaced
  | idle
  | attached
  | reserved
  | failed
  deriving DecidableEq, Repr

inductive Source where
  | none
  | voltage (volts : Nat)
  | current (microamps : Nat)
  deriving DecidableEq, Repr

/-- A configure message (R137). -/
structure Configure where
  leg : Leg
  source : Source
  range : MeasureRange
  deriving DecidableEq, Repr

/-- A head record (R133), with the configure that stands at the head (R137). -/
structure HeadRecord where
  state : HeadState
  bus : Option Bus
  missing : Nat
  outstanding : Bool
  timeBase : Option TimeBase
  step : Option StepInHand
  standing : Option Configure
  deriving DecidableEq, Repr

/-- A present head after reset (R133). -/
def HeadRecord.initial : HeadRecord := ⟨.idle, none, 0, false, none, none, none⟩

/-- A message the part sends over the head port (R137, R138). -/
inductive PortMessage where
  | configure (h : Head) (c : Configure)
  | strobe (h : Head)
  deriving DecidableEq, Repr

/-! ## Verdicts and line status (10) -/

inductive Verdict where
  | ok
  | marginal
  | cross
  | short
  | earthBoth
  | earthA
  | earthB
  | lowIr
  | openPair
  deriving DecidableEq, Repr

inductive AbFinding where
  | none
  | marg
  | low
  | short
  deriving DecidableEq, Repr

inductive EarthFinding where
  | none
  | marg
  | earth
  deriving DecidableEq, Repr

/-- The five findings of a line (section 10.2); `voltage` is CROSS and `cap` is OPEN. -/
structure Findings where
  ab : AbFinding
  ae : EarthFinding
  be : EarthFinding
  voltage : Bool
  cap : Bool
  deriving DecidableEq, Repr

def Findings.none : Findings := ⟨.none, .none, .none, false, false⟩

/-- A line status record (R161); no last verdict is UNKNOWN. -/
structure LineStatus where
  verdict : Option Verdict
  findings : Findings
  streak : Nat
  ticket : Option Nat
  unticketed : Bool
  testTime : BitVec 32
  pass : Nat
  deriving DecidableEq, Repr

def LineStatus.initial : LineStatus := ⟨none, Findings.none, 0, none, false, 0#32, 0⟩

inductive Quantity where
  | dcVoltage
  | acPeak
  | resistance
  | capacitance
  deriving DecidableEq, Repr

/-- One entry of evidence (R169). -/
structure Evidence where
  leg : Leg
  quantity : Quantity
  value : Int
  deriving DecidableEq, Repr

/-- The ticket action answered to a verdict (R21, R175). -/
inductive TicketAction where
  | none
  | raised
  | raisedRolled
  | repeated
  | lastSeenOnly
  | cleared
  | reopened
  | testOkSet
  | notFound
  | raiseFailed
  deriving DecidableEq, Repr

/-- What a recipe's end hands back (R170 item 8). -/
structure VerdictHeld where
  verdict : Verdict
  findings : Findings
  distance : Option Nat
  action : TicketAction
  ticket : Nat
  deriving DecidableEq, Repr

/-! ## Jobs (06) -/

/-- The source of a job; desk positions are 1 to 4. -/
inductive JobSource where
  | desk (position : Nat)
  | auto
  | sweep
  deriving DecidableEq, Repr

inductive AccessMode where
  | monitorOnly
  | guarded
  | forced
  deriving DecidableEq, Repr

inductive Priority where
  | urgent
  | normal
  | routine
  deriving DecidableEq, Repr

inductive JobState where
  | queued
  | accessing
  | waitHead
  | measuring
  | held
  | monitoring
  | suspended
  | releasing
  deriving DecidableEq, Repr

inductive JobOutcome where
  | complete
  | cancelled
  | yielded
  | preempted
  | taken
  | busy
  | hazardFail
  | headFault
  | timeout
  | unequipped
  | groupDisabled
  | supply
  deriving DecidableEq, Repr

/-- The class snapshot of a job (R30). -/
structure Snapshot where
  cls : Nat
  profile : Profile
  deriving DecidableEq, Repr

structure JobHead where
  head : Head
  reserved : Bool
  deriving DecidableEq, Repr

/-- A job record (section 6.1). `due` is the model's own: the verdict that a job without keep carries to its JOB-RESULT
(R103 item 4). -/
structure Job where
  id : Nat
  source : JobSource
  line : Nat
  recipe : List RecipeStep
  access : AccessMode
  kept : AccessMode
  priority : Priority
  keep : Bool
  watch : WatchSettings
  snapshot : Option Snapshot
  state : JobState
  queueOrder : Nat
  startMark : Option Nat
  bus : Option Bus
  head : Option JobHead
  step : Nat
  results : List StepResult
  losses : Nat
  queuedTime : BitVec 32
  waitOrder : Nat
  waitTime : BitVec 32
  holdLimit : Option Moment
  hazardHold : Option Moment
  suspendedFrom : Option JobState
  outcome : Option JobOutcome
  takeover : Option Nat
  claim : Option Nat
  verdict : Option VerdictHeld
  due : Option VerdictHeld
  verification : Bool
  deriving DecidableEq, Repr

/-- The note of a JOB-STATE report (R95). -/
inductive JobNote where
  | none
  | forcedOverLoop
  | forcedIdle
  | takeover
  | suspendedA
  | suspendedB
  | resumed
  | headLost
  deriving DecidableEq, Repr

/-! ## Routine sweep (07) -/

inductive SweepState where
  | stopped
  | running
  | held
  deriving DecidableEq, Repr

inductive PassMode where
  | single
  | continuous
  deriving DecidableEq, Repr

inductive PaceTimer where
  | none
  | running (runsOut : Moment)
  | expired
  deriving DecidableEq, Repr

/-- The pass statistics (R128). -/
structure PassStats where
  tested : Nat
  faults : Nat
  marginal : Nat
  skipped : Nat
  untestable : Nat
  deriving DecidableEq, Repr

def PassStats.zero : PassStats := ⟨0, 0, 0, 0, 0⟩

inductive RevisitReason where
  | busy
  | yielded
  | preempted
  | hazard
  | unequipped
  deriving DecidableEq, Repr

/-- An entry of the revisit list (R129). -/
structure RevisitEntry where
  line : Nat
  reason : RevisitReason
  attempts : Nat
  notBefore : Moment
  deriving DecidableEq, Repr

/-- An issue note (R118, R123); `stays` records that the line's revisit entry stays (R124 item 3, R130). -/
structure IssueNote where
  job : Nat
  line : Nat
  attempts : Nat
  stays : Bool
  deriving DecidableEq, Repr

/-! ## Tickets (11) -/

inductive TicketKind where
  | line
  | cable
  deriving DecidableEq, Repr

inductive TicketClass where
  | cross
  | short
  | earthA
  | earthB
  | earthBoth
  | lowIr
  | openPair
  | marginal
  | unverified
  | notFound
  deriving DecidableEq, Repr

inductive TicketOrigin where
  | desk (position : Nat)
  | auto
  | sweep
  | hazard
  | report
  deriving DecidableEq, Repr

inductive TicketState where
  | opened
  | rolled
  | dispatched
  | cleared
  | closed
  deriving DecidableEq, Repr

/-- A ticket record (section 11.1). -/
structure Ticket where
  number : Nat
  kind : TicketKind
  line : Option Nat
  cable : Nat
  cls : TicketClass
  origin : TicketOrigin
  state : TicketState
  opened : BitVec 32
  lastSeen : BitVec 32
  lastChange : BitVec 32
  repeats : Nat
  verifyDue : Bool
  testOk : Bool
  complaint : Bool
  code : Option Nat
  evidence : List Evidence
  distance : Option Nat
  parent : Option Nat
  members : Nat
  deriving DecidableEq, Repr

end Sys2Proof.Machine
end

