-- ==== Sys2Proof/Machine/Messages.lean ====
section
/-! DEFINITION. The messages the part sends, as the named fields the spec gives them: reports (R7), ACK bodies, REJECT
reasons (R8), and the record views that STATUS, JOB-READ, SWEEP-READ and HAZARD-SET carry. -/

namespace Sys2Proof.Machine

/-- REJECT reasons (R8). -/
inductive Reason where
  | unknownKind
  | badLength
  | supply
  | starting
  | badValue
  | lineRange
  | unequipped
  | groupDisabled
  | badRecipe
  | lineInUse
  | positionLimit
  | tableFull
  | noJob
  | wrongState
  | speechBusy
  | profileOrder
  | headAbsent
  | noTicket
  | ticketState
  deriving DecidableEq, Repr

/-- LINK-ERROR reasons (R4). -/
inductive LinkErrorReason where
  | timeout
  | check
  | overrun
  | framing
  | tag
  deriving DecidableEq, Repr

/-- The causes of a reset (R18). -/
inductive ResetCause where
  | power
  | pin
  | request
  deriving DecidableEq, Repr

/-- JOB-STATE (R95). `verdict` is carried on entry to HELD at the end of a recipe only. -/
structure JobStateReport where
  job : Nat
  source : JobSource
  line : Nat
  state : JobState
  bus : Option Bus
  head : Option JobHead
  step : Nat
  note : JobNote
  losses : Nat
  verdict : Option VerdictHeld
  time : BitVec 32
  deriving DecidableEq, Repr

/-- JOB-RESULT (R21). `verdict` is carried for COMPLETE only. -/
structure JobResultReport where
  job : Nat
  outcome : JobOutcome
  source : JobSource
  line : Nat
  time : BitVec 32
  verification : Bool
  verdict : Option VerdictHeld
  results : List StepResult
  deriving DecidableEq, Repr

inductive WatchCause where
  | edgeOn
  | edgeOff
  | levelPresent
  | levelAbsent
  deriving DecidableEq, Repr

/-- WATCH-EVENT (R69). -/
structure WatchEvent where
  bus : Bus
  line : Option Nat
  job : Option Nat
  cause : WatchCause
  loop : LoopState
  mode : WatchMode
  action : WatchAction
  time : BitVec 32
  deriving DecidableEq, Repr

inductive HazardEventKind where
  | onset
  | gone
  | enter
  | cleared
  | exit
  deriving DecidableEq, Repr

/-- HAZARD-EVENT (R90). -/
structure HazardEvent where
  event : HazardEventKind
  hazard : Hazard
  inputBus : Option Bus
  inEffect : Bool
  buses : BusSet
  newState : Option HazardState
  marked : Option Nat
  time : BitVec 32
  deriving DecidableEq, Repr

inductive SweepEventKind where
  | passDone
  | untestable
  | revisitDropped
  deriving DecidableEq, Repr

/-- SWEEP-EVENT (R131). -/
structure SweepEvent where
  event : SweepEventKind
  pass : Nat
  line : Option Nat
  reason : Option RevisitReason
  attempts : Nat
  stats : PassStats
  state : SweepState
  time : BitVec 32
  deriving DecidableEq, Repr

inductive TicketEventKind where
  | raised
  | reopened
  | cleared
  | notFound
  | testOk
  | rolled
  | cableRaised
  | cableReopened
  | cableCleared
  | evicted
  | tableFull
  deriving DecidableEq, Repr

/-- TICKET-EVENT (R187); `state` and `origin` are absent for TABLE-FULL, which names no ticket. A cable ticket has no line,
which its bytes give as 65535. -/
structure TicketEvent where
  event : TicketEventKind
  number : Nat
  kind : TicketKind
  line : Option Nat
  cable : Nat
  cls : TicketClass
  state : Option TicketState
  parent : Option Nat
  members : Nat
  origin : Option TicketOrigin
  repeats : Nat
  time : BitVec 32
  deriving DecidableEq, Repr

/-- The reports of R7. -/
inductive Report where
  | start (cause : ResetCause) (storeLost : Bool) (tickets : Nat) (timeSet : Bool) (rate : BitVec 2)
  | linkError (reason : LinkErrorReason) (kind tag : Byte) (bytes : Nat)
  | overflow (lost : Nat)
  | jobState (r : JobStateReport)
  | jobResult (r : JobResultReport)
  | watch (r : WatchEvent)
  | hazard (r : HazardEvent)
  | sweep (r : SweepEvent)
  | ticket (r : TicketEvent)
  deriving DecidableEq, Repr

/-- One bus of STATUS (R16); no loop state is NONE. -/
structure BusStatus where
  access : AccessState
  hazard : HazardState
  pending : Bool
  loop : Option LoopState
  deriving DecidableEq, Repr

/-- One head of STATUS (R16). -/
structure HeadStatus where
  state : HeadState
  bus : Option Bus
  deriving DecidableEq, Repr

/-- The body of STATUS's ACK (R16). -/
structure StatusView where
  starting : Bool
  supplyFall : Bool
  time : BitVec 32
  timeSet : Bool
  sweep : SweepState
  buses : List BusStatus
  heads : List HeadStatus
  jobs : Nat
  queue : Nat
  lost : Nat
  deriving DecidableEq, Repr

/-- The body of HAZARD-SET's ACK (R77). -/
structure HazardView where
  hazard : Hazard
  settings : HazardSettings
  holdTime : Nat
  inputs : BusSet
  inEffect : BusSet
  clearTaken : BusSet
  deriving DecidableEq, Repr

/-- The pace timer as SWEEP-READ gives it, the time left in units of 100 ms (R122, R132). -/
inductive PaceView where
  | none
  | expired
  | running (left : Nat)
  deriving DecidableEq, Repr

/-- A revisit entry as SWEEP-READ gives it (R132). -/
structure RevisitView where
  line : Nat
  reason : RevisitReason
  attempts : Nat
  seconds : Nat
  deriving DecidableEq, Repr

/-- The body of SWEEP-READ's ACK (R132). -/
structure SweepView where
  state : SweepState
  pace : Nat
  concurrency : Nat
  passMode : PassMode
  mask : BitVec 64
  timer : PaceView
  cursor : Nat
  pass : Nat
  stats : PassStats
  jobs : List (Nat × Nat)
  entries : List RevisitView
  deriving DecidableEq, Repr

/-- The bodies of the ACKs, by the chapter that gives each. -/
inductive AckBody where
  /-- RESET (R17). -/
  | empty
  /-- ECHO (R15). -/
  | echo (bytes : List Byte)
  /-- STATUS (R16). -/
  | status (v : StatusView)
  /-- TIME-SET (R14). -/
  | time (t : BitVec 32)
  /-- DIR-LOAD, DIR-READ (R24, R25). -/
  | directory (first : Nat) (entries : List DirEntry)
  /-- PROFILE-SET, PROFILE-READ (R28, R29). -/
  | profile (cls : Nat) (p : Profile)
  /-- ROUTE-SET (R31). -/
  | routeTaken (group : Nat) (r : Route)
  /-- ROUTE-READ (R33). -/
  | route (group : Nat) (r : Route) (a b : ReleaseInterval) (holding : Option Bus)
  /-- INTERVAL-SET (R34). -/
  | interval (which : IntervalName) (i : ReleaseInterval)
  /-- WATCH-SET (R72); the flag and loop state are those of the bus named, absent where none is. -/
  | watch (bus : Nat) (w : WatchSettings) (pending : Option Bool) (loop : Option LoopState) (guardLength : Nat)
  /-- WATCH-CLEAR (R73). -/
  | watchPending (buses : BusSet)
  /-- HAZARD-SET (R77). -/
  | hazard (v : HazardView)
  /-- HAZARD-CLEAR (R79). -/
  | hazardClear (inEffect clearTaken : BitVec 7)
  /-- TEST (R97); an absent state is REMOVED, and 0 stands for no job. -/
  | test (job : Nat) (state : Option JobState) (waitsOn takenOver evicted : Nat) (w : WatchSettings)
  /-- CUT, RETEST, RELEASE, JOB-CANCEL (R105, R107, R108); an absent state is REMOVED. -/
  | job (job : Nat) (state : Option JobState)
  /-- SPEAK, HOLD (R106). -/
  | speech (job : Nat) (s : Option Speech)
  /-- JOB-READ (R109); a job with no bus has no access state and no loop-sense. -/
  | jobRead (j : Job) (access : Option AccessState) (loop : Option LoopState)
  /-- HOLD-LIMIT-SET (R110). -/
  | holdLimit (position minutes : Nat)
  /-- SWEEP-START, SWEEP-STOP, SWEEP-DEFAULT (R120). -/
  | sweepState (state : SweepState) (cursor pass : Nat) (timer : PaceView)
  /-- SWEEP-SET (R119). -/
  | sweepSettings (pace concurrency : Nat) (mode : PassMode) (mask : BitVec 64) (state : SweepState)
  /-- SWEEP-READ (R132). -/
  | sweepRead (v : SweepView)
  /-- HEAD-ACCEPT (R135). -/
  | head (h : Head) (state : HeadState) (bus : Option Bus)
  /-- STEP-SET, STEP-READ (R140). -/
  | stepEntry (kind : StepKind) (e : StepEntry)
  /-- LINE-READ (R162). -/
  | line (line : Nat) (r : LineStatus)
  /-- TICKET-REPORT (R177). -/
  | complaint (line : Nat) (action : TicketAction) (number job : Nat) (verifyDue : Bool)
  /-- TICKET-DISPATCH, TICKET-VERIFY (R180). -/
  | ticketState (number : Nat) (state : TicketState) (verifyDue : Bool)
  /-- TICKET-CLOSE (R181); the count of children returned is given for a cable ticket. -/
  | ticketClosed (number : Nat) (returned : Option Nat)
  /-- TICKET-READ (R22, R182). -/
  | ticket (t : Ticket)
  /-- TICKET-LIST (R182). -/
  | ticketList (filter page total : Nat) (numbers : List Nat)
  /-- TICKET-ERASE (R183). -/
  | erased (count : Nat)
  /-- ROLLUP-SET (R184). -/
  | rollup (count window stormWindow : Nat)
  deriving DecidableEq, Repr

/-! ## Fields of no stated code or width (log 11) -/

/-- The fields of messages whose number has no stated width, or no stated code for none. -/
inductive FieldName where
  | queueOrder
  | startMark
  | bus
  | waitOrder
  | holdLimit
  | hazardHold
  | takeover
  | claim
  | holdingBus
  | streak
  | lastPass
  | matches
  | onPage
  | returned
  | cursor
  | pass
  | tested
  | faults
  | marginal
  | skipped
  | untestable
  | sweepJobs
  | carried
  | entries
  | attempts
  | seconds
  | jobs
  | queueLevel
  | removed
  | tickets
  | line
  | job
  | inputBus
  | marked
  | outcome
  | pending
  deriving DecidableEq, Repr

/-- One field of a message with its value, where the spec gives the field no code or no width. -/
inductive OpenField where
  | number (f : FieldName) (n : Nat)
  | optional (f : FieldName) (n : Option Nat)
  /-- The priority ROUTINE, which no request carries. -/
  | routine
  | snapshot (x : Option Snapshot)
  /-- A job's state; an absent one in an ACK is REMOVED. -/
  | jobState (st : Option JobState)
  | head (h : Option JobHead)
  | suspendedFrom (st : Option JobState)
  | verdictHeld (v : Option VerdictHeld)
  | access (a : Option AccessState)
  | loopSense (l : Option LoopState)
  | sweepState (st : SweepState)
  | paceTimer (t : PaceView)
  | reason (r : Option RevisitReason)
  | ticketEvent (e : TicketEventKind)
  /-- The state of a TABLE-FULL, which names no ticket. -/
  | noTicketState
  /-- The origin of a TABLE-FULL, which names no ticket. -/
  | noTicketOrigin
  | hazardState (x : HazardState)
  | headState (x : HeadState)
  | speech (x : Option Speech)
  | resetCause (c : ResetCause)
  | storeLost (lost : Bool)
  | rate (r : BitVec 2)
  | jobNote (n : JobNote)
  | watchCause (c : WatchCause)
  | hazardEvent (e : HazardEventKind)
  /-- The new state of an EXIT or ENTER, absent for the other events. -/
  | newState (x : Option HazardState)
  | sweepEvent (e : SweepEventKind)
  deriving DecidableEq, Repr

/-- What a reply says: an ACK with its body, or a REJECT with its reason. -/
inductive ReplyContent where
  | ack (body : AckBody)
  | reject (reason : Reason)
  deriving DecidableEq, Repr

/-- A reply in the reply slot: the kind code and tag of its request, its content, and whether the transmitter has begun
to send it (R5, R10). -/
structure Reply where
  code : Byte
  tag : Byte
  content : ReplyContent
  begun : Bool
  deriving DecidableEq, Repr

end Sys2Proof.Machine
end

