-- ==== Sys2Proof/Config.lean ====
section
/-! DEFINITION. The constants of the spec's numbers table, and the free values: what the spec leaves open and the model
does not choose. -/

namespace Sys2Proof

/-- FREE VALUE (log 11; DESIGN CHOICE): the bytes of one field of a message for which the spec gives no code or no width.
Nothing constrains it. -/
opaque Config.fieldBytes : Machine.OpenField → List Byte

/-- FREE VALUE (log 11; DESIGN CHOICE): the byte by which the source level of FV reads as none in the layout of STEP-SET
(R140). Nothing constrains it. -/
opaque Config.noLevel : Byte

/-- FREE VALUE (log 36; DESIGN CHOICE): the limit at a position of the snapshot of a line that has class 0 (R30): class 0
has no profile, and the spec states no limits there. Nothing constrains it. -/
opaque Config.classZeroLimit : Nat → Nat

/-- 20 ms: the inter-byte timeout (R3). -/
def Config.interByte : Nat := 160
/-- One second (R14). -/
def Config.second : Nat := 8000
/-- 50 ms: the hazard input release filter (R75). -/
def Config.releaseFilter : Nat := 400
/-- 10 ms: the unit of the guard window length (R61). -/
def Config.guardUnit : Nat := 80
/-- 100 ms: the unit of the pace (R118). -/
def Config.paceUnit : Nat := 800
/-- 60 s: the revisit back-off (R129). -/
def Config.backOff : Nat := 480000
/-- One minute: the unit of the hold limits (R110). -/
def Config.minute : Nat := 480000
/-- The report queue holds 32 reports (R11). -/
def Config.queuePlaces : Nat := 32
/-- The job table holds 16 jobs (R92). -/
def Config.jobPlaces : Nat := 16
/-- The ticket table holds 128 tickets (R172). -/
def Config.ticketPlaces : Nat := 128
/-- The revisit list holds 16 entries (R129). -/
def Config.revisitPlaces : Nat := 16

end Sys2Proof
end

