-- ==== Sys2Proof/Machine/State.lean ====
section
/-! DEFINITION. The state of the part, block by block, the reasons a step could stop, and the state after reset. -/

namespace Sys2Proof.Machine

/-- The levels standing on the input pins. Loop sense is `true` for present, a hazard input for active (keys 0 to 5 are
HAZA0 to HAZA5 and key 6 is HAZB), a presence input for active; an unlisted loop or hazard input is low and an unlisted
presence input is active. -/
structure Pins where
  supplyGood : Bool
  reset : Bool
  rate : BitVec 2
  loops : Table Bool
  hazards : Table Bool
  heads : Table Bool
  deriving DecidableEq, Repr

/-- The receiver (R2). COLLECT holds the frame length and the bytes kept, oldest first. -/
inductive Receiver where
  | hunt
  | length
  | collect (len : Nat) (got : List Byte)
  deriving DecidableEq, Repr

/-- The transmitter (R10). -/
inductive Transmitter where
  | idle
  | reply (r : Reply)
  | report (r : Report)
  deriving DecidableEq, Repr

/-- The Desk Link (01). `rxEnd` and `nextSecond` are the moments R3 and R14 count from. -/
structure Link where
  rx : Receiver
  rxEnd : Moment
  slot : Option Reply
  tx : Transmitter
  queue : List Report
  lost : Nat
  rate : BitVec 2
  time : BitVec 32
  timeSet : Bool
  nextSecond : Moment
  supplyFall : Bool
  requestReset : Bool
  deriving DecidableEq, Repr

/-- An exchange cut of the reset drop that is still open, with the moment it closes (R59). -/
structure DropEntry where
  line : Nat
  runsOut : Moment
  deriving DecidableEq, Repr

/-- The reset under way, the starting phase, and the cause START names (R18, R59). -/
structure Resets where
  active : Bool
  cause : ResetCause
  starting : Bool
  drop : List DropEntry
  storeLost : Bool
  deriving DecidableEq, Repr

/-- The Configuration Store (02). -/
structure Store where
  directory : Table DirEntry
  profiles : Table Profile
  routes : Table Route
  intervalA : ReleaseInterval
  intervalB : ReleaseInterval
  deriving DecidableEq, Repr

/-- The Access Controller's bus table and the relay drive port (03). -/
structure Access where
  buses : Table BusRecord
  relays : Table LineRelays
  groupSel : Table (Option Bus)
  headSel : Table (Option Head)
  speechSel : Table (Option Speech)
  deriving DecidableEq, Repr

/-- Bus Watch (04). The guard window length is in units of 10 ms. -/
structure Watches where
  records : Table WatchRecord
  guardLength : Nat
  deriving DecidableEq, Repr

/-- The Hazard Unit (05). -/
structure Hazards where
  settingsA : HazardSettings
  settingsB : HazardSettings
  holdTime : Nat
  records : Table HazardRecord
  storm : Condition
  deriving DecidableEq, Repr

/-- The Job Scheduler (06). -/
structure Sched where
  jobs : List Job
  lastId : Nat
  nextQueue : Nat
  nextStart : Nat
  nextWait : Nat
  holdLimits : Table Nat
  deriving DecidableEq, Repr

/-- The Sweep Unit (07). -/
structure Sweep where
  state : SweepState
  pace : Nat
  concurrency : Nat
  passMode : PassMode
  mask : BitVec 64
  timer : PaceTimer
  cursor : Nat
  pass : Nat
  stats : PassStats
  revisit : List RevisitEntry
  notes : List IssueNote
  deriving DecidableEq, Repr

/-- The Measurement Engine (08). -/
structure Engine where
  heads : Table HeadRecord
  steps : StepTable
  deriving DecidableEq, Repr

/-- The Ticket Unit (11); the table, the next number and the marker are battery-backed (R172). -/
structure Tickets where
  table : List Ticket
  next : Nat
  valid : Bool
  rollCount : Nat
  rollWindow : Nat
  stormWindow : Nat
  deriving DecidableEq, Repr

/-- The whole part. `pending` is the queue of waiting commands, `now` the elapsed clock and `port` the head-port messages
of the latest event: the model's own fields. -/
structure State where
  pending : List Instr
  now : Moment
  port : List PortMessage
  pins : Pins
  resets : Resets
  link : Link
  store : Store
  access : Access
  watches : Watches
  hazards : Hazards
  sched : Sched
  sweep : Sweep
  engine : Engine
  lines : Table LineStatus
  tickets : Tickets
  deriving DecidableEq, Repr

/-- The reasons the part could stop with a fault. The spec gives none: every refusal is a REJECT or a report and the part
goes on, so nothing raises this one. Safe: it is never answered. -/
inductive Fault where
  /-- Raised by no meaning: the spec describes no event that stops the part. Safe. -/
  | never
  deriving DecidableEq, Repr

/-- The reasons a command could be refused by the model. -/
inductive Refusal where
  /-- Raised by `exec`'s arm of a command that has no meaning yet; no arm does. Safe. -/
  | notModelled (mnemonic : String)
  deriving DecidableEq, Repr

/-! ## Reset values of the blocks -/

def Pins.initial : Pins := ⟨true, false, 0#2, [], [], []⟩

def Link.initial : Link :=
  ⟨.hunt, 0, none, .idle, [], 0, 0#2, 0#32, false, Config.second, false, false⟩

def Store.initial : Store := ⟨[], [], [], ReleaseInterval.initial, ReleaseInterval.initial⟩

def Access.initial : Access := ⟨[], [], [], [], []⟩

def Watches.initial : Watches := ⟨[], 10⟩

def Hazards.initial : Hazards :=
  ⟨HazardSettings.initialA, HazardSettings.initialB, 60, [], Condition.initial⟩

def Sched.initial : Sched := ⟨[], 0, 1, 1, 1, []⟩

def Sweep.initial : Sweep :=
  ⟨.stopped, 20, 1, .single, BitVec.allOnes 64, .none, 0, 0, PassStats.zero, [], []⟩

def Engine.initial : Engine := ⟨[], StepTable.initial⟩

/-- An empty ticket store with its counter at 1 (R186) and the ROLLUP defaults (R184). -/
def Tickets.initial : Tickets := ⟨[], 1, true, 8, 10, 30⟩

/-- The part at the end of a power reset, in the first event of its starting phase (R18), its pins as log 4 says and its
battery-backed store as log 5 says. -/
def State.reset : State :=
  { pending := [], now := 0, port := [], pins := Pins.initial
    resets := ⟨false, .power, true, [], false⟩
    link := Link.initial, store := Store.initial, access := Access.initial, watches := Watches.initial
    hazards := Hazards.initial, sched := Sched.initial, sweep := Sweep.initial, engine := Engine.initial
    lines := [], tickets := Tickets.initial }

end Sys2Proof.Machine
end

