-- ==== Sys2Proof/Machine/Table.lean ====
section
/-! DEFINITION. The operations of a sparse table and its canonical form: keys strictly rising, and no entry equal to the
value `d` that an unlisted key reads as. -/

namespace Sys2Proof

variable {α : Type}

/-- What key `k` reads as: its entry's value, or `d` where it is not listed. -/
def Table.get (d : α) : Table α → Nat → α
  | [], _ => d
  | (k', v) :: t, k => if k' = k then v else Table.get d t k

/-- The table without any entry of key `k`. -/
def Table.erase : Table α → Nat → Table α
  | [], _ => []
  | (k', v) :: t, k => if k' = k then Table.erase t k else (k', v) :: Table.erase t k

/-- The table with an entry put before the first larger key. -/
def Table.insert : Table α → Nat → α → Table α
  | [], k, v => [(k, v)]
  | (k', v') :: t, k, v => if k < k' then (k, v) :: (k', v') :: t else (k', v') :: Table.insert t k v

/-- The table after key `k` is set to `v`; a key set to `d` is no longer listed. -/
def Table.set [DecidableEq α] (d : α) (t : Table α) (k : Nat) (v : α) : Table α :=
  if v = d then Table.erase t k else Table.insert (Table.erase t k) k v

/-- The canonical form. -/
def Table.wf [DecidableEq α] (d : α) : Table α → Bool
  | [] => true
  | (k, v) :: t => decide (v ≠ d) && t.all (fun p => decide (k < p.1)) && Table.wf d t

end Sys2Proof
end

