-- ==== Sys2Proof/Machine/Ops.lean ====
section
/-! DEFINITION. The named operations over the state: reading and writing one record of a table, one event as a working
context, the report queue and the transmitter (R10 to R13), and the reply slot (R5, R6). -/

namespace Sys2Proof.Machine

/-- What a meaning answers. -/
abbrev Answer := Host.Outcome State Fault Refusal

/-! ## One record of a table -/

def State.busRec (s : State) (b : Bus) : BusRecord := Table.get BusRecord.initial s.access.buses b.val

def State.setBusRec (s : State) (b : Bus) (r : BusRecord) : State :=
  { s with access := { s.access with buses := Table.set BusRecord.initial s.access.buses b.val r } }

def State.relaysOf (s : State) (line : Nat) : LineRelays := Table.get LineRelays.initial s.access.relays line

def State.setRelays (s : State) (line : Nat) (r : LineRelays) : State :=
  { s with access := { s.access with relays := Table.set LineRelays.initial s.access.relays line r } }

/-- The test bus a group's selector joins (R37). -/
def State.groupSelOf (s : State) (g : Nat) : Option Bus := Table.get none s.access.groupSel g

def State.setGroupSel (s : State) (g : Nat) (b : Option Bus) : State :=
  { s with access := { s.access with groupSel := Table.set none s.access.groupSel g b } }

/-- The head that a bus's head selector joins (R37). -/
def State.headSelOf (s : State) (b : Bus) : Option Head := Table.get none s.access.headSel b.val

def State.setHeadSel (s : State) (b : Bus) (h : Option Head) : State :=
  { s with access := { s.access with headSel := Table.set none s.access.headSel b.val h } }

/-- The circuit that a bus's speech selector joins (R37). -/
def State.speechSelOf (s : State) (b : Bus) : Option Speech := Table.get none s.access.speechSel b.val

def State.setSpeechSel (s : State) (b : Bus) (p : Option Speech) : State :=
  { s with access := { s.access with speechSel := Table.set none s.access.speechSel b.val p } }

def State.watchRec (s : State) (b : Bus) : WatchRecord := Table.get WatchRecord.initial s.watches.records b.val

def State.setWatchRec (s : State) (b : Bus) (r : WatchRecord) : State :=
  { s with watches := { s.watches with records := Table.set WatchRecord.initial s.watches.records b.val r } }

def State.hazardRec (s : State) (b : Bus) : HazardRecord := Table.get HazardRecord.initial s.hazards.records b.val

def State.setHazardRec (s : State) (b : Bus) (r : HazardRecord) : State :=
  { s with hazards := { s.hazards with records := Table.set HazardRecord.initial s.hazards.records b.val r } }

def State.headRec (s : State) (h : Head) : HeadRecord := Table.get HeadRecord.initial s.engine.heads h.val

def State.setHeadRec (s : State) (h : Head) (r : HeadRecord) : State :=
  { s with engine := { s.engine with heads := Table.set HeadRecord.initial s.engine.heads h.val r } }

def State.dirEntry (s : State) (line : Nat) : DirEntry := Table.get DirEntry.initial s.store.directory line

def State.setDirEntry (s : State) (line : Nat) (e : DirEntry) : State :=
  { s with store := { s.store with directory := Table.set DirEntry.initial s.store.directory line e } }

def State.profile (s : State) (cls : Nat) : Profile := Table.get Profile.initial s.store.profiles cls

def State.setProfile (s : State) (cls : Nat) (p : Profile) : State :=
  { s with store := { s.store with profiles := Table.set Profile.initial s.store.profiles cls p } }

def State.route (s : State) (g : Nat) : Route := Table.get Route.initial s.store.routes g

def State.setRoute (s : State) (g : Nat) (r : Route) : State :=
  { s with store := { s.store with routes := Table.set Route.initial s.store.routes g r } }

def State.lineStatus (s : State) (line : Nat) : LineStatus := Table.get LineStatus.initial s.lines line

def State.setLineStatus (s : State) (line : Nat) (r : LineStatus) : State :=
  { s with lines := Table.set LineStatus.initial s.lines line r }

/-- The raw loop sense of a bus, `true` for present (R62). -/
def State.rawLoop (s : State) (b : Bus) : Bool := Table.get false s.pins.loops b.val

/-- The hold limit of a position in minutes; 10 at reset (R110). -/
def State.holdLimitOf (s : State) (position : Nat) : Nat := Table.get 10 s.sched.holdLimits position

/-- The access group of a line (R23, "Numbers Used Throughout"). -/
def groupOf (line : Nat) : Nat := line / 64

/-- The key of a hazard input in the pin table. -/
def inputKey : HazardInput → Nat
  | .a b => b.val
  | .storm => 6

def allBuses : List Bus := [0, 1, 2, 3, 4, 5]

def allHeads : List Head := [0, 1, 2, 3]

/-! ## Jobs -/

def State.job? (s : State) (id : Nat) : Option Job := s.sched.jobs.find? (fun j => j.id == id)

def State.setJobs (s : State) (js : List Job) : State := { s with sched := { s.sched with jobs := js } }

/-- The job with this id is changed by `f`. -/
def State.updJob (s : State) (id : Nat) (f : Job → Job) : State :=
  s.setJobs (s.sched.jobs.map fun j => if j.id = id then f j else j)

/-! ## Tickets -/

def State.ticket? (s : State) (n : Nat) : Option Ticket := s.tickets.table.find? (fun t => t.number == n)

/-! ## The elapsed clock (log 2) -/

/-- The clock stands at moment `m` or later: the event that runs a timer out comes no sooner than its moment. -/
def State.reach (s : State) (m : Moment) : State := { s with now := max s.now m }

/-! ## One event as a working context -/

/-- A report raised in an event, before it joins the queue. JOB-STATE is filled in at the event's end (R95). -/
inductive OutItem where
  /-- A report of the Hazard Unit, Bus Watch, the Ticket Unit or the link: ahead of the scheduler's (R95, R187). -/
  | early (r : Report)
  /-- A report of the scheduler or of a sweep issue, in its place among them. -/
  | late (r : Report)
  /-- The SWEEP-EVENT of a hand-over: behind the scheduler's reports (R131). -/
  | last (r : Report)
  /-- The one JOB-STATE of a job in this event (R95). -/
  | jobState (id : Nat) (note : JobNote) (recipeEnd : Bool)
  deriving DecidableEq, Repr

/-- The state within an event, the reports raised so far in it, and whether a queue walk (R99) and an issue attempt
(R123) are due in it. -/
structure Ctx where
  s : State
  out : List OutItem
  walkDue : Bool
  issueDue : Bool
  deriving DecidableEq, Repr

/-- The start of an event: no report raised, nothing sent over the head port. -/
def Ctx.of (s : State) : Ctx := ⟨{ s with port := [] }, [], false, false⟩

def Ctx.upd (c : Ctx) (f : State → State) : Ctx := { c with s := f c.s }

def Ctx.put (c : Ctx) (i : OutItem) : Ctx := { c with out := c.out ++ [i] }

def Ctx.walk (c : Ctx) : Ctx := { c with walkDue := true }

def Ctx.issue (c : Ctx) : Ctx := { c with issueDue := true }

def Ctx.send (c : Ctx) (m : PortMessage) : Ctx := c.upd fun s => { s with port := s.port ++ [m] }

/-- The JOB-STATE item of a job, if this event holds one. -/
def OutItem.isStateOf (id : Nat) : OutItem → Bool
  | .jobState id' _ _ => id' == id
  | _ => false

/-- The job's note so far in this event. -/
def noteSoFar (id : Nat) : List OutItem → JobNote
  | [] => .none
  | .jobState id' n _ :: t => if id' = id then n else noteSoFar id t
  | _ :: t => noteSoFar id t

/-- The job changed state, or met one of the other causes of R95: its one JOB-STATE stands at its latest change, with the
note of the first change that carries one (log 14). -/
def Ctx.jobChanged (c : Ctx) (id : Nat) (note : JobNote) (recipeEnd : Bool := false) : Ctx :=
  let before := noteSoFar id c.out
  let note := if before = .none then note else before
  { c with out := c.out.filter (fun i => !i.isStateOf id) ++ [.jobState id note recipeEnd] }

/-- A job that has left the table has no JOB-STATE in this event (log 14). -/
def Ctx.jobGone (c : Ctx) (id : Nat) : Ctx := { c with out := c.out.filter (fun i => !i.isStateOf id) }

/-! ## The report queue (R11, R12) -/

/-- The places taken in the queue; the place held for START counts as one (R11). -/
def State.queueUsed (s : State) : Nat := s.link.queue.length + (if s.resets.starting then 1 else 0)

/-- A report joins the queue at the tail, or is lost and counted (R11). -/
def State.raise (s : State) (r : Report) : State :=
  if s.queueUsed < Config.queuePlaces then
    { s with link := { s.link with queue := s.link.queue ++ [r] } }
  else
    { s with link := { s.link with lost := min 255 (s.link.lost + 1) } }

def Report.isOverflow : Report → Bool
  | .overflow _ => true
  | _ => false

/-- What a leave adds to the queue behind it: an OVERFLOW carrying the lost count, where there is one and none waits
(R12). -/
def afterLeave (l : Link) : Link :=
  if 0 < l.lost ∧ l.queue.all (fun r => !r.isOverflow) then
    { l with queue := l.queue ++ [.overflow l.lost], lost := 0 }
  else l

/-- An idle transmitter begins the reply that waits in the slot, or else the oldest report outside the starting phase
(R10); a report leaves the queue as its sending begins (R11, R12). Nothing is sent while a reset is under way. -/
def State.pump (s : State) : State :=
  if s.resets.active then s
  else match s.link.tx with
  | .idle =>
    match s.link.slot.filter (fun r => !r.begun) with
    | some r =>
      { s with link := { s.link with slot := some { r with begun := true }, tx := .reply { r with begun := true } } }
    | none =>
      if s.resets.starting then s
      else match s.link.queue with
      | [] => s
      | q :: rest => { s with link := afterLeave { s.link with queue := rest, tx := .report q } }
  | _ => s

/-! ## The end of an event -/

/-- The JOB-STATE of a job as the event leaves it (R95). -/
def jobStateReport (s : State) (j : Job) (note : JobNote) (recipeEnd : Bool) : Report :=
  .jobState ⟨j.id, j.source, j.line, j.state, j.bus, j.head, j.step, note, j.losses,
    if recipeEnd ∧ j.state = .held then j.verdict else none, s.link.time⟩

/-- A TICKET-EVENT gives its ticket as the event leaves it (R187; log 22). EVICTED gives the ticket that has left the table,
and TABLE-FULL names none. -/
def TicketEvent.atEnd (s : State) (e : TicketEvent) : TicketEvent :=
  if e.event = .evicted ∨ e.event = .tableFull then e
  else match s.ticket? e.number with
    | none => e
    | some t => { e with cls := t.cls, state := some t.state, parent := t.parent, members := t.members
                         origin := some t.origin, repeats := t.repeats }

/-- What the end of the event fills in: a WATCH-EVENT gives the bus's debounced state after the event (R69), which is ABSENT where a
yield has returned the bus to IDLE (R61); a SWEEP-EVENT the sweep state after it (R131), and a TICKET-EVENT its ticket (R187). -/
def Report.atEnd (s : State) : Report → Report
  | .watch e => .watch { e with loop := (s.watchRec e.bus).loop }
  | .sweep e => .sweep { e with state := s.sweep.state }
  | .ticket e => .ticket (e.atEnd s)
  | r => r

/-- The report an item stands for at the end of the event. -/
def OutItem.report (s : State) : OutItem → Option Report
  | .early r => some (r.atEnd s)
  | .late r => some (r.atEnd s)
  | .last r => some (r.atEnd s)
  | .jobState id note re => (s.job? id).map fun j => jobStateReport s j note re

/-- The order of an event's reports: those of the other blocks, then the scheduler's, then the hand-overs' (R90, R95,
R131, R187; log 15). -/
def ordered (out : List OutItem) : List OutItem :=
  out.filter (fun | .early _ => true | _ => false)
    ++ out.filter (fun | .late _ => true | .jobState _ _ _ => true | _ => false)
    ++ out.filter (fun | .last _ => true | _ => false)

/-- The end of an event: its reports join the queue in their order and an idle transmitter starts (log 10). -/
def Ctx.finish (c : Ctx) : State :=
  (((ordered c.out).filterMap (OutItem.report c.s)).foldl State.raise c.s).pump

/-! ## Requests (R5, R6) -/

/-- What the owner of a request answers: a REJECT, which leaves everything as it was, or the event's context after the
request's effects with the body of its ACK, read from the state as those effects leave it (R6). -/
inductive Served where
  | rejected (r : Reason)
  | done (c : Ctx) (body : State → AckBody)

/-- A reply is placed in the slot (R5). -/
def State.reply (s : State) (code tag : Byte) (content : ReplyContent) : State :=
  { s with link := { s.link with slot := some ⟨code, tag, content, false⟩ } }

/-- The receiver returns to HUNT (R4). -/
def State.hunt (s : State) : State := { s with link := { s.link with rx := .hunt } }

/-- A LINK-ERROR is queued (R4). -/
def Ctx.linkError (c : Ctx) (reason : LinkErrorReason) (kind tag : Byte) (bytes : Nat) : Ctx :=
  c.put (.early (.linkError reason kind tag bytes))

/-- The tests of R6 on a request of a listed kind that meets an empty slot, and its owner's answer. -/
def serve (lengthOk : Bool) (owner : Ctx → Served) (code tag : Byte) (c : Ctx) : State :=
  let refuse (r : Reason) : State := Ctx.finish (c.upd fun s => s.reply code tag (.reject r))
  if lengthOk = false then refuse .badLength
  else if c.s.pins.supplyGood = false then refuse .supply
  else if c.s.resets.starting then refuse .starting
  else match owner c with
    | .rejected r => refuse r
    | .done c' body => Ctx.finish (c'.upd fun s => s.reply code tag (.ack (body s)))

/-- A frame with a good check has completed: the tag test of R4, the slot test of R5, and then `k`. While a reset is under
way no frame is received (log 7). -/
def frameCompleted (code tag : Byte) (k : Ctx → State) (s : State) : State :=
  if s.resets.active then { s with port := [] }
  else
    let c := (Ctx.of s).upd State.hunt
    if tag = 0#8 then Ctx.finish (c.linkError .tag code 0#8 0)
    else if s.link.slot.isSome then Ctx.finish (c.linkError .overrun code tag 0)
    else k c

/-- A whole request frame of a listed kind (R4 to R6). -/
def requestFrame (code : Byte) (lengthOk : List Byte → Bool) (owner : List Byte → Ctx → Served)
    (tag : Byte) (body : List Byte) (s : State) : State :=
  frameCompleted code tag (serve (lengthOk body) (owner body) code tag) s

/-- An event of the part that is no request: `f` within a context, then its end. -/
def event (f : Ctx → Ctx) (s : State) : State := Ctx.finish (f (Ctx.of s))

/-! ## Small computations -/

/-- A saturating increase by one. -/
def satInc (top n : Nat) : Nat := min top (n + 1)

/-- A setting clamped to its range (R9). -/
def clamp (lo hi n : Nat) : Nat := max lo (min hi n)

/-- The bus set of one bus. -/
def busBit (b : Bus) : BusSet := 1#6 <<< b.val

/-- The set after a form of R31, R77: add the members, remove them, or become them. -/
inductive SetForm where
  | add
  | remove
  | replace
  deriving DecidableEq, Repr

def SetForm.apply {w : Nat} : SetForm → BitVec w → BitVec w → BitVec w
  | .add, old, m => old ||| m
  | .remove, old, m => old &&& ~~~m
  | .replace, _, m => m

/-- The set of the buses for which `f` holds. -/
def busMask (f : Bus → Bool) : BusSet :=
  allBuses.foldl (fun m b => if f b then m ||| busBit b else m) 0#6

end Sys2Proof.Machine
end

