-- ==== Sys2Proof/Machine/Flags.lean ====
section
/-! DEFINITION. The arithmetic of a completed step with every flag it sets (09, R151 to R159), the accumulation of a sample
pair (section 8.5), and the computed output ATTN (R13). -/

namespace Sys2Proof.Machine

/-- ATTN is asserted while the queue holds a report outside the starting phase and no reset is under way (R13). -/
def State.attn (s : State) : Bool :=
  !s.resets.active && !s.resets.starting && !s.link.queue.isEmpty

/-! ## Sample counts -/

/-- A clipped count stands at an end of the scale (R138). -/
def clipped (x : BitVec 16) : Bool := x == 0x7FFF#16 || x == 0x8000#16

/-- The accumulators after one more pair (R144). -/
def Accumulators.add (a : Accumulators) (v i : BitVec 16) : Accumulators :=
  let x := v.toInt
  let first := a.count = 0
  { count := a.count + 1
    sumV := a.sumV + x
    sumI := a.sumI + i.toInt
    vMax := if first then x else max a.vMax x
    vMin := if first then x else min a.vMin x
    vFirst := if first then x else a.vFirst
    vLast := x
    vClip := if a.vClip = none ∧ clipped v then some a.count else a.vClip
    vBefore := if a.vClip = none ∧ clipped v then (if first then none else some a.vLast) else a.vBefore
    iClip := a.iClip || clipped i }

/-! ## Foreign voltage -/

/-- The DC voltage in mV: 5 × Σv / K rounded half away from zero (R154). -/
def dcVoltage (k : Nat) (sumV : Int) : Int :=
  let mag : Int := ((10 * sumV.natAbs + k) / (2 * k) : Nat)
  if sumV < 0 then -mag else mag

/-- The AC peak in mV: floor(5 × (vmax − vmin) / 2) (R155). -/
def acPeak (vMax vMin : Int) : Nat := (5 * (vMax - vMin) / 2).toNat

/-! ## Resistance -/

/-- N of R156: 500,000 in LO, 5,000 in HI. -/
def ohmsPerCount : MeasureRange → Nat
  | .lo => 500000
  | .hi => 5000

/-- The top of the resistance range (R153). -/
def topOhms : Nat := 50000000

/-- One sum strictly positive and the other strictly negative (R156). -/
def oppositeSign (x y : Int) : Bool := (0 < x && y < 0) || (x < 0 && 0 < y)

/-- R = floor((2 × N × |Σv| + |Σi|) / (2 × |Σi|)) (R157). -/
def roundedOhms (n : Nat) (sumV sumI : Int) : Nat :=
  (2 * n * sumV.natAbs + sumI.natAbs) / (2 * sumI.natAbs)

/-- The resistance and its flags by the first case of R156 that holds; CLIP is added for a clipped v. -/
def resistance (k : Nat) (range : MeasureRange) (a : Accumulators) : Nat × ResultFlags :=
  let clip := a.vClip.isSome
  if a.sumV = 0 ∧ a.sumI = 0 then (topOhms, { overRange := true, clip := clip })
  else if oppositeSign a.sumV a.sumI ∨ (a.sumV = 0 ∧ a.sumI ≠ 0) then (0, { foreign := true, clip := clip })
  else if a.sumI.natAbs < 4 * k then (topOhms, { overRange := true, clip := clip })
  else if range = .hi ∧ a.iClip then (0, { underRange := true, clip := clip })
  else
    let r := roundedOhms (ohmsPerCount range) a.sumV a.sumI
    if topOhms < r then (topOhms, { overRange := true, clip := clip }) else (r, { clip := clip })

/-! ## Capacitance -/

/-- The top of the capacitance and distance ranges (R153). -/
def topWord : Nat := 65535

/-- C of R158, case 3, in tenths of a nanofarad: q is 10 nA, `dv` is positive. -/
def roundedCap (k kEff t : Nat) (sumI : Int) (dv : Nat) : Nat :=
  (2 * 10 * sumI.natAbs * (kEff - 1) * t + 500 * k * dv) / (2 * 500 * k * dv)

/-- The capacitance and its flags by the first case of R158 that holds; `t` is the trigger interval in µs. -/
def capacitance (k t : Nat) (a : Accumulators) : Nat × ResultFlags :=
  let clip := a.vClip.isSome
  let kEff := a.vClip.getD k
  let vLast := if clip then a.vBefore.getD 0 else a.vLast
  let dv := vLast - a.vFirst
  if kEff < 2 then (0, { underRange := true, clip := true })
  else if dv ≤ 4 then (topWord, { overRange := true, clip := clip })
  else
    let c := roundedCap k kEff t a.sumI dv.toNat
    if topWord < c then (topWord, { overRange := true, clip := clip }) else (c, { clip := clip })

/-! ## The result of a step -/

/-- The trigger interval in µs: n × period × 125 (R158). -/
def StepEntry.interval (e : StepEntry) : Nat := e.post * e.period * 125

/-- The result of a completed step (R151, R152). -/
def computeResult (h : StepInHand) : StepResult :=
  let k := h.snapshot.samples
  match h.kind with
  | .fv =>
    ⟨.fv, h.leg, some .lo, { clip := h.acc.vClip.isSome }, dcVoltage k h.acc.sumV, acPeak h.acc.vMax h.acc.vMin⟩
  | .ir => let r := resistance k h.range h.acc; ⟨.ir, h.leg, some h.range, r.2, r.1, 0⟩
  | .lr => let r := resistance k h.range h.acc; ⟨.lr, h.leg, some h.range, r.2, r.1, 0⟩
  | .cap => let r := capacitance k h.snapshot.interval h.acc; ⟨.cap, h.leg, some .lo, r.2, r.1, 0⟩

/-- The result entered for an aborted step (R148). -/
def abortedResult (kind : StepKind) (leg : Leg) : StepResult := ⟨kind, leg, none, { aborted := true }, 0, 0⟩

/-- The result entered for a skipped step (R147). -/
def skippedResult (s : RecipeStep) : StepResult := ⟨s.kind, s.leg, none, { skipped := true }, 0, 0⟩

/-- A result has a value unless flagged FOREIGN, SKIPPED or ABORTED (R160). -/
def StepResult.hasValue (r : StepResult) : Bool := !(r.flags.foreign || r.flags.skipped || r.flags.aborted)

/-- The distance to an open in metres (R159). -/
def openDistance (c capPerKm : Nat) : Nat := min topWord ((2 * 100 * c + capPerKm) / (2 * capPerKm))

/-- The job's results hold an FV result at or above fv_danger (R147). -/
def underDanger (fvDanger : Nat) (rs : List StepResult) : Bool :=
  rs.any fun r => r.kind == .fv && r.hasValue && (fvDanger ≤ r.value1.natAbs || fvDanger ≤ r.value2)

end Sys2Proof.Machine
end

