-- ==== Sys2Proof/Machine/Access.lean ====
section
/-! DEFINITION. The Access Controller: the take rule, the transitions of a bus record with the relays and selectors each
moves in its one event (03), and what Bus Watch does at each change of sense path (R61, R62). Each operation here acts on
a request that is taken; the caller tests whether it is. -/

namespace Sys2Proof.Machine

/-! ## Release intervals (R34, R35) -/

def unitLength : IntervalUnit → Nat
  | .half => 4
  | .one => 8
  | .two => 16
  | .four => 32

/-- A release interval's duration in units of 125 µs. -/
def ReleaseInterval.duration (i : ReleaseInterval) : Nat := i.count * unitLength i.unit

def State.intervalOf (s : State) : IntervalName → ReleaseInterval
  | .a => s.store.intervalA
  | .b => s.store.intervalB

/-- The connect interval a transition of this line takes now (R35). -/
def State.connectTaken (s : State) (line : Nat) : HeldInterval :=
  let d := (s.intervalOf (s.route (groupOf line)).connect).duration
  ⟨.connect, d, s.now + d⟩

/-- The restore interval a transition of this line takes now (R35). -/
def State.restoreTaken (s : State) (line : Nat) : HeldInterval :=
  let d := (s.intervalOf (s.route (groupOf line)).restore).duration
  ⟨.restore, d, s.now + d⟩

/-! ## Sense paths (R58, R62, R63) -/

inductive SensePath where
  | bridge
  | testPath
  deriving DecidableEq, Repr

def sensePath : AccessState → Option SensePath
  | .guard => some .bridge
  | .monitor => some .bridge
  | .connected => some .testPath
  | _ => none

def LoopState.ofRaw (present : Bool) : LoopState := if present then .present else .absent

/-- 2^n times the base (R63): 0.25 ms is 2 units and 4 ms is 32. -/
def WatchSettings.debounce (w : WatchSettings) : Nat :=
  2 ^ w.n * (match w.base with | .quarter => 2 | .four => 32)

/-- The raw input is compared with the debounced state, and a timer starts if they differ (R62, R63). -/
def WatchRecord.compare (raw : Bool) (now : Moment) (w : WatchRecord) : WatchRecord :=
  if LoopState.ofRaw raw = w.loop then w
  else { w with timer := some ⟨w.settings.debounce, LoopState.ofRaw raw, now + w.settings.debounce⟩ }

/-- A watch record across a transition of its access: the IDLE values on a return to IDLE (R61), the timer dropped and the
raw input compared at a change of path (R62), the guard window ended on leaving GUARD (R65). -/
def WatchRecord.across (raw : Bool) (now : Moment) (old new : AccessState) (w : WatchRecord) : WatchRecord :=
  if new = .idle then (if old = .idle then w else WatchRecord.initial)
  else
    let w :=
      if sensePath old = sensePath new then w
      else if (sensePath new).isSome then ({ w with timer := none } : WatchRecord).compare raw now
      else { w with timer := none }
    if new = .guard then w else { w with guard := none }

/-- A bus record is written as one transition, and Bus Watch is told of it in the same event (R41, R58). -/
def State.putBus (s : State) (b : Bus) (r : BusRecord) : State :=
  (s.setBusRec b r).setWatchRec b
    ((s.watchRec b).across (s.rawLoop b) s.now (s.busRec b).access r.access)

/-! ## Relays and selectors -/

def State.moveRelays (s : State) (line : Option Nat) (f : LineRelays → LineRelays) : State :=
  match line with
  | some l => s.setRelays l (f (s.relaysOf l))
  | none => s

/-- The group selector of the line's group releases (R37). -/
def State.freeGroup (s : State) (line : Option Nat) : State :=
  match line with
  | some l => s.setGroupSel (groupOf l) none
  | none => s

/-- Detach speech (R49): the selector releases, and a CONNECTED record returns to HOLD. -/
def State.detachSpeech (s : State) (b : Bus) : State :=
  let r := s.busRec b
  if r.speech.isSome then
    (s.setSpeechSel b none).setBusRec b { r with speech := none, func := if r.func = .speak then .hold else r.func }
  else s

/-- Detach head (R48): the selector releases, and the function returns to HOLD. -/
def State.detachHead (s : State) (b : Bus) : State :=
  let r := s.busRec b
  if r.head.isSome then
    (s.setHeadSel b none).setBusRec b { r with head := none, func := if r.func = .measure then .hold else r.func }
  else s

/-- The access returns to IDLE: the record is cleared, but for line and owner under a reserve mark, and the group selector
releases (R37, R40, R56). -/
def State.toIdle (s : State) (b : Bus) : State :=
  let r := s.busRec b
  let kept : BusRecord :=
    if r.reserveMark then { BusRecord.initial with line := r.line, owner := r.owner, reserveMark := true }
    else BusRecord.initial
  (s.freeGroup r.line).putBus b kept

/-! ## Taking a line -/

/-- Another bus record names a line of this line's group (R38). -/
def State.groupHeldElsewhere (s : State) (b : Bus) (line : Nat) : Bool :=
  allBuses.any fun b' => b' != b && (match (s.busRec b').line with | some l => groupOf l == groupOf line | none => false)

/-- Some bus record names a line of this group (R99). -/
def State.groupHeld (s : State) (g : Nat) : Bool :=
  allBuses.any fun b => match (s.busRec b).line with | some l => groupOf l == g | none => false

/-- A bus is allocatable: IDLE, no owner, no hazard state (R40). -/
def State.allocatable (s : State) (b : Bus) : Bool :=
  (s.busRec b).access == .idle && (s.busRec b).owner.isNone && (s.hazardRec b).state == .none

/-- The take rule (R38, R41). -/
def State.takeOk (s : State) (b : Bus) (job line : Nat) : Bool :=
  let r := s.busRec b
  s.pins.supplyGood && (s.hazardRec b).state == .none && r.access == .idle
    && (r.owner.isNone || (r.owner == some job && r.line == some line))
    && !s.groupHeldElsewhere b line

/-- A guard window starts (R64). -/
def State.startGuard (s : State) (b : Bus) : State :=
  s.setWatchRec b { s.watchRec b with guard := some (s.now + s.watches.guardLength * Config.guardUnit) }

/-- A job's watch settings are written into a bus's watch record (R74). -/
def State.writeWatch (s : State) (b : Bus) (w : WatchSettings) : State :=
  s.setWatchRec b { s.watchRec b with settings := w }

/-- The record of a bus that a take of this line by this job leaves in the given access state. -/
def takenRecord (access : AccessState) (job line : Nat) (interval : Option HeldInterval) : BusRecord :=
  { BusRecord.initial with access := access, line := some line, owner := some job, interval := interval }

/-- A take in one of its three forms (R42, R44, R45), the job's watch settings written before it (R74). -/
def State.take (s : State) (form : AccessMode) (b : Bus) (job line : Nat) (w : WatchSettings) : State :=
  let s := (s.writeWatch b w).setGroupSel (groupOf line) (some b)
  match form with
  | .guarded =>
    ((s.moveRelays (some line) fun r => { r with bridge := true }).putBus b (takenRecord .guard job line none)).startGuard b
  | .forced =>
    (s.moveRelays (some line) fun r => { r with cutOpen := true }).putBus b
      (takenRecord .cutting job line (some (s.connectTaken line)))
  | .monitorOnly =>
    (s.moveRelays (some line) fun r => { r with bridge := true }).putBus b (takenRecord .monitor job line none)

/-- The connect interval of a record's line, taken now; none where the record names no line. -/
def State.connectOf (s : State) (line : Option Nat) : Option HeldInterval := line.map s.connectTaken

/-- The restore interval of a record's line, taken now. -/
def State.restoreOf (s : State) (line : Option Nat) : Option HeldInterval := line.map s.restoreTaken

/-- A cut from monitor (R46). -/
def State.cutFromMonitor (s : State) (forced : Bool) (b : Bus) : State :=
  let s := s.detachSpeech b
  let r := s.busRec b
  if forced then
    (s.moveRelays r.line fun x => { x with bridge := false, cutOpen := true }).putBus b
      { r with access := .cutting, interval := s.connectOf r.line }
  else (s.putBus b { r with access := .guard }).startGuard b

/-- The guard judged IDLE-LINE (R43). -/
def State.guardIdleLine (s : State) (b : Bus) : State :=
  let r := s.busRec b
  (s.moveRelays r.line fun x => { x with bridge := false, cutOpen := true }).putBus b
    { r with access := .cutting, interval := s.connectOf r.line }

/-- The guard judged BUSY: IDLE, unreserved (R43). -/
def State.guardBusy (s : State) (b : Bus) : State :=
  let r := s.busRec b
  ((s.moveRelays r.line fun x => { x with bridge := false }).setBusRec b { r with reserveMark := false }).toIdle b

/-- The connect interval runs out (R47). -/
def State.connectEnds (s : State) (b : Bus) : State :=
  let r := s.busRec b
  if r.parkMark then s.putBus b { r with access := .parked, func := .none, interval := none, parkMark := false }
  else
    (s.moveRelays r.line fun x => { x with testPath := true }).putBus b
      { r with access := .connected, func := .hold, interval := none }

/-- The restore interval runs out (R51). -/
def State.restoreEnds (s : State) (b : Bus) : State :=
  (s.moveRelays (s.busRec b).line fun x => { x with cutOpen := false }).toIdle b

/-! ## Functions of a connected bus -/

/-- Attach head is taken (R41, R48). -/
def State.attachHeadOk (s : State) (b : Bus) (job : Nat) (h : Head) : Bool :=
  let r := s.busRec b
  r.access == .connected && r.func == .hold && r.owner == some job
    && !allBuses.any (fun b' => b' != b && (s.busRec b').head == some h)
    && ((s.headRec h).state != .reserved || (s.headRec h).bus == some b)

/-- Attach head (R48). -/
def State.attachHead (s : State) (b : Bus) (h : Head) : State :=
  (s.setHeadSel b (some h)).setBusRec b { s.busRec b with head := some h, func := .measure }

/-- The position's circuit is joined to another bus (R49). -/
def State.speechElsewhere (s : State) (b : Bus) (position : Nat) : Bool :=
  allBuses.any fun b' => b' != b && (match (s.busRec b').speech with | some p => p.position == position | none => false)

/-- The record's state allows the attach: TALK on CONNECTED with function HOLD, LISTEN on MONITOR with no speech (R41,
R49). -/
def State.attachSpeechOk (s : State) (b : Bus) (p : Speech) : Bool :=
  let r := s.busRec b
  r.speech.isNone && (match p.mode with
    | .talk => r.access == .connected && r.func == .hold
    | .listen => r.access == .monitor)

/-- Attach speech in TALK or LISTEN (R49). -/
def State.attachSpeech (s : State) (b : Bus) (p : Speech) : State :=
  (s.setSpeechSel b (some p)).setBusRec b
    { s.busRec b with speech := some p, func := if p.mode = .talk then .speak else (s.busRec b).func }

/-- Transfer (R50). -/
def State.transfer (s : State) (b : Bus) (job : Nat) : State :=
  s.setBusRec b { s.busRec b with owner := some job }

/-! ## Release, park, isolate, resume -/

/-- A release (R51 to R53), or with `reserve` an isolate (R56), in the record's state. -/
def State.releaseBus (s : State) (reserve : Bool) (b : Bus) : State :=
  match (s.busRec b).access with
  | .connected =>
    let s := (s.detachSpeech b).detachHead b
    let r := s.busRec b
    (s.moveRelays r.line fun x => { x with testPath := false }).putBus b
      { r with access := .releasing, func := .none, interval := s.restoreOf r.line, reserveMark := reserve }
  | .parked =>
    let r := s.busRec b
    s.putBus b { r with access := .releasing, interval := s.restoreOf r.line, reserveMark := reserve }
  | .cutting =>
    let r := s.busRec b
    ((s.moveRelays r.line fun x => { x with cutOpen := false }).setBusRec b { r with reserveMark := reserve }).toIdle b
  | .guard =>
    let r := s.busRec b
    ((s.moveRelays r.line fun x => { x with bridge := false }).setBusRec b { r with reserveMark := reserve }).toIdle b
  | .monitor =>
    let s := s.detachSpeech b
    let r := s.busRec b
    ((s.moveRelays r.line fun x => { x with bridge := false }).setBusRec b { r with reserveMark := reserve }).toIdle b
  | .releasing => if reserve then s else s.setBusRec b { s.busRec b with reserveMark := false }
  | .idle => if reserve then s else s.setBusRec b BusRecord.initial

/-- A park (R55). -/
def State.park (s : State) (b : Bus) : State :=
  match (s.busRec b).access with
  | .connected =>
    let s := (s.detachSpeech b).detachHead b
    let r := s.busRec b
    (s.moveRelays r.line fun x => { x with testPath := false }).putBus b { r with access := .parked, func := .none }
  | .cutting => s.setBusRec b { s.busRec b with parkMark := true }
  | .guard => s.releaseBus true b
  | .monitor => s.releaseBus true b
  | _ => s

/-- A resume (R57). -/
def State.resume (s : State) (b : Bus) : State :=
  let r := s.busRec b
  match r.access with
  | .parked =>
    (s.moveRelays r.line fun x => { x with testPath := true }).putBus b { r with access := .connected, func := .hold }
  | .cutting => s.setBusRec b { r with parkMark := false }
  | _ => s

/-- The relay drop at the fall of SUPPLY-GOOD (R60): every relay released, every selector none, every record reset. -/
def State.dropAll (s : State) : State :=
  { s with access := Access.initial, watches := { s.watches with records := [] } }

/-- The loop-sense value read in STATUS and JOB-READ; NONE in IDLE (R58). -/
def State.loopSense (s : State) (b : Bus) : Option LoopState :=
  if (s.busRec b).access = .idle then none else some (s.watchRec b).loop

/-- The bus whose record holds a line of the group (R33). -/
def State.holdingBus (s : State) (g : Nat) : Option Bus :=
  allBuses.find? fun b => match (s.busRec b).line with | some l => groupOf l == g | none => false

end Sys2Proof.Machine
end

