-- ==== Sys2Proof/Machine/TicketOps.lean ====
section
/-! DEFINITION. The Ticket Unit's own operations: numbering and placing tickets (R173, R174), the action table of R175, the
roll-up check (R178), the parent law (R179), and the open ticket and unticketed fields it writes (R161). -/

namespace Sys2Proof.Machine

/-- The severity rank of a class, higher for more severe (R175). -/
def TicketClass.rank : TicketClass → Nat
  | .cross => 8
  | .short => 7
  | .earthBoth => 6
  | .earthA => 5
  | .earthB => 5
  | .lowIr => 4
  | .openPair => 3
  | .marginal => 2
  | .notFound => 1
  | .unverified => 1

/-- A class is raised to another only where the other ranks strictly higher (R175). -/
def TicketClass.raisedBy (old new : TicketClass) : TicketClass := if old.rank < new.rank then new else old

/-- The class is replaced by any fault verdict (R175). -/
def TicketClass.unproven : TicketClass → Bool
  | .unverified => true
  | .notFound => true
  | _ => false

/-! ## Finding and changing tickets -/

def State.setTickets (s : State) (ts : List Ticket) : State := { s with tickets := { s.tickets with table := ts } }

def State.updTicket (s : State) (n : Nat) (f : Ticket → Ticket) : State :=
  s.setTickets (s.tickets.table.map fun t => if t.number = n then f t else t)

def Ticket.live (t : Ticket) : Bool := t.state != .closed

/-- The line's non-closed line ticket (R173). -/
def State.lineTicket? (s : State) (line : Nat) : Option Ticket :=
  s.tickets.table.find? fun t => t.kind == .line && t.line == some line && t.live

/-- A cable ticket is active while OPEN or DISPATCHED (R172). -/
def Ticket.activeCable (cable : Nat) (t : Ticket) : Bool :=
  t.kind == .cable && t.cable == cable && (t.state == .opened || t.state == .dispatched)

def State.activeCable? (s : State) (cable : Nat) : Option Ticket := s.tickets.table.find? (Ticket.activeCable cable)

def State.clearedCable? (s : State) (cable : Nat) : Option Ticket :=
  s.tickets.table.find? fun t => t.kind == .cable && t.cable == cable && t.state == .cleared

/-- Tickets stand in ascending order of number. -/
def insertTicket (t : Ticket) : List Ticket → List Ticket
  | [] => [t]
  | u :: us => if t.number < u.number then t :: u :: us else u :: insertTicket t us

/-- The open ticket field of a line (R161). -/
def State.setOpenTicket (s : State) (line : Nat) (n : Option Nat) : State :=
  s.setLineStatus line { s.lineStatus line with ticket := n }

/-- The unticketed field of a line (R161). -/
def State.setUnticketed (s : State) (line : Nat) (u : Bool) : State :=
  s.setLineStatus line { s.lineStatus line with unticketed := u }

/-! ## Reports -/

/-- TICKET-EVENT for a ticket (R187); the end of the event fills in the ticket as the event leaves it (log 22). -/
def ticketEvent (s : State) (e : TicketEventKind) (t : Ticket) : Report :=
  .ticket ⟨e, t.number, t.kind, t.line, t.cable, t.cls, some t.state, t.parent, t.members, some t.origin, t.repeats, s.link.time⟩

/-- The ticket with this number is reported. -/
def Ctx.tellTicket (c : Ctx) (e : TicketEventKind) (n : Nat) : Ctx :=
  match c.s.ticket? n with
  | some t => c.put (.early (ticketEvent c.s e t))
  | none => c

/-! ## Creation (R173, R174) -/

/-- The first number, from `n` upward and around without 0, that names no ticket in the table (R173). -/
def freeNumber (ts : List Ticket) : Nat → Nat → Nat
  | 0, n => n
  | fuel + 1, n =>
    if ts.any (fun t => t.number == n) then freeNumber ts fuel (if 65535 ≤ n then 1 else n + 1) else n

/-- Of two tickets, the one R174 evicts first: the smaller last-change time, or the lower number. -/
def evictsBefore (t u : Ticket) : Bool :=
  t.lastChange.toNat < u.lastChange.toNat || (t.lastChange == u.lastChange && t.number < u.number)

/-- The CLOSED ticket that makes room (R174). -/
def victim (ts : List Ticket) : Option Ticket :=
  (ts.filter fun t => t.state == .closed).foldl
    (fun best t => match best with | none => some t | some b => if evictsBefore t b then some t else best) none

/-- Room for one more ticket, evicting a CLOSED one from a full table; none where the raise fails (R174). -/
def Ctx.makeRoom (c : Ctx) : Option Ctx :=
  if c.s.tickets.table.length < Config.ticketPlaces then some c
  else match victim c.s.tickets.table with
    | none => none
    | some v =>
      some ((c.put (.early (ticketEvent c.s .evicted v))).upd fun s =>
        s.setTickets (s.tickets.table.filter fun t => t.number != v.number))

/-- A ticket takes its number, and the counter moves past it (R173). -/
def State.place (s : State) (t : Ticket) : State × Nat :=
  let n := freeNumber s.tickets.table (Config.ticketPlaces + 1) s.tickets.next
  ({ s with tickets := { s.tickets with table := insertTicket { t with number := n } s.tickets.table
                                        next := if 65535 ≤ n then 1 else n + 1 } }, n)

/-- A new ticket as R173 creates it: OPEN, repeat count 0, its three times now, its flags no, its parent none. -/
def newTicket (now : BitVec 32) (kind : TicketKind) (line : Option Nat) (cable : Nat) (cls : TicketClass)
    (origin : TicketOrigin) : Ticket :=
  { number := 0, kind := kind, line := line, cable := cable, cls := cls, origin := origin, state := .opened
    opened := now, lastSeen := now, lastChange := now, repeats := 0
    verifyDue := false, testOk := false, complaint := false, code := none
    evidence := [], distance := none, parent := none, members := 0 }

/-- TABLE-FULL, naming the line or cable and the class that could not be raised (R174, R187). -/
def Ctx.tellFull (c : Ctx) (kind : TicketKind) (line : Option Nat) (cable : Nat) (cls : TicketClass) : Ctx :=
  c.put (.early (.ticket ⟨.tableFull, 0, kind, line, cable, cls, none, none, 0, none, 0, c.s.link.time⟩))

/-! ## Roll-up (R178) -/

/-- The roll-up window in seconds: the storm window while the storm condition is in effect (R178, R89). -/
def State.window (s : State) : Nat :=
  60 * (if s.hazards.storm.inEffect then s.tickets.stormWindow else s.tickets.rollWindow)

/-- A ticket's age in seconds (R178). -/
def State.age (s : State) (t : Ticket) : Nat := s.link.time.toNat - t.opened.toNat

def Ticket.openOfCable (cable : Nat) (t : Ticket) : Bool := t.kind == .line && t.cable == cable && t.state == .opened

/-- A child rolls under its parent: ROLLED, its parent named, its last-change time set (R178, R172). -/
def Ticket.rollUnder (now : BitVec 32) (parent : Nat) (t : Ticket) : Ticket :=
  { t with state := .rolled, parent := some parent, lastChange := now }

/-- A ticket whose class is raised by a child's; its last-change time is set where the class changes (R172). -/
def Ticket.raiseClass (now : BitVec 32) (cls : TicketClass) (t : Ticket) : Ticket :=
  { t with cls := t.cls.raisedBy cls, lastChange := if t.cls.rank < cls.rank then now else t.lastChange }

/-- The OPEN line tickets of a cable: its members to be, in order of number (R178 item 3). -/
def State.openOf (s : State) (cable : Nat) : List Ticket := s.tickets.table.filter (Ticket.openOfCable cable)

/-- The highest-ranking class of these members of a cable ticket; of members that rank alike, the one with the lowest number
gives it (R178; log 23). -/
def membersClass : List Ticket → TicketClass
  | [] => .unverified
  | t :: ts => ts.foldl (fun cls u => cls.raisedBy u.cls) t.cls

/-- Every OPEN line ticket of the cable rolls under cable ticket `n`, whose member count and class follow (R178 item 3). -/
def State.gather (s : State) (cable n : Nat) : State :=
  let now := s.link.time
  let kids := s.openOf cable
  (s.setTickets (s.tickets.table.map fun t => if Ticket.openOfCable cable t then t.rollUnder now n else t)).updTicket n
    fun t => { t with cls := membersClass kids, members := kids.length, lastChange := now }

/-- The gathering of R178 item 3, from the ticket being checked: the cable's CLEARED ticket is reopened or a cable ticket is
created, and every OPEN line ticket of the cable rolls under it. Where none can be created, TABLE-FULL names the class the
cable ticket would have had (R174; log 23). -/
def Ctx.gatherCable (c : Ctx) (child : Ticket) : Ctx :=
  let now := c.s.link.time
  let kids := (c.s.openOf child.cable).map (·.number)
  let tellKids (c : Ctx) : Ctx := kids.foldl (fun c k => c.tellTicket .rolled k) c
  match c.s.clearedCable? child.cable with
  | some p =>
    let c := c.upd fun s => s.updTicket p.number fun t =>
      { t with state := .opened, repeats := satInc 255 t.repeats, opened := now, lastSeen := now, lastChange := now }
    tellKids ((c.upd fun s => s.gather child.cable p.number).tellTicket .cableReopened p.number)
  | none =>
    match c.makeRoom with
    | none => c.tellFull .cable none child.cable (membersClass (c.s.openOf child.cable))
    | some c =>
      let placed := c.s.place (newTicket now .cable none child.cable child.cls child.origin)
      tellKids ((({ c with s := placed.1 } : Ctx).upd fun s => s.gather child.cable placed.2).tellTicket .cableRaised placed.2)

/-- The roll-up check of a line ticket just created or reopened (R178). -/
def Ctx.rollCheck (c : Ctx) (n : Nat) : Ctx :=
  match c.s.ticket? n with
  | none => c
  | some child =>
    if child.cable = 0 then c
    else
      let now := c.s.link.time
      match c.s.activeCable? child.cable with
      | some p =>
        let c := c.upd fun s => (s.updTicket n (Ticket.rollUnder now p.number)).updTicket p.number fun t =>
          ({ t with members := t.members + 1, repeats := satInc 255 t.repeats, lastSeen := now }).raiseClass now child.cls
        c.tellTicket .rolled n
      | none =>
        let fresh := c.s.tickets.table.filter fun t => Ticket.openOfCable child.cable t && decide (c.s.age t ≤ c.s.window)
        if c.s.tickets.rollCount ≤ fresh.length then c.gatherCable child else c

/-- A line ticket is raised (R173 to R175, R177, R178): the new ticket's number, or none where the raise fails. The cable
is the directory's at the raise (R26). -/
def Ctx.raiseLine (c : Ctx) (line : Nat) (cls : TicketClass) (origin : TicketOrigin) (mark : Ticket → Ticket) :
    Ctx × Option Nat :=
  let cable := (c.s.dirEntry line).cable
  match c.makeRoom with
  | none => (c.tellFull .line (some line) cable cls, none)
  | some c =>
    let placed := c.s.place (mark (newTicket c.s.link.time .line (some line) cable cls origin))
    let c : Ctx := { c with s := placed.1.setOpenTicket line (some placed.2) }
    ((c.tellTicket .raised placed.2).rollCheck placed.2, some placed.2)

/-- The child leaves its parent, and a parent with no members left becomes CLEARED (R179). -/
def Ctx.leaveParent (c : Ctx) (parent : Option Nat) : Ctx :=
  match parent with
  | none => c
  | some p =>
    let now := c.s.link.time
    let c := c.upd fun s => s.updTicket p fun t => { t with members := t.members - 1 }
    match c.s.ticket? p with
    | none => c
    | some t =>
      if t.members = 0 then
        (c.upd fun s => s.updTicket p fun t => { t with state := .cleared, lastChange := now }).tellTicket .cableCleared p
      else c

/-! ## The action table (R175) -/

/-- What the Verdict Unit or the Hazard Unit hands over (R170, R176): a fault class, a MARGINAL verdict below the limit, or
OK. -/
inductive HandedVerdict where
  | fault (cls : TicketClass)
  | belowLimit
  | ok
  deriving DecidableEq, Repr

/-- The rest of the hand-over (R170 item 6). -/
structure HandOver where
  line : Nat
  origin : TicketOrigin
  evidence : List Evidence
  distance : Option Nat
  verification : Bool
  deriving DecidableEq, Repr

/-- A repeat or reopening replaces the evidence and distance where they are handed (R175). -/
def Ticket.withEvidence (h : HandOver) (t : Ticket) : Ticket :=
  { t with evidence := if h.evidence.isEmpty then t.evidence else h.evidence
           distance := if h.distance.isSome then h.distance else t.distance }

/-- A repeat: the count saturates, last-seen is set (R172, R175). -/
def Ticket.repeated (now : BitVec 32) (t : Ticket) : Ticket :=
  { t with repeats := satInc 255 t.repeats, lastSeen := now }

/-- The class is replaced, with the last-change time where it changes (R172). -/
def Ticket.setClass (now : BitVec 32) (cls : TicketClass) (t : Ticket) : Ticket :=
  { t with cls := cls, lastChange := if t.cls = cls then t.lastChange else now }

/-- The state is replaced, with the last-change time (R172). -/
def Ticket.setState (now : BitVec 32) (st : TicketState) (t : Ticket) : Ticket := { t with state := st, lastChange := now }

/-- A CLEARED ticket is reopened: OPEN, the class given, repeat +1, the three times now, test-ok no (R175, R177). -/
def Ticket.reopen (now : BitVec 32) (cls : TicketClass) (t : Ticket) : Ticket :=
  { t with state := .opened, cls := cls, repeats := satInc 255 t.repeats
           opened := now, lastSeen := now, lastChange := now, testOk := false }

/-- A fault verdict on the line's ticket `t` (R175, first column). -/
def Ctx.faultOn (c : Ctx) (h : HandOver) (cls : TicketClass) (t : Ticket) : Ctx × TicketAction :=
  let now := c.s.link.time
  let n := t.number
  match t.state with
  | .opened =>
    (c.upd fun s => s.updTicket n fun t => ((t.repeated now).raiseClass now cls).withEvidence h, .repeated)
  | .rolled =>
    let c := c.upd fun s => s.updTicket n fun t =>
      ((if t.cls.unproven then (t.repeated now).setClass now cls else t.repeated now)).withEvidence h
    (match t.parent with
      | none => c
      | some p => c.upd fun s => s.updTicket p fun u =>
          if t.cls.unproven then ({ u with lastSeen := now }).raiseClass now cls else { u with lastSeen := now },
      .repeated)
  | .dispatched =>
    (c.upd fun s => s.updTicket n fun t =>
      { ((if t.cls.unproven then (t.repeated now).setClass now cls else t.repeated now)).withEvidence h with testOk := false },
      .repeated)
  | .cleared =>
    let c := (c.upd fun s => s.updTicket n fun t => (t.reopen now cls).withEvidence h).tellTicket .reopened n
    (c.rollCheck n, .reopened)
  | .closed => (c, .none)

/-- An OK verdict on the line's ticket `t` (R175, last column). -/
def Ctx.okOn (c : Ctx) (t : Ticket) : Ctx × TicketAction :=
  let now := c.s.link.time
  let n := t.number
  match t.state with
  | .opened =>
    if t.cls.unproven then
      ((c.upd fun s => s.updTicket n fun t => ({ t with lastSeen := now }).setClass now .notFound).tellTicket .notFound n,
        .notFound)
    else
      ((c.upd fun s => s.updTicket n fun t => ({ t with lastSeen := now }).setState now .cleared).tellTicket .cleared n,
        .cleared)
  | .rolled =>
    let c := (c.upd fun s => s.updTicket n fun t =>
      ({ t with lastSeen := now, parent := none }).setState now .cleared).tellTicket .cleared n
    (c.leaveParent t.parent, .cleared)
  | .dispatched =>
    ((c.upd fun s => s.updTicket n fun t => { t with testOk := true, lastSeen := now }).tellTicket .testOk n, .testOkSet)
  | .cleared => (c, .none)
  | .closed => (c, .none)

/-- A MARGINAL verdict below the limit on the line's ticket `t` (R175, middle column). -/
def Ctx.belowLimitOn (c : Ctx) (t : Ticket) : Ctx × TicketAction :=
  let now := c.s.link.time
  match t.state with
  | .cleared => (c, .none)
  | .closed => (c, .none)
  | _ => (c.upd fun s => s.updTicket t.number fun t => { t with lastSeen := now }, .lastSeenOnly)

/-- The answer of a raise: raised, or raised and rolled (R175). -/
def State.raisedAction (s : State) (n : Nat) : TicketAction :=
  match s.ticket? n with
  | some t => if t.state = .rolled then .raisedRolled else .raised
  | none => .raised

/-- The action table of R175 on the line's non-closed line ticket. -/
def Ctx.actOnVerdict (c : Ctx) (h : HandOver) (v : HandedVerdict) : Ctx × TicketAction × Nat :=
  match c.s.lineTicket? h.line with
  | none =>
    match v with
    | .fault cls =>
      let r := c.raiseLine h.line cls h.origin fun t => { t with evidence := h.evidence, distance := h.distance }
      match r.2 with
      | none => (r.1, .raiseFailed, 0)
      | some n => (r.1, r.1.s.raisedAction n, n)
    | _ => (c, .none, 0)
  | some t =>
    let r := match v with
      | .fault cls => c.faultOn h cls t
      | .belowLimit => c.belowLimitOn t
      | .ok => c.okOn t
    (r.1, r.2, if r.2 = .none then 0 else t.number)

/-- Verify-due of the line's non-closed line ticket is set to `due`, where there is one. -/
def State.setVerifyDue (s : State) (line : Nat) (due : Bool) : State :=
  match s.lineTicket? line with
  | some t => s.updTicket t.number fun t => { t with verifyDue := due }
  | none => s

/-- The hand-over of a verdict or a mark (R175, R176): the action table, then verify-due cleared under the verification
flag, and the unticketed field written (R161). -/
def Ctx.handVerdict (c : Ctx) (h : HandOver) (v : HandedVerdict) : Ctx × TicketAction × Nat :=
  let r := c.actOnVerdict h v
  let c := if h.verification then r.1.upd fun s => s.setVerifyDue h.line false else r.1
  (c.upd fun s => s.setUnticketed h.line (r.2.1 = .raiseFailed), r.2.1, r.2.2)

/-- A hazard mark (R82, R176). -/
def Ctx.markLine (c : Ctx) (line : Nat) : Ctx := (c.handVerdict ⟨line, .hazard, [], none, false⟩ (.fault .cross)).1

/-! ## Complaints (R177), without the AUTO job -/

/-- The ticket part of a complaint: the action and the ticket number. -/
def Ctx.complain (c : Ctx) (line code : Nat) : Ctx × TicketAction × Nat :=
  let now := c.s.link.time
  match c.s.lineTicket? line with
  | none =>
    let r := c.raiseLine line .unverified .report fun t => { t with complaint := true, code := some code }
    match r.2 with
    | none => (r.1, .raiseFailed, 0)
    | some n => (r.1, r.1.s.raisedAction n, n)
  | some t =>
    let note (t : Ticket) : Ticket := { t with complaint := true, code := some code }
    if t.state = .cleared then
      let c := (c.upd fun s => s.updTicket t.number fun t => note (t.reopen now .unverified)).tellTicket .reopened t.number
      (c.rollCheck t.number, .reopened, t.number)
    else (c.upd fun s => s.updTicket t.number fun t => note (t.repeated now), .repeated, t.number)

/-! ## Closing (R181) -/

/-- The children of a cable ticket return: OPEN, verify-due, parent none (R181). -/
def State.returnChildren (s : State) (n : Nat) : State :=
  let now := s.link.time
  s.setTickets (s.tickets.table.map fun t =>
    if t.state = .rolled ∧ t.parent = some n then
      { t with state := .opened, verifyDue := true, parent := none, lastChange := now }
    else t)

/-- The ROLLED tickets naming a parent. -/
def State.childrenOf (s : State) (n : Nat) : List Ticket :=
  s.tickets.table.filter fun t => decide (t.state = .rolled) && decide (t.parent = some n)

/-- A ticket is closed (R181). -/
def State.closeTicket (s : State) (t : Ticket) : State :=
  let now := s.link.time
  match t.kind with
  | .line =>
    let s := s.updTicket t.number (Ticket.setState now .closed)
    match t.line with
    | some l => s.setOpenTicket l none
    | none => s
  | .cable =>
    (s.returnChildren t.number).updTicket t.number fun t => { t.setState now .closed with members := 0 }

end Sys2Proof.Machine
end

