-- ==== Sys2Proof/Machine/JobOps.lean ====
section
/-! DEFINITION. What the Job Scheduler, the Sweep Unit, Bus Watch and the Measurement Engine do to one another's work
within an event: hand-overs to the revisit list (R129), removal of a job (R94), the release of its bus, the entry to
WAIT-HEAD with head preemption (R102, R115), takeover (R112), the rise of pending and the yield (R66 to R71, R111), and
the start of a step (R142). -/

namespace Sys2Proof.Machine

/-! ## The Sweep Unit's part in a job's end (R128 to R131) -/

def State.setSweep (s : State) (w : Sweep) : State := { s with sweep := w }

/-- A SWEEP-EVENT about one line (R131). -/
def sweepLineEvent (s : State) (e : SweepEventKind) (line : Nat) (reason : RevisitReason) (attempts : Nat) : Report :=
  .sweep ⟨e, s.sweep.pass, some line, some reason, attempts, PassStats.zero, s.sweep.state, s.link.time⟩

/-- A line counts as untestable (R128). -/
def PassStats.addUntestable (p : PassStats) : PassStats := { p with untestable := satInc 65535 p.untestable }

/-- The attempts carried in a job's issue note; 0 where it has none (R130). -/
def Sweep.attemptsOf (w : Sweep) (job : Nat) : Nat :=
  match w.notes.find? (fun n => n.job == job) with
  | some n => n.attempts
  | none => 0

/-- A line with `attempts` failed attempts, by its entry or by its job's note, is dropped as untestable (R129). -/
def Ctx.dropUntestable (c : Ctx) (line : Nat) (reason : RevisitReason) (attempts : Nat) : Ctx :=
  (c.put (.last (sweepLineEvent c.s .untestable line reason attempts))).upd fun s =>
    s.setSweep { s.sweep with revisit := s.sweep.revisit.filter fun e => e.line != line
                              stats := s.sweep.stats.addUntestable }

/-- The hand-over of a sweep job's line to the revisit list (R129). -/
def Ctx.handOver (c : Ctx) (job line : Nat) (reason : RevisitReason) : Ctx :=
  let w := c.s.sweep
  let due := c.s.now + Config.backOff
  match w.revisit.find? (fun e => e.line == line) with
  | some e =>
    let n := e.attempts + 1
    if n ≤ 3 then
      c.upd fun s => s.setSweep { s.sweep with
        revisit := s.sweep.revisit.map fun e => if e.line = line then ⟨line, reason, n, due⟩ else e }
    else c.dropUntestable line reason n
  | none =>
    let n := w.attemptsOf job + 1
    if n ≤ 3 then
      match w.revisit with
      | e :: rest =>
        if Config.revisitPlaces ≤ w.revisit.length then
          (c.put (.last (sweepLineEvent c.s .revisitDropped e.line e.reason e.attempts))).upd fun s =>
            s.setSweep { s.sweep with revisit := rest ++ [⟨line, reason, n, due⟩] }
        else c.upd fun s => s.setSweep { s.sweep with revisit := s.sweep.revisit ++ [⟨line, reason, n, due⟩] }
      | [] => c.upd fun s => s.setSweep { s.sweep with revisit := [⟨line, reason, n, due⟩] }
    else c.dropUntestable line reason n

/-- A sweep job hands its line over; other jobs hand nothing (R94). -/
def Ctx.handOverJob (c : Ctx) (j : Job) (reason : RevisitReason) : Ctx :=
  if j.source = .sweep then c.handOver j.id j.line reason else c

def Verdict.isFault : Verdict → Bool
  | .ok => false
  | .marginal => false
  | _ => true

/-- A COMPLETE sweep job counts as tested, and by its verdict as a fault or marginal (R128). -/
def PassStats.addTested (p : PassStats) (v : Option Verdict) : PassStats :=
  { p with tested := satInc 65535 p.tested
           faults := match v with | some v => if v.isFault then satInc 65535 p.faults else p.faults | none => p.faults
           marginal := if v = some .marginal then satInc 65535 p.marginal else p.marginal }

/-- What the Sweep Unit does at the removal of a job (R128, R130). -/
def Sweep.jobRemoved (w : Sweep) (j : Job) (o : JobOutcome) : Sweep :=
  if j.source = .sweep then
    let w := { w with notes := w.notes.filter fun n => n.job != j.id }
    if o = .complete then
      { w with stats := w.stats.addTested (j.due.map (·.verdict)), revisit := w.revisit.filter fun e => e.line != j.line }
    else w
  else w

/-! ## Heads (R136) -/

/-- A head that is freed, or whose reservation ends, with the head present: IDLE (R136). -/
def State.freeHead (s : State) (h : Head) : State :=
  let r := s.headRec h
  if r.state = .attached ∨ r.state = .reserved then
    s.setHeadRec h { HeadRecord.initial with standing := r.standing }
  else s

/-- The job's head, if any, is detached from its bus and freed (R48, R136). -/
def Ctx.freeJobHead (c : Ctx) (id : Nat) : Ctx :=
  match c.s.job? id with
  | none => c
  | some j =>
    match j.head with
    | none => c
    | some jh => c.upd fun s =>
      let s := match j.bus with | some b => s.detachHead b | none => s
      (s.freeHead jh.head).updJob id fun j => { j with head := none }

/-- The step in hand of a head becomes none and any strobe outstanding is dropped (R148). -/
def State.dropStep (s : State) (h : Head) : State :=
  s.setHeadRec h { s.headRec h with step := none, outstanding := false }

/-- The running step of a MEASURING job is aborted and entered as ABORTED (R148). -/
def Ctx.abortEntered (c : Ctx) (id : Nat) : Ctx :=
  match c.s.job? id with
  | none => c
  | some j =>
    match j.head with
    | none => c
    | some jh =>
      match (c.s.headRec jh.head).step with
      | none => c
      | some st => c.upd fun s =>
        (s.dropStep jh.head).updJob id fun j =>
          { j with results := j.results ++ [abortedResult st.kind st.leg], step := j.step + 1 }

/-! ## Removal (R94) -/

/-- JOB-RESULT at a removal (R21). -/
def jobResultReport (s : State) (j : Job) (o : JobOutcome) : Report :=
  .jobResult ⟨j.id, o, j.source, j.line, s.link.time, j.verification, if o = .complete then j.due else none, j.results⟩

/-- Takeover marks and preempt claims naming a removed job are dropped; `.2` says whether a mark was (R113, R114). -/
def dropMarks (id : Nat) (js : List Job) : List Job × Bool :=
  (js.map fun j => { j with takeover := if j.takeover = some id then none else j.takeover
                            claim := if j.claim = some id then none else j.claim },
    js.any fun j => j.takeover == some id)

/-- An AUTO job removed with this outcome asks for verify-due (R94). -/
def asksVerify : JobOutcome → Bool
  | .complete => false
  | .taken => false
  | .supply => false
  | _ => true

/-- A job leaves the table with its outcome (R94). -/
def Ctx.removeJob (c : Ctx) (id : Nat) (o : JobOutcome) : Ctx :=
  match c.s.job? id with
  | none => c
  | some j0 =>
    let c := c.freeJobHead id
    let j := (c.s.job? id).getD j0
    let c := (c.jobGone id).put (.late (jobResultReport c.s j o))
    let dropped := dropMarks id (c.s.sched.jobs.filter fun j => j.id != id)
    let c := c.upd fun s =>
      let s := (s.setJobs dropped.1).setSweep (s.sweep.jobRemoved j o)
      if j.source = .auto ∧ asksVerify o then s.setVerifyDue j.line true else s
    (if dropped.2 then c.walk else c).issue

/-! ## Asking for the release of a job's bus (R94, R108) -/

/-- The job asks for the release of its bus and enters RELEASING with this outcome to be; a running step is aborted and
entered, its head is freed, a head reservation ends. It is removed in the same event where its access reaches IDLE in it,
or where it holds no bus. -/
def Ctx.askRelease (c : Ctx) (id : Nat) (o : JobOutcome) (note : JobNote := .none) : Ctx :=
  match c.s.job? id with
  | none => c
  | some j =>
    let c := if j.state = .measuring then c.abortEntered id else c
    let c := (c.freeJobHead id).upd fun s => s.updJob id fun j =>
      { j with state := .releasing, outcome := some o, holdLimit := none, hazardHold := none, suspendedFrom := none }
    let c := c.jobChanged id note
    match j.bus with
    | none => c.removeJob id o
    | some b =>
      if (c.s.busRec b).owner = some id then
        let c := c.upd fun s => s.releaseBus false b
        if (c.s.busRec b).access = .idle then (c.removeJob id o).walk else c
      else c.removeJob id o

/-! ## The rise of pending and the yield (R66 to R70, R111) -/

/-- Pending can rise in MONITOR and CONNECTED (R66). -/
def AccessState.watched : AccessState → Bool
  | .monitor => true
  | .connected => true
  | _ => false

/-- A yield request names a bus and acts on the job that owns it (R111). -/
def Ctx.yieldBus (c : Ctx) (b : Bus) : Ctx :=
  match (c.s.busRec b).owner.bind c.s.job? with
  | none => c
  | some j =>
    let go : Ctx := (c.handOverJob j .yielded).askRelease j.id .yielded
    match j.state with
    | .monitoring => go
    | .waitHead => go
    | .measuring => go
    | .held => go
    | .accessing => if (c.s.busRec b).access.watched then go else c
    | .suspended => if (c.s.busRec b).access.watched then go else c
    | .queued => c
    | .releasing => c

/-- Pending rises: a WATCH-EVENT, and under YIELD a yield request (R69, R70). The end of the event fills in the debounced state of the
report (`Report.atEnd`). -/
def Ctx.rise (c : Ctx) (b : Bus) (cause : WatchCause) : Ctx :=
  let w := c.s.watchRec b
  let r := c.s.busRec b
  let c := (c.upd fun s => s.setWatchRec b { w with pending := true }).put (.early (.watch
    ⟨b, r.line, r.owner, cause, w.loop, w.settings.mode, w.settings.action, c.s.link.time⟩))
  match w.settings.action with
  | .yield => c.yieldBus b
  | .report => c

/-- The level condition of a mode, and the cause it would report (R68). -/
def levelCause : WatchMode → LoopState → Option WatchCause
  | .loopPresent, .present => some .levelPresent
  | .loopAbsent, .absent => some .levelAbsent
  | _, _ => none

/-- The edge a mode matches (R67). -/
def edgeCause : WatchMode → LoopState → Option WatchCause
  | .loopOn, .present => some .edgeOn
  | .loopOff, .absent => some .edgeOff
  | .both, .present => some .edgeOn
  | .both, .absent => some .edgeOff
  | _, _ => none

/-- Pending rises with this cause, if one is given, in a state of R66 and if it is clear. -/
def Ctx.mayRise (c : Ctx) (b : Bus) (cause : Option WatchCause) : Ctx :=
  match cause with
  | none => c
  | some k => if (c.s.busRec b).access.watched ∧ (c.s.watchRec b).pending = false then c.rise b k else c

/-- The level conditions are tested (R68). -/
def Ctx.levelCheck (c : Ctx) (b : Bus) : Ctx :=
  c.mayRise b (levelCause (c.s.watchRec b).settings.mode (c.s.watchRec b).loop)

/-! ## Entering HELD, MONITORING and WAIT-HEAD -/

/-- The hold-limit deadline of a job from now; sweep and AUTO jobs have none (R110). -/
def State.holdDeadline (s : State) (j : Job) : Option Moment :=
  match j.source with
  | .desk p => some (s.now + s.holdLimitOf p * Config.minute)
  | _ => none

/-- The job enters HELD or MONITORING and its hold limit starts (R110). -/
def Ctx.enterHolding (c : Ctx) (id : Nat) (st : JobState) (note : JobNote) (recipeEnd : Bool := false) : Ctx :=
  (c.upd fun s => s.updJob id fun j => { j with state := st, holdLimit := s.holdDeadline j, hazardHold := none }).jobChanged
    id note recipeEnd

/-- Some head is IDLE. -/
def State.idleHead? (s : State) : Option Head := allHeads.find? fun h => (s.headRec h).state == .idle

/-- The later of two jobs by start mark. -/
def laterStarted (best : Option Job) (j : Job) : Option Job :=
  match best with
  | none => some j
  | some b => if b.startMark.getD 0 < j.startMark.getD 0 then some j else best

/-- The most recently started of these jobs. -/
def latestStarted (js : List Job) : Option Job := js.foldl laterStarted none

/-- A sweep job is preempted (R114, R115): its line is handed over and its bus released. -/
def Ctx.preempt (c : Ctx) (j : Job) : Ctx := (c.handOverJob j .preempted).askRelease j.id .preempted

/-- An URGENT job that has entered WAIT-HEAD with no head IDLE preempts the most recently started sweep job that has a head
attached (R115). -/
def Ctx.preemptHead (c : Ctx) (id : Nat) : Ctx :=
  match c.s.job? id with
  | none => c
  | some j =>
    if j.priority = .urgent ∧ c.s.idleHead?.isNone then
      match latestStarted (c.s.sched.jobs.filter fun k =>
          k.source == .sweep && k.state == .measuring && (match k.head with | some h => !h.reserved | none => false)) with
      | some k => c.preempt k
      | none => c
    else c

/-- The job enters WAIT-HEAD, taking a new wait-head order (R102). -/
def Ctx.enterWaitHead (c : Ctx) (id : Nat) (note : JobNote) : Ctx :=
  let c := c.upd fun s =>
    let n := s.sched.nextWait
    let s := s.updJob id fun j =>
      { j with state := .waitHead, waitOrder := n, waitTime := s.link.time, holdLimit := none, hazardHold := none }
    { s with sched := { s.sched with nextWait := n + 1 } }
  (c.jobChanged id note).preemptHead id

/-- FREE VALUE (log 36; DESIGN CHOICE): the limits of class 0. The spec gives class 0 no profile, and a takeover may still
take a snapshot of a line whose class became 0 while its TEST was marked; which limits it then holds, nothing says. -/
def Profile.ofClassZero : Profile :=
  let limit := Config.classZeroLimit
  ⟨limit 0, limit 1, limit 2, limit 3, limit 4, limit 5, limit 6, limit 7, limit 8, limit 9⟩

/-- The class snapshot of a line, taken now (R30); that of class 0 holds free limits (log 36). -/
def State.snapshot (s : State) (line : Nat) : Snapshot :=
  let cls := (s.dirEntry line).cls
  ⟨cls, if cls = 0 then Profile.ofClassZero else s.profile cls⟩

/-! ## Takeover (R112, R113) -/

/-- Ownership of `old`'s bus passes to the QUEUED desk job `new` in one event (R112). Where the transfer would be declined
(R50), nothing happens. The level condition of the watch written (R74) is tested after the new job has entered WAIT-HEAD or HELD
(log 38; DESIGN CHOICE). -/
def Ctx.passOwnership (c : Ctx) (old new : Nat) : Ctx :=
  match c.s.job? old, c.s.job? new with
  | some jo, some jn =>
    match jo.bus with
    | none => c
    | some b =>
      if (c.s.busRec b).access ≠ .connected ∨ jn.line ≠ jo.line ∨ jn.state ≠ .queued then c
      else
        let c := (c.abortEntered old).freeJobHead old
        let c := c.upd fun s =>
          let s := s.transfer b new
          let s := s.updJob new fun j =>
            { j with bus := some b, snapshot := some (s.snapshot j.line), kept := .guarded, takeover := none, claim := none }
          s.setWatchRec b { s.watchRec b with settings := jn.watch, pending := false }
        let c := c.removeJob old .taken
        let c := if jn.step < jn.recipe.length then c.enterWaitHead new .takeover
                 else c.enterHolding new .held .takeover
        c.levelCheck b
  | _, _ => c

/-- The QUEUED desk job whose takeover mark names this job (R113). -/
def State.markedFor? (s : State) (id : Nat) : Option Job :=
  s.sched.jobs.find? fun j => j.takeover == some id && j.state == .queued

/-- A job in ACCESSING whose access is CONNECTED: R113 acts, or WAIT-HEAD where a step remains, or HELD (R101). -/
def Ctx.moveConnected (c : Ctx) (id : Nat) (note : JobNote) : Ctx :=
  match c.s.markedFor? id with
  | some m => c.passOwnership id m.id
  | none =>
    match c.s.job? id with
    | none => c
    | some j => if j.step < j.recipe.length then c.enterWaitHead id note else c.enterHolding id .held note

/-! ## A step starts (R142) -/

def StepTable.entry (t : StepTable) : StepKind → StepEntry
  | .fv => t.fv
  | .ir => t.ir
  | .lr => t.lr
  | .cap => t.cap

/-- The source of a configure (R137, R139); a level of none is no source. -/
def sourceOf (kind : StepKind) : Option Nat → Source
  | none => .none
  | some level =>
    match kind with
    | .fv => .none
    | .cap => .current (match level with | 0 => 1 | 1 => 2 | 2 => 5 | _ => 10)
    | _ => .voltage (match level with | 0 => 12 | 1 => 48 | 2 => 80 | _ => 100)

/-- The configure of a step in hand (R137). -/
def StepInHand.configure (st : StepInHand) : Configure := ⟨st.leg, sourceOf st.kind st.snapshot.level, st.range⟩

/-- A configure is sent and stands at the head (R137). -/
def Ctx.configure (c : Ctx) (h : Head) (k : Configure) : Ctx :=
  (c.upd fun s => s.setHeadRec h { s.headRec h with standing := some k }).send (.configure h k)

/-- A strobe is sent (R138). -/
def Ctx.strobe (c : Ctx) (h : Head) : Ctx :=
  (c.upd fun s => s.setHeadRec h { s.headRec h with outstanding := true }).send (.strobe h)

/-- The job's step at its step index starts on its attached head (R142). -/
def Ctx.startStep (c : Ctx) (id : Nat) (h : Head) : Ctx :=
  match c.s.job? id with
  | none => c
  | some j =>
    match j.recipe[j.step]? with
    | none => c
    | some st =>
      let e := c.s.engine.steps.entry st.kind
      let hand : StepInHand := ⟨id, j.step, st.kind, st.leg, e, e.startRange, false, 0, Accumulators.empty⟩
      let c := c.upd fun s => s.setHeadRec h { s.headRec h with
        step := some hand, outstanding := false
        timeBase := some ⟨e.period, e.phase, e.post, 0, s.now + e.period⟩ }
      let c := c.configure h hand.configure
      if e.phase = 0 then c.strobe h else c

/-- A head is attached to the job's bus, the job enters MEASURING and its step starts (R102, R136, R142). -/
def Ctx.giveHead (c : Ctx) (id : Nat) (b : Bus) (h : Head) (note : JobNote) : Ctx :=
  let c := c.upd fun s =>
    let s := s.attachHead b h
    let s := s.setHeadRec h { s.headRec h with state := .attached, bus := some b }
    s.updJob id fun j => { j with head := some ⟨h, false⟩, state := .measuring, hazardHold := none, holdLimit := none }
  (c.jobChanged id note).startStep id h

/-! ## Handing heads (R102) -/

def Priority.rank : Priority → Nat
  | .urgent => 0
  | .normal => 1
  | .routine => 2

/-- `j` stands ahead of `k`: by priority, and within one priority by the order given (R99, R102). -/
def aheadBy (order : Job → Nat) (j k : Job) : Bool :=
  j.priority.rank < k.priority.rank || (j.priority == k.priority && order j < order k)

/-- The first of these jobs in the order given. -/
def firstBy (order : Job → Nat) (js : List Job) : Option Job :=
  js.foldl (fun best j => match best with | none => some j | some b => if aheadBy order j b then some j else some b) none

/-- The next job of the head waiting order whose attach would be taken, with its bus and the lowest IDLE head (R102). -/
def State.nextHandout? (s : State) : Option (Job × Bus × Head) :=
  match s.idleHead? with
  | none => none
  | some h =>
    match firstBy Job.waitOrder (s.sched.jobs.filter fun j =>
        j.state == .waitHead && (match j.bus with | some b => s.attachHeadOk b j.id h | none => false)) with
    | none => none
    | some j => j.bus.map fun b => (j, b, h)

/-- Heads are handed while the order holds a job and a head is IDLE: at most one round for each head (R102). -/
def Ctx.handOut : Nat → Ctx → Ctx
  | 0, c => c
  | n + 1, c =>
    match c.s.nextHandout? with
    | none => c
    | some (j, b, h) => Ctx.handOut n (c.giveHead j.id b h .none)

end Sys2Proof.Machine
end

