-- ==== Sys2Proof/Machine/VerdictOps.lean ====
section
/-! DEFINITION. The Verdict Unit: standing findings (R166), thresholds with hysteresis (R165), findings (R163, R164), the
verdict (R167), the streak (R168), evidence and distance (R169), and the end of a recipe (R103, R170). -/

namespace Sys2Proof.Machine

/-! ## Standing findings and thresholds -/

/-- The standing findings a ticket class gives (R166). -/
def classFindings : TicketClass → Findings
  | .cross => { Findings.none with voltage := true }
  | .short => { Findings.none with ab := .short }
  | .lowIr => { Findings.none with ab := .low }
  | .earthA => { Findings.none with ae := .earth }
  | .earthB => { Findings.none with be := .earth }
  | .earthBoth => { Findings.none with ae := .earth, be := .earth }
  | .openPair => { Findings.none with cap := true }
  | .marginal => Findings.none
  | .unverified => Findings.none
  | .notFound => Findings.none

/-- The standing findings of a line (R166). -/
def State.standingFindings (s : State) (line : Nat) : Findings :=
  let r := s.lineStatus line
  match r.verdict with
  | some _ => r.findings
  | none =>
    match r.ticket.bind s.ticket? with
    | none => Findings.none
    | some t =>
      match t.state with
      | .opened => classFindings t.cls
      | .rolled => classFindings t.cls
      | .dispatched => classFindings t.cls
      | .cleared => Findings.none
      | .closed => Findings.none

/-- A raised threshold, capped at the top of its value's range (R165). -/
def raisedLimit (top t h : Nat) (standing : Bool) : Nat := if standing then min top (t + t * h / 100) else t

/-- A lowered threshold (R165). -/
def loweredLimit (t h : Nat) (standing : Bool) : Nat := if standing then t - t * h / 100 else t

/-! ## Findings (R163, R164) -/

/-- What one result gives, with its place. -/
inductive PlaceFinding where
  | none
  | voltage
  | ab (f : AbFinding)
  | ae (f : EarthFinding)
  | be (f : EarthFinding)
  | cap
  deriving DecidableEq, Repr

/-- EARTH or MARG on an earth leg (R164). -/
def earthTest (fail marg v : Nat) : EarthFinding := if v < fail then .earth else if v < marg then .marg else .none

/-- SHORT, LOW or MARG on A–B (R164). -/
def abTest (sh fail marg v : Nat) : AbFinding :=
  if v < sh then .short else if v < fail then .low else if v < marg then .marg else .none

/-- The DC magnitude reaches the fv_limit threshold (R164, R169). -/
def dcReaches (p : Profile) (st : Findings) (r : StepResult) : Bool :=
  loweredLimit p.fvLimit p.hyst st.voltage ≤ r.value1.natAbs

/-- The finding a result gives (R163, R164) against the thresholds of R165. -/
def judge (p : Profile) (st : Findings) (r : StepResult) : PlaceFinding :=
  if r.flags.skipped ∨ r.flags.aborted then .none
  else
    let v := r.value1.natAbs
    match r.kind with
    | .fv =>
      if r.hasValue ∧ (dcReaches p st r ∨ loweredLimit p.acLimit p.hyst st.voltage ≤ r.value2) then .voltage else .none
    | .ir =>
      if r.flags.foreign then .voltage
      else match r.leg with
        | .ab => .ab (abTest (raisedLimit topOhms p.shOhm p.hyst (st.ab == .short))
            (raisedLimit topOhms p.irFail p.hyst (st.ab == .low)) (raisedLimit topOhms p.irMarg p.hyst (st.ab == .marg)) v)
        | .ae => .ae (earthTest (raisedLimit topOhms p.irFail p.hyst (st.ae == .earth))
            (raisedLimit topOhms p.irMarg p.hyst (st.ae == .marg)) v)
        | .be => .be (earthTest (raisedLimit topOhms p.irFail p.hyst (st.be == .earth))
            (raisedLimit topOhms p.irMarg p.hyst (st.be == .marg)) v)
    | .lr => .none
    | .cap => if r.hasValue ∧ v < raisedLimit topWord p.capMin p.hyst st.cap then .cap else .none

def AbFinding.rank : AbFinding → Nat
  | .none => 0
  | .marg => 1
  | .low => 2
  | .short => 3

def EarthFinding.rank : EarthFinding → Nat
  | .none => 0
  | .marg => 1
  | .earth => 2

/-- The more severe finding of a place (R163). -/
def AbFinding.worse (a b : AbFinding) : AbFinding := if a.rank < b.rank then b else a
def EarthFinding.worse (a b : EarthFinding) : EarthFinding := if a.rank < b.rank then b else a

def Findings.add (f : Findings) : PlaceFinding → Findings
  | .none => f
  | .voltage => { f with voltage := true }
  | .ab x => { f with ab := f.ab.worse x }
  | .ae x => { f with ae := f.ae.worse x }
  | .be x => { f with be := f.be.worse x }
  | .cap => { f with cap := true }

/-- The five findings of a recipe (R163). -/
def findingsOf (p : Profile) (st : Findings) (rs : List StepResult) : Findings :=
  rs.foldl (fun f r => f.add (judge p st r)) Findings.none

/-- The verdict (R167). -/
def verdictOf (f : Findings) : Verdict :=
  if f.voltage then .cross
  else if f.ab = .short then .short
  else if f.ae = .earth ∧ f.be = .earth then .earthBoth
  else if f.ae = .earth then .earthA
  else if f.be = .earth then .earthB
  else if f.ab = .low then .lowIr
  else if f.cap then .openPair
  else if f.ab = .marg ∨ f.ae = .marg ∨ f.be = .marg then .marginal
  else .ok

/-- The marginal streak after a verdict (R168). -/
def streakAfter (streak : Nat) (v : Verdict) : Nat := if v = .marginal then min 7 (streak + 1) else 0

/-- The evidence a result gives for a verdict (R169). -/
def evidenceOf (p : Profile) (st : Findings) (v : Verdict) (r : StepResult) : Option Evidence :=
  let ohms : Evidence := ⟨r.leg, .resistance, r.value1⟩
  match v, judge p st r with
  | .cross, .voltage =>
    if r.kind = .fv then
      some (if dcReaches p st r then ⟨r.leg, .dcVoltage, r.value1⟩ else ⟨r.leg, .acPeak, r.value2⟩)
    else none
  | .short, .ab .short => some ohms
  | .lowIr, .ab .low => some ohms
  | .earthA, .ae .earth => some ohms
  | .earthB, .be .earth => some ohms
  | .earthBoth, .ae .earth => some ohms
  | .earthBoth, .be .earth => some ohms
  | .openPair, .cap => some ⟨r.leg, .capacitance, r.value1⟩
  | .marginal, .ab .marg => some ohms
  | .marginal, .ae .marg => some ohms
  | .marginal, .be .marg => some ohms
  | _, _ => none

/-- The distance to the open: from the first CAP result that gave OPEN (R159, R169). -/
def distanceOf (p : Profile) (st : Findings) (rs : List StepResult) : Option Nat :=
  (rs.find? fun r => decide (judge p st r = .cap)).map fun r => openDistance r.value1.natAbs p.capPerKm

/-- The verdict as it is handed to the Ticket Unit (R168, R175). -/
def handedAs (limit streak : Nat) : Verdict → HandedVerdict
  | .ok => .ok
  | .marginal => if limit ≤ streak then .fault .marginal else .belowLimit
  | .cross => .fault .cross
  | .short => .fault .short
  | .earthBoth => .fault .earthBoth
  | .earthA => .fault .earthA
  | .earthB => .fault .earthB
  | .lowIr => .fault .lowIr
  | .openPair => .fault .openPair

def JobSource.origin : JobSource → TicketOrigin
  | .desk p => .desk p
  | .auto => .auto
  | .sweep => .sweep

/-- R170: the verdict of a finished recipe, the record written, the Ticket Unit's answer. -/
def Ctx.formVerdict (c : Ctx) (j : Job) (p : Profile) : Ctx × VerdictHeld :=
  let st := c.s.standingFindings j.line
  let f := findingsOf p st j.results
  let v := verdictOf f
  let rec0 := c.s.lineStatus j.line
  let streak := streakAfter rec0.streak v
  let evidence := (j.results.filterMap (evidenceOf p st v)).take 3
  let distance := distanceOf p st j.results
  let c := c.upd fun s => s.setLineStatus j.line
    { rec0 with verdict := some v, findings := f, streak := streak, testTime := s.link.time, pass := s.sweep.pass }
  let r := c.handVerdict ⟨j.line, j.source.origin, evidence, if v = .openPair then distance else none, j.verification⟩
    (handedAs p.marginalLimit streak v)
  (r.1, ⟨v, f, distance, r.2.1, r.2.2⟩)

/-- The profile a job is judged by: its snapshot's (R30). -/
def Job.limits (j : Job) : Profile := (j.snapshot.map (·.profile)).getD Profile.initial

/-- The recipe ends (R103). -/
def Ctx.recipeEnd (c : Ctx) (id : Nat) : Ctx :=
  let c := (c.freeJobHead id).handOut 4
  match c.s.job? id with
  | none => c
  | some j =>
    let r := c.formVerdict j j.limits
    if j.keep then
      (r.1.upd fun s => s.updJob id fun j => { j with verdict := some r.2 }).enterHolding id .held .none true
    else
      (r.1.upd fun s => s.updJob id fun j => { j with due := some r.2, state := .releasing }).askRelease id .complete

/-! ## The end of a step (R144, R147) -/

/-- The steps that an advance under danger skip passes over: those before the next FV step (R147). -/
def skippedSteps (j : Job) : List RecipeStep :=
  if underDanger j.limits.fvDanger j.results then (j.recipe.drop j.step).takeWhile fun st => st.kind != .fv else []

/-- The job after its advance: the steps passed over are entered as SKIPPED (R147). -/
def Job.skip (j : Job) : Job :=
  let k := skippedSteps j
  { j with results := j.results ++ k.map skippedResult, step := j.step + k.length }

/-- A step completes with this result (R144). -/
def Ctx.completeStep (c : Ctx) (id : Nat) (h : Head) (r : StepResult) : Ctx :=
  let c := c.upd fun s => (s.dropStep h).updJob id fun j =>
    ({ j with results := j.results ++ [r], step := j.step + 1 }).skip
  match c.s.job? id with
  | none => c
  | some j => if j.step < j.recipe.length then c.startStep id h else c.recipeEnd id

/-! ## The loss of a head (R87, R104) -/

/-- A MEASURING job loses its attached head; the head record has already taken its new state (R104). -/
def Ctx.headLost (c : Ctx) (st : StepInHand) : Ctx :=
  match c.s.job? st.job with
  | none => c
  | some j =>
    let c := c.upd fun s =>
      let s := match j.bus with | some b => s.detachHead b | none => s
      s.updJob j.id fun j => { j with head := none }
    if j.losses < 2 then
      (c.upd fun s => s.updJob j.id fun j => { j with losses := j.losses + 1 }).enterWaitHead j.id .headLost
    else
      (c.upd fun s => s.updJob j.id fun j =>
        { j with results := j.results ++ [abortedResult st.kind st.leg], step := j.step + 1 }).askRelease j.id .headFault .headLost

/-- A head that was RESERVED for bus `b` is lost: the loss is that of the SUSPENDED job of the bus whose reservation it was
(R87, R104; log 20). -/
def Ctx.reservedLost (c : Ctx) (h : Head) (b : Bus) : Ctx :=
  match (c.s.busRec b).owner.bind c.s.job? with
  | none => c
  | some j =>
    if j.state = .suspended ∧ j.head = some ⟨h, true⟩ then
      let c := c.upd fun s => s.updJob j.id fun j => { j with head := none }
      if j.losses < 2 then
        (c.upd fun s => s.updJob j.id fun j => { j with losses := j.losses + 1 }).jobChanged j.id .headLost
      else c.askRelease j.id .headFault .headLost
    else c

end Sys2Proof.Machine
end

