-- ==== Sys2Proof/Machine/HazardOps.lean ====
section
/-! DEFINITION. The Hazard Unit within an event: conditions and their end (R78, R89), the application of a hazard to a bus
(R80, R81, R84), the exit (R85, R86), and the judgement BUSY of a guard (R43, R65), which a retake may meet. -/

namespace Sys2Proof.Machine

/-! ## Settings and conditions -/

def State.settingsOf (s : State) : Hazard → HazardSettings
  | .a => s.hazards.settingsA
  | .b => s.hazards.settingsB

def State.setSettings (s : State) (h : Hazard) (x : HazardSettings) : State :=
  match h with
  | .a => { s with hazards := { s.hazards with settingsA := x } }
  | .b => { s with hazards := { s.hazards with settingsB := x } }

/-- The condition of an input (R76). -/
def State.condition (s : State) : HazardInput → Condition
  | .a b => (s.hazardRec b).a
  | .storm => s.hazards.storm

def State.setCondition (s : State) (i : HazardInput) (k : Condition) : State :=
  match i with
  | .a b => s.setHazardRec b { s.hazardRec b with a := k }
  | .storm => { s with hazards := { s.hazards with storm := k } }

def hazardOf : HazardInput → Hazard
  | .a _ => .a
  | .storm => .b

def inputBus : HazardInput → Option Bus
  | .a b => some b
  | .storm => none

def inSet (m : BusSet) (b : Bus) : Bool := m.getLsbD b.val

/-- The condition that concerns this bus is in effect (R80). -/
def State.inEffectAt (s : State) (h : Hazard) (b : Bus) : Bool :=
  match h with
  | .a => (s.hazardRec b).a.inEffect
  | .b => s.hazards.storm.inEffect

/-- The hazard applies to the bus: its condition is in effect and the bus is in its enable set (R80). -/
def State.applies (s : State) (h : Hazard) (b : Bus) : Bool := s.inEffectAt h b && inSet (s.settingsOf h).enable b

/-- The buses an input's condition concerns (R80). -/
def concerned : HazardInput → List Bus
  | .a b => [b]
  | .storm => allBuses

/-! ## Reports (R90) -/

/-- A HAZARD-EVENT about an input (R90; log 17). -/
def Ctx.tellInput (c : Ctx) (e : HazardEventKind) (i : HazardInput) (inEffect : Bool) (buses : BusSet)
    (marked : Option Nat) : Ctx :=
  c.put (.early (.hazard ⟨e, (hazardOf i), (inputBus i), inEffect, buses, none, marked, c.s.link.time⟩))

/-- The input bus of a report about a hazard at a bus: the bus for A, none for B (R90). -/
def inputBusOf (h : Hazard) (b : Bus) : Option Bus := if h = .a then some b else none

/-! ## The application of a hazard to a bus (R80, R81) -/

/-- An application of the hazard in this hazard state acts as an onset (R80). -/
def actsAsOnset : HazardState → Hazard → Bool
  | .none, _ => true
  | .b, .a => true
  | _, _ => false

def Hazard.state : Hazard → HazardState
  | .a => .a
  | .b => .b

/-- The line that the application would mark: hazard A, acting, on a CONNECTED access (R81 item 4, R82). -/
def State.marksLine (s : State) (h : Hazard) (b : Bus) : Option Nat :=
  if h = .a ∧ actsAsOnset (s.hazardRec b).state h ∧ (s.busRec b).access = .connected then (s.busRec b).line else none

/-- The hazard's action on the access (R81 items 2 and 3). -/
def State.hazardAction (s : State) (h : Hazard) (b : Bus) : State :=
  let s := s.detachSpeech b
  if inSet (s.settingsOf h).isolate b then s.releaseBus true b else s.park b

def suspendNote : Hazard → JobNote
  | .a => .suspendedA
  | .b => .suspendedB

/-- A desk or AUTO job becomes SUSPENDED (R84): its running step is dropped to run again, its head is held RESERVED, its
hold deadline is set. -/
def Ctx.suspend (c : Ctx) (j : Job) (b : Bus) (h : Hazard) : Ctx :=
  let c := c.upd fun s =>
    let s := match j.head with
      | some jh => s.setHeadRec jh.head
          { s.headRec jh.head with state := .reserved, bus := some b, step := none, outstanding := false }
      | none => s
    s.updJob j.id fun j =>
      { j with state := .suspended, suspendedFrom := some j.state, holdLimit := none
               head := j.head.map fun jh => ⟨jh.head, true⟩
               hazardHold := some (s.now + s.hazards.holdTime * Config.second) }
  c.jobChanged j.id (suspendNote h)

/-- The owner job at an onset, by its source and state (R84). A job that is still SUSPENDED after its exit, because its retake waits,
has no hold deadline (log 21). A new onset on it begins a new suspension: it has a fresh deadline, and the onset is reported by a
JOB-STATE with the note SUSPENDED-A or SUSPENDED-B. The spec does not say whether it is so reported (DESIGN CHOICE, log 49). -/
def Ctx.jobInHazard (c : Ctx) (b : Bus) (h : Hazard) : Ctx :=
  match (c.s.busRec b).owner.bind c.s.job? with
  | none => c
  | some j =>
    let hit : Ctx :=
      if j.source = .sweep then (c.handOverJob j .hazard).askRelease j.id .hazardFail else c.suspend j b h
    match j.state with
    | .accessing => hit
    | .monitoring => hit
    | .waitHead => hit
    | .measuring => hit
    | .held => hit
    | .suspended =>
      if j.hazardHold.isNone then
        (c.upd fun s => s.updJob j.id fun j =>
          { j with hazardHold := some (s.now + s.hazards.holdTime * Config.second) }).jobChanged j.id (suspendNote h)
      else c
    | .queued => c
    | .releasing => c

/-- An onset acts on a bus (R81). -/
def Ctx.onsetActs (c : Ctx) (h : Hazard) (b : Bus) : Ctx :=
  let marked := c.s.marksLine h b
  let c := c.upd fun s => s.setHazardRec b { s.hazardRec b with state := h.state, exit := none }
  let c := c.upd fun s => s.hazardAction h b
  let c := match marked with | some l => c.markLine l | none => c
  c.jobInHazard b h

/-- What an application does to an exit that is pending, where it does not act as an onset (R80). -/
def exitAfter : HazardState → Hazard → Option ExitTarget → Option ExitTarget
  | .a, .b, some .toNone => some .toB
  | .a, .b, e => e
  | _, _, _ => none

/-- A hazard is applied to a bus (R80). -/
def Ctx.applyHazard (c : Ctx) (h : Hazard) (b : Bus) : Ctx :=
  let r := c.s.hazardRec b
  if actsAsOnset r.state h then c.onsetActs h b
  else c.upd fun s => s.setHazardRec b { r with exit := exitAfter r.state h r.exit }

/-! ## The beginning of a condition (R75, R78, R89) -/

/-- The sweep is held while the storm condition is in effect (R121). -/
def State.holdSweep (s : State) : State :=
  if s.sweep.state = .running then s.setSweep { s.sweep with state := .held } else s

/-- An onset of an input: the condition begins or stays in effect, its clear-taken mark becomes no, the report is queued,
and the hazard applies to every bus concerned in its enable set, from B0 to B5 (R75, R78, R80, R90). -/
def Ctx.inputOnset (c : Ctx) (i : HazardInput) : Ctx :=
  let c := c.upd fun s => s.setCondition i ⟨.asserted, true, false⟩
  let c := if i = .storm then c.upd State.holdSweep else c
  let hit := (concerned i).filter fun b => c.s.applies (hazardOf i) b
  let changed := busMask fun b => hit.contains b && actsAsOnset (c.s.hazardRec b).state (hazardOf i)
  let c := c.tellInput .onset i true changed ((inputBus i).bind fun b => if hit.contains b then c.s.marksLine (hazardOf i) b else none)
  hit.foldl (fun c b => c.applyHazard (hazardOf i) b) c

/-! ## The end of a condition (R78, R85, R89, R121) -/

/-- The hazard stops applying to a bus: its exit is set pending, or the target of a pending exit changes (R85). -/
def State.stopApplying (s : State) (h : Hazard) (b : Bus) : State :=
  let r := s.hazardRec b
  match r.state, h with
  | .a, .a => s.setHazardRec b { r with exit := some (if s.applies .b b then .toB else .toNone) }
  | .b, .b => s.setHazardRec b { r with exit := some .toNone }
  | .a, .b => if r.exit = some .toB then s.setHazardRec b { r with exit := some .toNone } else s
  | _, _ => s

/-- The sweep is released at the end of the storm condition, and its entry to RUNNING is an issue attempt (R121, R123). -/
def Ctx.releaseSweep (c : Ctx) : Ctx :=
  if c.s.sweep.state = .held then (c.upd fun s => s.setSweep { s.sweep with state := .running }).issue else c

/-- A condition ends: its clear-taken mark becomes no, and the end is passed to each bus it applied to (R78). -/
def Ctx.endCondition (c : Ctx) (i : HazardInput) : Ctx :=
  let hit := (concerned i).filter fun b => inSet (c.s.settingsOf (hazardOf i)).enable b
  let c := c.upd fun s => s.setCondition i { s.condition i with inEffect := false, clearTaken := false }
  let c := c.upd fun s => hit.foldl (fun s b => s.stopApplying (hazardOf i) b) s
  if i = .storm then c.releaseSweep else c

/-! ## The judgement BUSY (R43, R65) -/

/-- The guard of a bus ended BUSY: its owner job is removed with BUSY (R43, R101). -/
def Ctx.judgeBusy (c : Ctx) (b : Bus) : Ctx :=
  let owner := (c.s.busRec b).owner.bind c.s.job?
  let c := (c.upd fun s => s.guardBusy b).walk
  match owner with
  | none => c
  | some j => (c.handOverJob j .busy).removeJob j.id .busy

/-- A guard window has started: a debounced state already PRESENT gives BUSY in the same event (R65). -/
def Ctx.guardBegun (c : Ctx) (b : Bus) : Ctx :=
  if (c.s.busRec b).access = .guard ∧ (c.s.watchRec b).loop = .present then c.judgeBusy b else c

/-- The note of a forced take or cut (R44, R46). -/
def forcedNote : LoopState → JobNote
  | .present => .forcedOverLoop
  | .absent => .forcedIdle

/-! ## A take by a job (R100, R86) -/

/-- The job, already in ACCESSING, takes its line on the bus in this form and moves by what the take reaches (R100,
R101). -/
def Ctx.takeLine (c : Ctx) (id : Nat) (form : AccessMode) (b : Bus) (note : JobNote) : Ctx :=
  match c.s.job? id with
  | none => c
  | some j =>
    let loop := (c.s.watchRec b).loop
    let c := c.upd fun s => s.take form b id j.line j.watch
    match form with
    | .guarded => (c.jobChanged id note).guardBegun b
    | .forced => (c.jobChanged id note).jobChanged id (forcedNote loop)
    | .monitorOnly => (c.enterHolding id .monitoring note).levelCheck b

/-! ## The exit (R85, R86) -/

/-- The Measurement Engine holds a head RESERVED for the bus. -/
def State.reservedHead? (s : State) (b : Bus) : Option Head :=
  allHeads.find? fun h => (s.headRec h).state == .reserved && (s.headRec h).bus == some b

/-- A SUSPENDED job takes its line again on its reserved record (R86): its head reservation ends, and it takes in its kept
form. -/
def Ctx.retake (c : Ctx) (j : Job) (b : Bus) : Ctx :=
  if c.s.takeOk b j.id j.line then
    let c := (c.freeJobHead j.id).upd fun s => s.updJob j.id fun j =>
      { j with state := .accessing, suspendedFrom := none, hazardHold := none }
    c.takeLine j.id j.kept b .resumed
  else c

/-- A SUSPENDED job whose access is CONNECTED again (R86): a head still reserved is attached again and the aborted step
restarts; otherwise the job moves as for reaching CONNECTED. -/
def Ctx.resumeJob (c : Ctx) (id : Nat) (b : Bus) : Ctx :=
  match c.s.job? id with
  | none => c
  | some j =>
    if j.state ≠ .suspended then c
    else
      let c := c.upd fun s => s.updJob id fun j => { j with suspendedFrom := none, hazardHold := none }
      match j.head with
      | some jh =>
        let c := c.giveHead id b jh.head .resumed
        match c.s.markedFor? id with
        | some m => c.passOwnership id m.id
        | none => c
      | none =>
        match c.s.markedFor? id with
        | some m => (c.enterWaitHead id .resumed).passOwnership id m.id
        | none => c.moveConnected id .resumed

/-- The bus returns to normal according to its access (R86). -/
def Ctx.returnToNormal (c : Ctx) (b : Bus) : Ctx :=
  let r := c.s.busRec b
  match r.owner.bind c.s.job? with
  | none => c
  | some j =>
    if j.state ≠ .suspended then c
    else match r.access with
      | .parked => ((c.upd fun s => s.resume b).levelCheck b).resumeJob j.id b
      | .cutting =>
        ((c.upd fun s => s.resume b).upd fun s => s.updJob j.id fun j =>
          { j with state := .accessing, suspendedFrom := none, hazardHold := none }).jobChanged j.id .resumed
      | .idle => c.retake j b
      | .releasing => c.upd fun s => s.updJob j.id fun j => { j with hazardHold := none }
      | _ => c

/-- A pending exit is made (R86). -/
def Ctx.makeExit (c : Ctx) (b : Bus) : Ctx :=
  let r := c.s.hazardRec b
  let h : Hazard := if r.state = .b then .b else .a
  let tell (c : Ctx) (st : HazardState) : Ctx :=
    c.put (.early (.hazard ⟨.exit, h, inputBusOf h b, c.s.inEffectAt h b, busBit b, some st, none, c.s.link.time⟩))
  match r.exit with
  | none => c
  | some .toB =>
    (tell (c.upd fun s => s.setHazardRec b { r with state := .b, exit := none }) .b).upd fun s => s.hazardAction .b b
  | some .toNone =>
    let c := (tell (c.upd fun s => s.setHazardRec b { r with state := .none, exit := none }) .none).returnToNormal b
    if c.s.allocatable b then c.walk else c

/-- A bus's exit is pending with no head reserved for it: its exit is due at once (R85). -/
def State.exitDue (s : State) (b : Bus) : Bool := (s.hazardRec b).exit.isSome && (s.reservedHead? b).isNone

/-- The lowest bus whose exit is due at once. -/
def State.dueExit? (s : State) : Option Bus := allBuses.find? s.exitDue

end Sys2Proof.Machine
end

