-- ==== Sys2Proof/Machine/Settle.lean ====
section
/-! DEFINITION. What follows within one event until nothing more is due: exits that are due (R85), heads handed (R102), the
queue walk with starts and preemption (R99, R100, R114), and the sweep's issue attempt (R123 to R127). -/

namespace Sys2Proof.Machine

/-! ## A job enters the table (R92, R97, R98) -/

/-- The next id above the last one given that names no job, passing from 255 to 1 (R92). -/
def freeId (js : List Job) : Nat → Nat → Nat
  | 0, n => n
  | fuel + 1, n =>
    let k := if 255 ≤ n then 1 else n + 1
    if js.any (fun j => j.id == k) then freeId js fuel k else k

/-- What a requester asks the scheduler to take. -/
structure JobRequest where
  source : JobSource
  line : Nat
  recipe : List RecipeStep
  access : AccessMode
  priority : Priority
  keep : Bool
  watch : WatchSettings
  takeover : Option Nat := none
  verification : Bool := false
  deriving DecidableEq, Repr

/-- A sweep or AUTO job (R92, R74). -/
def JobRequest.routine (source : JobSource) (line : Nat) (verification : Bool) : JobRequest :=
  { source := source, line := line, recipe := fullRecipe, access := .guarded
    priority := if source = .sweep then .routine else .normal, keep := false, watch := WatchSettings.ofSweep
    verification := verification }

/-- The job record of a request as it enters the queue (R92); its wait-head order and time are 0 until it first enters WAIT-HEAD
(log 44; DESIGN CHOICE). -/
def JobRequest.job (q : JobRequest) (id order : Nat) (time : BitVec 32) : Job :=
  { id := id, source := q.source, line := q.line, recipe := q.recipe, access := q.access, kept := q.access
    priority := q.priority, keep := q.keep || q.access == .monitorOnly, watch := q.watch, snapshot := none
    state := .queued, queueOrder := order, startMark := none, bus := none, head := none, step := 0, results := []
    losses := 0, queuedTime := time, waitOrder := 0, waitTime := 0#32, holdLimit := none, hazardHold := none
    suspendedFrom := none, outcome := none, takeover := q.takeover, claim := none, verdict := none, due := none
    verification := q.verification }

/-- The id the next job receives (R92). -/
def State.nextId (s : State) : Nat := freeId s.sched.jobs (Config.jobPlaces + 1) s.sched.lastId

/-- The job enters the table in QUEUED, its JOB-STATE is queued and a walk is due (R95, R97, R98). -/
def Ctx.enqueue (c : Ctx) (q : JobRequest) : Ctx :=
  let id := c.s.nextId
  let c := c.upd fun s => { s with sched := { s.sched with
    jobs := s.sched.jobs ++ [q.job id s.sched.nextQueue s.link.time]
    lastId := id, nextQueue := s.sched.nextQueue + 1 } }
  (c.jobChanged id .none).walk

/-- The jobs of a source. -/
def State.countOf (s : State) (src : JobSource) : Nat := (s.sched.jobs.filter fun j => j.source == src).length

/-- The line has a job in the table in any state. -/
def State.lineBusy (s : State) (line : Nat) : Bool := s.sched.jobs.any fun j => j.line == line

/-- The scheduler takes a sweep or AUTO job for this line (R98). -/
def State.takesRoutine (s : State) (src : JobSource) (line : Nat) : Bool :=
  s.pins.supplyGood && s.sched.jobs.length < Config.jobPlaces && s.countOf src < 2 && !s.lineBusy line
    && (s.route (groupOf line)).enabled

/-! ## The queue walk (R99, R100, R114) -/

/-- A job is put into a list kept in queue order. -/
def insertJob (j : Job) : List Job → List Job
  | [] => [j]
  | k :: ks => if aheadBy Job.queueOrder j k then j :: k :: ks else k :: insertJob j ks

/-- The QUEUED jobs in queue order (R99). -/
def State.queue (s : State) : List Job :=
  (s.sched.jobs.filter fun j => j.state == .queued).foldr insertJob []

/-- A bus is allocatable and in the allowed set of the line's group. -/
def State.startable (s : State) (line : Nat) (b : Bus) : Bool :=
  s.pins.supplyGood && s.allocatable b && inSet (s.route (groupOf line)).allowed b

/-- The bus a job for this line would start on (R99 item 3). -/
def State.startBus? (s : State) (line : Nat) : Option Bus :=
  if s.groupHeld (groupOf line) then none else allBuses.find? (s.startable line)

/-- A job starts on a bus (R100). -/
def Ctx.startJob (c : Ctx) (j : Job) (b : Bus) : Ctx :=
  let c := c.upd fun s =>
    let n := s.sched.nextStart
    let s := s.updJob j.id fun j =>
      { j with state := .accessing, startMark := some n, bus := some b, snapshot := some (s.snapshot j.line) }
    { s with sched := { s.sched with nextStart := n + 1 } }
  c.takeLine j.id j.access b .none

/-- A sweep job that is not RELEASING and satisfies `f`. -/
def State.sweepJobs (s : State) (f : Job → Bool) : List Job :=
  s.sched.jobs.filter fun k => k.source == .sweep && k.state != .releasing && f k

/-- The job owns a bus record that names a line of this group. -/
def State.holdsGroup (s : State) (g : Nat) (k : Job) : Bool :=
  allBuses.any fun b => (s.busRec b).owner == some k.id
    && (match (s.busRec b).line with | some l => groupOf l == g | none => false)

/-- The sweep job that an URGENT job for this line preempts (R114). -/
def State.preemptVictim (s : State) (line : Nat) : Option Job :=
  let g := groupOf line
  if s.groupHeld g then (s.sweepJobs (s.holdsGroup g)).head?
  else latestStarted (s.sweepJobs fun k => match k.bus with | some b => inSet (s.route g).allowed b | none => false)

/-- The URGENT job records its claim and the sweep job is preempted (R114). -/
def Ctx.claimAndPreempt (c : Ctx) (j k : Job) : Ctx :=
  (c.upd fun s => s.updJob j.id fun j => { j with claim := some k.id }).preempt k

/-- The first action of a walk over these jobs, in order; none where every job is passed over (R99, R114). -/
def Ctx.walkList (c : Ctx) : List Job → Option Ctx
  | [] => none
  | j :: rest =>
    if (c.s.dirEntry j.line).cls = 0 then some (c.removeJob j.id .unequipped)
    else if j.takeover.isSome then c.walkList rest
    else match c.s.startBus? j.line with
      | some b => some (c.startJob j b)
      | none =>
        if j.priority = .urgent ∧ j.claim = none then
          match c.s.preemptVictim j.line with
          | some k => some (c.claimAndPreempt j k)
          | none => c.walkList rest
        else c.walkList rest

/-! ## The issue of a sweep job (R123 to R127) -/

/-- An attempt goes on to the choice of a line (R123). -/
def State.mayIssue (s : State) : Bool :=
  s.sweep.state == .running && s.sweep.timer == .expired && s.pins.supplyGood
    && s.countOf .sweep < s.sweep.concurrency && s.sched.jobs.length < Config.jobPlaces

/-- The line has a DISPATCHED line ticket. -/
def State.dispatchedLine (s : State) (line : Nat) : Bool :=
  s.tickets.table.any fun t => t.kind == .line && t.line == some line && t.state == .dispatched

/-- A verify-due ticket whose line is chosen by the first tier (R124). -/
def State.verifyCandidate (s : State) (t : Ticket) : Bool :=
  t.kind == .line && t.verifyDue && t.state != .closed && t.state != .dispatched
    && (match t.line with
      | some l => !s.lineBusy l && !s.sweep.revisit.any (fun e => e.line == l) && (s.dirEntry l).cls != 0
          && (s.route (groupOf l)).enabled
      | none => false)

/-- The first tier (R124): the table stands in ascending order of number. -/
def State.tierOne (s : State) : Option Nat := (s.tickets.table.find? s.verifyCandidate).bind (·.line)

/-- How a candidate revisit entry is judged (R125; log 32). -/
inductive RevisitJudgement where
  | chosen
  | kept
  | removed
  deriving DecidableEq, Repr

def State.judgeRevisit (s : State) (e : RevisitEntry) : RevisitJudgement :=
  if s.lineBusy e.line ∨ s.dispatchedLine e.line ∨ (s.route (groupOf e.line)).enabled = false then .kept
  else if (s.dirEntry e.line).cls = 0 then .removed
  else .chosen

/-- A revisit entry of class 0 leaves the list as untestable (R125). -/
def Ctx.dropUnequipped (c : Ctx) (e : RevisitEntry) : Ctx :=
  (c.put (.late (sweepLineEvent c.s .untestable e.line .unequipped e.attempts))).upd fun s =>
    s.setSweep { s.sweep with revisit := s.sweep.revisit.filter fun x => x.line != e.line
                              stats := s.sweep.stats.addUntestable }

/-- The second tier over these entries, oldest first (R124, R125). -/
def Ctx.tierTwo (c : Ctx) : List RevisitEntry → Ctx × Option RevisitEntry
  | [] => (c, none)
  | e :: rest =>
    if c.s.now < e.notBefore then c.tierTwo rest
    else match c.s.judgeRevisit e with
      | .chosen => (c, some e)
      | .kept => c.tierTwo rest
      | .removed => (c.dropUnequipped e).tierTwo rest

/-- A line is eligible for the cursor walk (R126). -/
def State.eligible (s : State) (line : Nat) : Bool :=
  s.sweep.mask.getLsbD (groupOf line) && (s.route (groupOf line)).enabled && (s.dirEntry line).cls != 0
    && (s.dirEntry line).inService && !s.lineBusy line && !s.dispatchedLine line

/-- The cursor walk over `n` lines from `line` (R126): how many were found ineligible, and the line chosen. -/
def State.cursorWalk (s : State) : Nat → Nat → Nat → Nat × Option Nat
  | 0, _, skipped => (skipped, none)
  | n + 1, line, skipped =>
    if s.eligible line then (skipped, some line) else s.cursorWalk n (line + 1) (skipped + 1)

/-- A pass ends (R127). -/
def Ctx.passEnd (c : Ctx) : Ctx :=
  let w := c.s.sweep
  (c.put (.late (.sweep ⟨.passDone, w.pass, none, none, 0, w.stats, w.state, c.s.link.time⟩))).upd fun s =>
    let w := { s.sweep with pass := (s.sweep.pass + 1) % 65536, stats := PassStats.zero, cursor := 0 }
    s.setSweep (match w.passMode with
      | .single => { w with state := .stopped, timer := .none }
      | .continuous => w)

/-- The pace timer starts with the pace now standing (R122), in a sweep that is still RUNNING (R127 item 5). -/
def State.startPace (s : State) : State :=
  if s.sweep.state = .running then
    s.setSweep { s.sweep with timer := .running (s.now + s.sweep.pace * Config.paceUnit) }
  else s

/-- A sweep job is issued for a line, with the attempts its note carries and whether it records that the line's revisit entry
stays (R123, R124). -/
def Ctx.issueJob (c : Ctx) (line attempts : Nat) (stays : Bool) : Ctx :=
  let verify := match c.s.lineTicket? line with | some t => t.verifyDue | none => false
  let id := c.s.nextId
  (c.enqueue (JobRequest.routine .sweep line verify)).upd fun s =>
    (s.setSweep { s.sweep with notes := s.sweep.notes ++ [⟨id, line, attempts, stays⟩] }).startPace

/-- The line has an entry in the revisit list. -/
def Sweep.revisits (w : Sweep) (line : Nat) : Bool := w.revisit.any fun e => e.line == line

/-- The third tier: the cursor walk, its pass end, and the issue (R124 item 3, R126, R127). Where the line has a revisit
entry, the note records that the entry stays, and it carries 0 attempts (log 40; DESIGN CHOICE): the spec states no attempts
for such a note. -/
def Ctx.tierThree (c : Ctx) : Ctx :=
  let w := c.s.sweep
  let r := c.s.cursorWalk (4096 - w.cursor) w.cursor 0
  let c := c.upd fun s => s.setSweep { s.sweep with
    stats := { s.sweep.stats with skipped := min 65535 (s.sweep.stats.skipped + r.1) } }
  match r.2 with
  | some l =>
    let stays := w.revisits l
    if l < 4095 then (c.upd fun s => s.setSweep { s.sweep with cursor := l + 1 }).issueJob l 0 stays
    else c.passEnd.issueJob l 0 stays
  | none => c.passEnd.upd State.startPace

/-- An issue attempt (R123, R124). -/
def Ctx.issueAttempt (c : Ctx) : Ctx :=
  if c.s.mayIssue then
    match c.s.tierOne with
    | some l => c.issueJob l 0 false
    | none =>
      let r := c.tierTwo c.s.sweep.revisit
      match r.2 with
      | some e =>
        (r.1.upd fun s => s.setSweep { s.sweep with revisit := s.sweep.revisit.filter fun x => x.line != e.line }).issueJob
          e.line e.attempts false
      | none => r.1.tierThree
  else c

/-! ## The settling of an event (log 13) -/

/-- The next thing due in the event: an exit, a head to hand, the walk, or an issue attempt. -/
def Ctx.settleStep (c : Ctx) : Option Ctx :=
  match c.s.dueExit? with
  | some b => some (c.makeExit b)
  | none =>
    match c.s.nextHandout? with
    | some (j, b, h) => some (c.giveHead j.id b h .none)
    | none =>
      if c.walkDue then some ((c.walkList c.s.queue).getD { c with walkDue := false })
      else if c.issueDue then some { c with issueDue := false }.issueAttempt
      else none

/-- The event goes on until nothing more is due in it. -/
def Ctx.settle : Nat → Ctx → Ctx
  | 0, c => c
  | n + 1, c =>
    match c.settleStep with
    | none => c
    | some c' => Ctx.settle n c'

/-- More steps than any event can need: each of the 16 jobs is removed, started, preempted or handed a head a few times at
most, and each of the six exits is made once (log 13). -/
def settleFuel : Nat := 400

/-- An event of the part that is no request, with all that follows in it. -/
def settled (f : Ctx → Ctx) (s : State) : State := event (fun c => (f c).settle settleFuel) s

end Sys2Proof.Machine
end

