-- ==== Sys2Proof/Machine/Operands.lean ====
section
/-! DEFINITION. Reading the fields of a request body: little-endian numbers (00 "Layouts"), codes, settings and identifiers
(R9), the allowed body lengths of R7, and the recipe of TEST and RETEST (R20). -/

namespace Sys2Proof.Machine

/-! ## Numbers -/

/-- The byte at an offset; 0 beyond the end. -/
def byteAt (body : List Byte) (i : Nat) : Nat := (body.getD i 0#8).toNat

/-- A two-byte field, little-endian. -/
def wordAt (body : List Byte) (i : Nat) : Nat := byteAt body i + 256 * byteAt body (i + 1)

/-- A four-byte field, little-endian. -/
def longAt (body : List Byte) (i : Nat) : Nat := wordAt body i + 65536 * wordAt body (i + 2)

/-- The little-endian number of a list of bytes. -/
def leNat : List Byte → Nat
  | [] => 0
  | b :: bs => b.toNat + 256 * leNat bs

/-! ## Lengths (R7) -/

def lengthIs (n : Nat) (body : List Byte) : Bool := body.length == n

/-- ECHO: 0 to 248. -/
def lengthEcho (body : List Byte) : Bool := decide (body.length ≤ 248)

/-- DIR-LOAD: 2 + 3n, n from 1 to 16. -/
def lengthDirLoad (body : List Byte) : Bool :=
  decide (5 ≤ body.length) && decide (body.length ≤ 50) && (body.length - 2) % 3 == 0

/-- A recipe whose count stands at offset `at_` (R20): 2 bytes a step for a count to 118, none for 255. -/
def lengthRecipe (at_ : Nat) (body : List Byte) : Bool :=
  let n := byteAt body at_
  if n ≤ 118 then body.length == at_ + 1 + 2 * n else n == 255 && body.length == at_ + 1

/-! ## Codes (R9) -/

def yesNo : Nat → Option Bool
  | 0 => some false
  | 1 => some true
  | _ => none

def watchModeOf : Nat → Option WatchMode
  | 0 => some .off
  | 1 => some .loopOn
  | 2 => some .loopOff
  | 3 => some .both
  | 4 => some .loopPresent
  | 5 => some .loopAbsent
  | _ => none

def watchBaseOf : Nat → Option WatchBase
  | 0 => some .quarter
  | 1 => some .four
  | _ => none

def watchActionOf : Nat → Option WatchAction
  | 0 => some .report
  | 1 => some .yield
  | _ => none

def accessModeOf : Nat → Option AccessMode
  | 0 => some .monitorOnly
  | 1 => some .guarded
  | 2 => some .forced
  | _ => none

def priorityOf : Nat → Option Priority
  | 0 => some .normal
  | 1 => some .urgent
  | _ => none

def stepKindOf : Nat → Option StepKind
  | 0 => some .fv
  | 1 => some .ir
  | 2 => some .lr
  | 3 => some .cap
  | _ => none

def legOf : Nat → Option Leg
  | 0 => some .ab
  | 1 => some .ae
  | 2 => some .be
  | _ => none

def rangeOf : Nat → Option MeasureRange
  | 0 => some .lo
  | 1 => some .hi
  | _ => none

def formOf : Nat → Option SetForm
  | 0 => some .add
  | 1 => some .remove
  | 2 => some .replace
  | _ => none

def intervalNameOf : Nat → Option IntervalName
  | 0 => some .a
  | 1 => some .b
  | _ => none

def unitOf : Nat → Option IntervalUnit
  | 0 => some .half
  | 1 => some .one
  | 2 => some .two
  | 3 => some .four
  | _ => none

def hazardModeOf : Nat → Option HazardMode
  | 0 => some .latched
  | 1 => some .follow
  | _ => none

def passModeOf : Nat → Option PassMode
  | 0 => some .single
  | 1 => some .continuous
  | _ => none

/-- A code with a value `same` that stands for "unchanged", which keeps `old`. -/
def orSame {α : Type} (same : Nat) (old : α) (f : Nat → Option α) (n : Nat) : Option α :=
  if n = same then some old else f n

/-- A setting whose value 0 stands for "unchanged". -/
def orZero (old lo hi n : Nat) : Nat := if n = 0 then old else clamp lo hi n

/-- A bus set of 6 bits; a value above 63 is outside its list (R31, R73, R77). -/
def busSetOf (n : Nat) : Option BusSet := if n ≤ 63 then some (BitVec.ofNat 6 n) else none

/-! ## Recipes (R20, R96) -/

/-- The steps of a recipe; none where a kind or leg is outside its list. -/
def readSteps : List Byte → Option (List RecipeStep)
  | k :: l :: rest =>
    match stepKindOf k.toNat, legOf l.toNat, readSteps rest with
    | some k, some l, some ss => some (⟨k, l⟩ :: ss)
    | _, _, _ => none
  | _ => some []

/-- The recipe of a body whose count stands at `at_` (R20): 255 stands for the FULL recipe. -/
def readRecipe (at_ : Nat) (body : List Byte) : Option (List RecipeStep) :=
  if byteAt body at_ = 255 then some fullRecipe else readSteps (body.drop (at_ + 1))

/-- LR and CAP steps name A–B (R96, R141). -/
def legFits (s : RecipeStep) : Bool :=
  match s.kind with
  | .lr => s.leg == .ab
  | .cap => s.leg == .ab
  | _ => true

/-- BAD-RECIPE (R96 item 3). -/
def badRecipe (mode : AccessMode) (ss : List RecipeStep) : Bool :=
  if mode = .monitorOnly then !ss.isEmpty
  else ss.isEmpty || decide (8 < ss.length) || !ss.all legFits

/-- The fields of a TEST (R20). -/
structure TestRequest where
  position : Nat
  line : Nat
  access : AccessMode
  priority : Priority
  keep : Bool
  watch : WatchSettings
  recipe : List RecipeStep
  deriving DecidableEq, Repr

/-- The watch fields of a TEST; mode 255 takes the default watch and leaves the others untested (R20). -/
def readTestWatch (body : List Byte) : Option WatchSettings :=
  if byteAt body 6 = 255 then some WatchSettings.ofDesk
  else match watchModeOf (byteAt body 6), watchBaseOf (byteAt body 8), watchActionOf (byteAt body 9) with
    | some m, some b, some a => some ⟨m, min 7 (byteAt body 7), b, a⟩
    | _, _, _ => none

/-- TEST read field by field (R9, R20). -/
def readTest (body : List Byte) : Except Reason TestRequest :=
  let p := byteAt body 0
  let l := wordAt body 1
  if p = 0 ∨ 4 < p then .error .badValue
  else if 4095 < l then .error .lineRange
  else match accessModeOf (byteAt body 3), priorityOf (byteAt body 4), yesNo (byteAt body 5), readTestWatch body,
      readRecipe 10 body with
    | some a, some pr, some k, some w, some r => .ok ⟨p, l, a, pr, k, w, r⟩
    | _, _, _, _, _ => .error .badValue

/-! ## Identifiers (R9) -/

/-- The job an id names: BAD-VALUE for 0 (log 26), NO-JOB for an id that names none. -/
def State.namedJob (s : State) (id : Nat) : Except Reason Job :=
  if id = 0 then .error .badValue
  else match s.job? id with
    | some j => .ok j
    | none => .error .noJob

/-- The ticket a number names: BAD-VALUE for 0, NO-TICKET for a number that names none (section 11.5). -/
def State.namedTicket (s : State) (n : Nat) : Except Reason Ticket :=
  if n = 0 then .error .badValue
  else match s.ticket? n with
    | some t => .ok t
    | none => .error .noTicket

/-- A bus of a number below 6. -/
def busOf (n : Nat) : Option Bus := if h : n < 6 then some ⟨n, h⟩ else none

/-- A head of a number below 4. -/
def headOf (n : Nat) : Option Head := if h : n < 4 then some ⟨n, h⟩ else none

end Sys2Proof.Machine
end

