-- ==== Sys2Proof/Machine/BusEvents.lean ====
section
/-! DEFINITION. The running out of a connect interval and of a restore interval (R47, R51), with what the owner job does at
the state reached (R101, R86). -/

namespace Sys2Proof.Machine

/-- The access has reached CONNECTED at the end of its connect interval: a level watch is tested, and an owner still in
ACCESSING moves (R68, R101; log 16). -/
def Ctx.reachedConnected (c : Ctx) (b : Bus) : Ctx :=
  let c := c.levelCheck b
  match (c.s.busRec b).owner.bind c.s.job? with
  | none => c
  | some j => if j.state = .accessing then c.moveConnected j.id .none else c

/-- A connect interval runs out (R47). -/
def Ctx.connectRunsOut (c : Ctx) (b : Bus) : Ctx :=
  match (c.s.busRec b).access, (c.s.busRec b).interval with
  | .cutting, some i =>
    let c := c.upd fun s => (s.reach i.runsOut).connectEnds b
    if (c.s.busRec b).access = .connected then c.reachedConnected b else c
  | _, _ => c

def execConnectIntervalExpiry (b : Bus) (s : State) : Answer := .next (settled (fun c => c.connectRunsOut b) s)

/-- The access has reached IDLE at the end of its restore interval: a RELEASING owner is removed with its outcome to be, and
a SUSPENDED owner whose exit has been made takes its line again (R86, R94, R101). -/
def Ctx.reachedIdle (c : Ctx) (b : Bus) (owner : Option Job) : Ctx :=
  match owner with
  | none => c.walk
  | some j =>
    match j.state with
    | .releasing => (c.removeJob j.id (j.outcome.getD .cancelled)).walk
    | .suspended => if (c.s.hazardRec b).state = .none then c.retake j b else c
    | _ => c.walk

/-- A restore interval runs out (R51). -/
def Ctx.restoreRunsOut (c : Ctx) (b : Bus) : Ctx :=
  match (c.s.busRec b).access, (c.s.busRec b).interval with
  | .releasing, some i =>
    let owner := (c.s.busRec b).owner.bind c.s.job?
    (c.upd fun s => (s.reach i.runsOut).restoreEnds b).reachedIdle b owner
  | _, _ => c

def execRestoreIntervalExpiry (b : Bus) (s : State) : Answer := .next (settled (fun c => c.restoreRunsOut b) s)

end Sys2Proof.Machine
end

