-- ==== Sys2Proof/Machine/Frames.lean ====
section
/-! DEFINITION. The frame that the transmitter sends (R1): the kind code, the tag and the body bytes of a reply or a report.
Bodies that the spec lays out, and bodies whose fields have the codes and widths of another message's (log 12), are written
out field by field; a field of no stated code or width is a free value (log 11). -/

namespace Sys2Proof.Machine

/-! ## Little-endian fields -/

def byteOf (n : Nat) : Byte := BitVec.ofNat 8 n
def word (n : Nat) : List Byte := [byteOf n, byteOf (n / 256)]
def long (n : Nat) : List Byte := word n ++ word (n / 65536)
/-- A signed four-byte field, two's complement (R21). -/
def signedLong (x : Int) : List Byte := long (BitVec.ofInt 32 x).toNat
def flag (b : Bool) : Byte := if b then 1#8 else 0#8

/-! ## Codes of replies (R8) -/

def Reason.code : Reason → Byte
  | .unknownKind => 1
  | .badLength => 2
  | .supply => 3
  | .starting => 4
  | .badValue => 5
  | .lineRange => 6
  | .unequipped => 7
  | .groupDisabled => 8
  | .badRecipe => 9
  | .lineInUse => 10
  | .positionLimit => 11
  | .tableFull => 12
  | .noJob => 13
  | .wrongState => 14
  | .speechBusy => 15
  | .profileOrder => 16
  | .headAbsent => 17
  | .noTicket => 18
  | .ticketState => 19

/-! ## Codes of JOB-RESULT (R21) -/

def JobOutcome.code : JobOutcome → Byte
  | .complete => 1
  | .cancelled => 2
  | .yielded => 3
  | .preempted => 4
  | .taken => 5
  | .busy => 6
  | .hazardFail => 7
  | .headFault => 8
  | .timeout => 9
  | .unequipped => 10
  | .groupDisabled => 11
  | .supply => 12

def JobSource.code : JobSource → Byte
  | .desk p => byteOf p
  | .auto => 5
  | .sweep => 6

def Verdict.code : Verdict → Byte
  | .ok => 1
  | .marginal => 2
  | .cross => 3
  | .short => 4
  | .earthBoth => 5
  | .earthA => 6
  | .earthB => 7
  | .lowIr => 8
  | .openPair => 9

def AbFinding.code (f : AbFinding) : Byte := byteOf f.rank
def EarthFinding.code (f : EarthFinding) : Byte := byteOf f.rank

def TicketAction.code : TicketAction → Byte
  | .none => 0
  | .raised => 1
  | .raisedRolled => 2
  | .repeated => 3
  | .lastSeenOnly => 4
  | .cleared => 5
  | .reopened => 6
  | .testOkSet => 7
  | .notFound => 8
  | .raiseFailed => 9

def StepKind.code : StepKind → Byte
  | .fv => 0
  | .ir => 1
  | .lr => 2
  | .cap => 3

def Leg.code : Leg → Byte
  | .ab => 0
  | .ae => 1
  | .be => 2

def MeasureRange.code : MeasureRange → Byte
  | .lo => 0
  | .hi => 1

def ResultFlags.code (f : ResultFlags) : Byte :=
  flag f.overRange ||| (flag f.underRange <<< 1) ||| (flag f.foreign <<< 2) ||| (flag f.clip <<< 3) ||| (flag f.skipped <<< 4)
    ||| (flag f.aborted <<< 5)

/-- One result of a JOB-RESULT: 12 bytes (R21). -/
def StepResult.bytes (r : StepResult) : List Byte :=
  [r.kind.code, r.leg.code, match r.range with | some g => g.code | none => 255#8, r.flags.code]
    ++ signedLong r.value1 ++ long r.value2

/-- The five findings in the codes of JOB-RESULT (R21, R162). -/
def Findings.bytes (f : Findings) : List Byte := [f.ab.code, f.ae.code, f.be.code, flag f.voltage, flag f.cap]

/-- Offsets 10 to 21 of a JOB-RESULT (R21). -/
def verdictBytes : Option VerdictHeld → List Byte
  | none => List.replicate 12 0#8
  | some v =>
    [v.verdict.code] ++ v.findings.bytes ++ [flag v.distance.isSome] ++ word (v.distance.getD 0) ++ [v.action.code] ++ word v.ticket

/-- The results of a job with their count, each in the layout of a JOB-RESULT result (R21, R109). -/
def resultsBytes (rs : List StepResult) : List Byte := byteOf rs.length :: (rs.map StepResult.bytes).flatten

/-- JOB-RESULT (R21). -/
def JobResultReport.bytes (r : JobResultReport) : List Byte :=
  [byteOf r.job, r.outcome.code, r.source.code] ++ word r.line ++ long r.time.toNat ++ [flag r.verification]
    ++ verdictBytes r.verdict ++ resultsBytes r.results

/-! ## The ticket of TICKET-READ (R22) -/

def TicketKind.code : TicketKind → Byte
  | .line => 0
  | .cable => 1

def TicketClass.code : TicketClass → Byte
  | .cross => 1
  | .short => 2
  | .earthA => 3
  | .earthB => 4
  | .earthBoth => 5
  | .lowIr => 6
  | .openPair => 7
  | .marginal => 8
  | .unverified => 9
  | .notFound => 10

def TicketOrigin.code : TicketOrigin → Byte
  | .desk p => byteOf p
  | .auto => 5
  | .sweep => 6
  | .hazard => 7
  | .report => 8

def TicketState.code : TicketState → Byte
  | .opened => 1
  | .rolled => 2
  | .dispatched => 3
  | .cleared => 4
  | .closed => 5

def Quantity.code : Quantity → Byte
  | .dcVoltage => 0
  | .acPeak => 1
  | .resistance => 2
  | .capacitance => 3

def Evidence.bytes (e : Evidence) : List Byte := [e.leg.code, e.quantity.code] ++ signedLong e.value

/-- The three evidence places; places beyond the count read 0 (R22). -/
def evidenceBytes (es : List Evidence) : List Byte :=
  ((es.map Evidence.bytes).flatten ++ List.replicate 18 0#8).take 18

/-- The body of TICKET-READ's ACK, 51 bytes (R22). -/
def Ticket.bytes (t : Ticket) : List Byte :=
  word t.number ++ [t.kind.code] ++ word (t.line.getD 65535) ++ [byteOf t.cable, t.cls.code, t.origin.code, t.state.code]
    ++ long t.opened.toNat ++ long t.lastSeen.toNat ++ long t.lastChange.toNat
    ++ [byteOf t.repeats, flag t.verifyDue, flag t.testOk, flag t.complaint, byteOf (t.code.getD 255),
        byteOf t.evidence.length]
    ++ evidenceBytes t.evidence ++ [flag t.distance.isSome] ++ word (t.distance.getD 0) ++ word (t.parent.getD 0)
    ++ [byteOf t.members]

/-! ## Codes of request fields (R20, R77, R119) -/

def WatchMode.code : WatchMode → Byte
  | .off => 0
  | .loopOn => 1
  | .loopOff => 2
  | .both => 3
  | .loopPresent => 4
  | .loopAbsent => 5

def WatchBase.code : WatchBase → Byte
  | .quarter => 0
  | .four => 1

def WatchAction.code : WatchAction → Byte
  | .report => 0
  | .yield => 1

def HazardMode.code : HazardMode → Byte
  | .latched => 0
  | .follow => 1

def Hazard.code : Hazard → Byte
  | .a => 0
  | .b => 1

def PassMode.code : PassMode → Byte
  | .single => 0
  | .continuous => 1

def AccessMode.code : AccessMode → Byte
  | .monitorOnly => 0
  | .guarded => 1
  | .forced => 2

/-- A bus set as a mask (R31, R73, R77). -/
def maskByte (m : BusSet) : Byte := m.setWidth 8

/-- A recipe as TEST and RETEST lay it out (R20). -/
def recipeBytes (r : List RecipeStep) : List Byte :=
  byteOf r.length :: (r.map fun st => [st.kind.code, st.leg.code]).flatten

/-! ## Fields with the codes and widths of other messages (log 12) -/

/-- A field of no stated code or width (log 11). -/
def OpenField.bytes (f : OpenField) : List Byte := Config.fieldBytes f

/-- A field that may be absent: the spec states no code for its absence (log 11). -/
def orAbsent (f : FieldName) : Option (List Byte) → List Byte
  | some bs => bs
  | none => (OpenField.optional f none).bytes

/-- The bus, by its number as WATCH-SET gives it (R72). -/
def busBytes (f : FieldName) (b : Option Bus) : List Byte := orAbsent f (b.map fun b => [byteOf b.val])

/-- The line, in two bytes. -/
def lineBytes (f : FieldName) (l : Option Nat) : List Byte := orAbsent f (l.map word)

/-- The job, by its id. -/
def jobBytes (f : FieldName) (n : Option Nat) : List Byte := orAbsent f (n.map fun n => [byteOf n])

/-- The codes of TEST; ROUTINE has none (R20, log 11). -/
def Priority.bytes : Priority → List Byte
  | .normal => [0#8]
  | .urgent => [1#8]
  | .routine => OpenField.routine.bytes

def DirEntry.bytes (e : DirEntry) : List Byte := [byteOf e.cls, byteOf e.cable, flag e.inService]

def Profile.bytes (p : Profile) : List Byte :=
  long p.fvDanger ++ long p.fvLimit ++ long p.acLimit ++ long p.shOhm ++ long p.irFail ++ long p.irMarg ++ word p.capMin
    ++ [byteOf p.capPerKm, byteOf p.hyst, byteOf p.marginalLimit]

def IntervalName.code : IntervalName → Byte
  | .a => 0
  | .b => 1

def IntervalUnit.code : IntervalUnit → Byte
  | .half => 0
  | .one => 1
  | .two => 2
  | .four => 3

def Route.bytes (r : Route) : List Byte :=
  [flag r.enabled, byteOf r.allowed.toNat, r.connect.code, r.restore.code]

def ReleaseInterval.bytes (i : ReleaseInterval) : List Byte := [byteOf i.count, i.unit.code]

def WatchSettings.bytes (w : WatchSettings) : List Byte := [w.mode.code, byteOf w.n, w.base.code, w.action.code]

/-- HAZARD-SET's ACK: mode, enable set, action mask, hold time and the three masks (R77). -/
def HazardView.bytes (v : HazardView) : List Byte :=
  [v.settings.mode.code, maskByte v.settings.enable, maskByte v.settings.isolate, byteOf v.holdTime, maskByte v.inputs,
    maskByte v.inEffect, maskByte v.clearTaken]

/-- A sweep group mask: one place for each group, G00 in the lowest place of the first byte and G63 in the highest place of
the eighth (R119). -/
def groupMaskBytes (m : BitVec 64) : List Byte := long m.toNat ++ long (m.toNat / 4294967296)

/-- A step table entry in the layout of STEP-SET, its kind first (R140); the FV source level reads as none (log 11) and the
FV and CAP start range as LO. -/
def StepEntry.bytes (kind : StepKind) (e : StepEntry) : List Byte :=
  [kind.code] ++ word e.period ++ word e.phase
    ++ [byteOf e.post, byteOf e.discard, byteOf e.samples,
        match e.level with | some l => byteOf l | none => Config.noLevel, e.startRange.code]

/-- LINE-READ's ACK (R162): 0 stands for the verdict UNKNOWN and for no ticket. -/
def LineStatus.bytes (line : Nat) (r : LineStatus) : List Byte :=
  word line ++ [match r.verdict with | some v => v.code | none => 0#8] ++ r.findings.bytes
    ++ (OpenField.number .streak r.streak).bytes ++ word (r.ticket.getD 0) ++ [flag r.unticketed] ++ long r.testTime.toNat
    ++ (OpenField.number .lastPass r.pass).bytes

/-- The job record field by field in the order of its table (section 6.1, R109), the recipe with its count and steps. -/
def Job.bytes (j : Job) : List Byte :=
  [byteOf j.id, j.source.code] ++ word j.line ++ recipeBytes j.recipe ++ [j.access.code, j.kept.code]
    ++ j.priority.bytes ++ [flag j.keep] ++ j.watch.bytes ++ (OpenField.snapshot j.snapshot).bytes
    ++ (OpenField.jobState (some j.state)).bytes ++ (OpenField.number .queueOrder j.queueOrder).bytes
    ++ (OpenField.optional .startMark j.startMark).bytes ++ busBytes .bus j.bus
    ++ (OpenField.head j.head).bytes ++ [byteOf j.step] ++ resultsBytes j.results ++ [byteOf j.losses]
    ++ long j.queuedTime.toNat ++ (OpenField.number .waitOrder j.waitOrder).bytes ++ long j.waitTime.toNat
    ++ (OpenField.optional .holdLimit j.holdLimit).bytes ++ (OpenField.optional .hazardHold j.hazardHold).bytes
    ++ (OpenField.suspendedFrom j.suspendedFrom).bytes ++ orAbsent .outcome (j.outcome.map fun o => [o.code])
    ++ jobBytes .takeover j.takeover ++ jobBytes .claim j.claim
    ++ (OpenField.verdictHeld j.verdict).bytes ++ [flag j.verification]

/-- The pass statistics in the order of R128. -/
def PassStats.bytes (p : PassStats) : List Byte :=
  (OpenField.number .tested p.tested).bytes ++ (OpenField.number .faults p.faults).bytes
    ++ (OpenField.number .marginal p.marginal).bytes ++ (OpenField.number .skipped p.skipped).bytes
    ++ (OpenField.number .untestable p.untestable).bytes

def RevisitView.bytes (e : RevisitView) : List Byte :=
  word e.line ++ (OpenField.reason (some e.reason)).bytes ++ (OpenField.number .attempts e.attempts).bytes
    ++ (OpenField.number .seconds e.seconds).bytes

/-- SWEEP-READ's ACK, its group mask in the layout of SWEEP-SET (R132). -/
def SweepView.bytes (v : SweepView) : List Byte :=
  (OpenField.sweepState v.state).bytes ++ [byteOf v.pace, byteOf v.concurrency, v.passMode.code] ++ groupMaskBytes v.mask
    ++ (OpenField.paceTimer v.timer).bytes ++ (OpenField.number .cursor v.cursor).bytes
    ++ (OpenField.number .pass v.pass).bytes ++ v.stats.bytes ++ (OpenField.number .sweepJobs v.jobs.length).bytes
    ++ (v.jobs.map fun x => byteOf x.1 :: (OpenField.number .carried x.2).bytes).flatten
    ++ (OpenField.number .entries v.entries.length).bytes ++ (v.entries.map RevisitView.bytes).flatten

/-- TICKET-EVENT in the codes and widths of TICKET-READ (R22, R187): the line of a cable ticket is 65535. -/
def TicketEvent.bytes (e : TicketEvent) : List Byte :=
  (OpenField.ticketEvent e.event).bytes ++ word e.number ++ [e.kind.code] ++ word (e.line.getD 65535)
    ++ [byteOf e.cable, e.cls.code]
    ++ (match e.state with | some st => [st.code] | none => OpenField.noTicketState.bytes)
    ++ word (e.parent.getD 0) ++ [byteOf e.members]
    ++ (match e.origin with | some o => [o.code] | none => OpenField.noTicketOrigin.bytes)
    ++ [byteOf e.repeats] ++ long e.time.toNat

/-- STATUS's ACK (R16). -/
def StatusView.bytes (v : StatusView) : List Byte :=
  [flag v.starting, flag v.supplyFall] ++ long v.time.toNat ++ [flag v.timeSet] ++ (OpenField.sweepState v.sweep).bytes
    ++ (v.buses.map fun b : BusStatus => (OpenField.access (some b.access)).bytes ++ (OpenField.hazardState b.hazard).bytes
        ++ [flag b.pending] ++ (OpenField.loopSense b.loop).bytes).flatten
    ++ (v.heads.map fun h : HeadStatus =>
        (OpenField.headState h.state).bytes ++ busBytes .bus h.bus).flatten
    ++ (OpenField.number .jobs v.jobs).bytes ++ (OpenField.number .queueLevel v.queue).bytes ++ [byteOf v.lost]

/-- The bytes of an ACK body. -/
def AckBody.bytes : AckBody → List Byte
  | .empty => []
  | .echo bs => bs
  | .status v => v.bytes
  | .time t => long t.toNat
  | .directory first es => word first ++ [byteOf es.length] ++ (es.map DirEntry.bytes).flatten
  | .profile cls p => byteOf cls :: p.bytes
  | .routeTaken g r => byteOf g :: r.bytes
  | .route g r a b holding =>
    byteOf g :: r.bytes ++ a.bytes ++ b.bytes ++ busBytes .holdingBus holding
  | .interval w i => w.code :: i.bytes
  | .watch b w pending loop g =>
    [byteOf b] ++ w.bytes ++ orAbsent .pending (pending.map fun p => [flag p])
      ++ (OpenField.loopSense loop).bytes ++ [byteOf g]
  | .watchPending m => [maskByte m]
  | .hazard v => v.bytes
  | .hazardClear e t => [byteOf e.toNat, byteOf t.toNat]
  | .test n st waitsOn takenOver evicted w =>
    [byteOf n] ++ (OpenField.jobState st).bytes ++ [byteOf waitsOn, byteOf takenOver, byteOf evicted] ++ w.bytes
  | .job n st => [byteOf n] ++ (OpenField.jobState st).bytes
  | .speech n x => [byteOf n] ++ (OpenField.speech x).bytes
  | .jobRead j access loop => j.bytes ++ (OpenField.access access).bytes ++ (OpenField.loopSense loop).bytes
  | .holdLimit p m => [byteOf p, byteOf m]
  | .sweepState st cursor pass timer =>
    (OpenField.sweepState st).bytes ++ (OpenField.number .cursor cursor).bytes ++ (OpenField.number .pass pass).bytes
      ++ (OpenField.paceTimer timer).bytes
  | .sweepSettings pace conc mode mask st =>
    [byteOf pace, byteOf conc, mode.code] ++ groupMaskBytes mask ++ (OpenField.sweepState st).bytes
  | .sweepRead v => v.bytes
  | .head h st b => [byteOf h.val] ++ (OpenField.headState st).bytes ++ busBytes .bus b
  | .stepEntry kind e => e.bytes kind
  | .line l r => r.bytes l
  | .complaint l action number auto due => word l ++ [action.code] ++ word number ++ [byteOf auto, flag due]
  | .ticketState number st due => word number ++ [st.code, flag due]
  | .ticketClosed number returned =>
    word number ++ [TicketState.code .closed]
      ++ (match returned with | some n => (OpenField.number .returned n).bytes | none => [])
  | .ticketList filter page total ns =>
    [byteOf filter, byteOf page] ++ (OpenField.number .matches total).bytes ++ (OpenField.number .onPage ns.length).bytes
      ++ (ns.map word).flatten
  | .rollup n w t => [byteOf n, byteOf w, byteOf t]
  | .erased n => (OpenField.number .removed n).bytes
  | .ticket t => t.bytes

/-- The reason codes of LINK-ERROR (R4). -/
def LinkErrorReason.code : LinkErrorReason → Byte
  | .timeout => 1
  | .check => 2
  | .overrun => 3
  | .framing => 4
  | .tag => 5

/-- JOB-STATE, field by field as R95's table lists them: verdict, findings, ticket action and ticket number as in JOB-RESULT, 0 where
none is carried. R170 item 8 says that JOB-STATE on entering HELD carries the distance too, and R95's table lists none. The
report holds the distance in its verdict, and its bytes follow R95 and leave it out (DESIGN CHOICE, log 48). -/
def JobStateReport.bytes (r : JobStateReport) : List Byte :=
  [byteOf r.job, r.source.code] ++ word r.line ++ (OpenField.jobState (some r.state)).bytes
    ++ busBytes .bus r.bus ++ (OpenField.head r.head).bytes ++ [byteOf r.step]
    ++ (OpenField.jobNote r.note).bytes ++ [byteOf r.losses]
    ++ (match r.verdict with
        | some v => [v.verdict.code] ++ v.findings.bytes ++ [v.action.code] ++ word v.ticket
        | none => List.replicate 9 0#8)
    ++ long r.time.toNat

/-- WATCH-EVENT (R69). -/
def WatchEvent.bytes (e : WatchEvent) : List Byte :=
  [byteOf e.bus.val] ++ lineBytes .line e.line
    ++ jobBytes .job e.job
    ++ (OpenField.watchCause e.cause).bytes ++ (OpenField.loopSense (some e.loop)).bytes ++ [e.mode.code, e.action.code]
    ++ long e.time.toNat

/-- HAZARD-EVENT (R90). -/
def HazardEvent.bytes (e : HazardEvent) : List Byte :=
  (OpenField.hazardEvent e.event).bytes ++ [e.hazard.code] ++ busBytes .inputBus e.inputBus
    ++ [flag e.inEffect, maskByte e.buses] ++ (OpenField.newState e.newState).bytes
    ++ lineBytes .marked e.marked ++ long e.time.toNat

/-- SWEEP-EVENT (R131). -/
def SweepEvent.bytes (e : SweepEvent) : List Byte :=
  (OpenField.sweepEvent e.event).bytes ++ (OpenField.number .pass e.pass).bytes
    ++ lineBytes .line e.line
    ++ (OpenField.reason e.reason).bytes ++ (OpenField.number .attempts e.attempts).bytes ++ e.stats.bytes
    ++ (OpenField.sweepState e.state).bytes ++ long e.time.toNat

/-- The bytes of a report body: START's fields in the order of R18; the four fields of LINK-ERROR are the reason's code, the
kind, the tag and the count of bytes received (R4). -/
def Report.bytes : Report → List Byte
  | .start cause lost tickets timeSet rate =>
    (OpenField.resetCause cause).bytes ++ (OpenField.storeLost lost).bytes ++ (OpenField.number .tickets tickets).bytes
      ++ [flag timeSet] ++ (OpenField.rate rate).bytes
  | .linkError reason kind tag n => [reason.code, kind, tag, byteOf n]
  | .overflow lost => [byteOf lost]
  | .jobState r => r.bytes
  | .jobResult r => r.bytes
  | .watch e => e.bytes
  | .hazard e => e.bytes
  | .sweep e => e.bytes
  | .ticket e => e.bytes

/-- The kind codes of reports (R7). -/
def Report.code : Report → Byte
  | .start _ _ _ _ _ => 0x60#8
  | .linkError _ _ _ _ => 0x61#8
  | .overflow _ => 0x62#8
  | .jobState _ => 0x63#8
  | .jobResult _ => 0x64#8
  | .watch _ => 0x65#8
  | .hazard _ => 0x66#8
  | .sweep _ => 0x67#8
  | .ticket _ => 0x68#8

/-! ## The frame (R1) -/

/-- The sum of bytes modulo 256. -/
def byteSum (bs : List Byte) : Byte := bs.foldl (· + ·) 0#8

/-- Start, length, kind, tag, body and check (R1). -/
def frame (kind tag : Byte) (body : List Byte) : List Byte :=
  let len := byteOf (body.length + 2)
  [0xA5#8, len, kind, tag] ++ body ++ [-(byteSum ([len, kind, tag] ++ body))]

/-- The frame of a reply: an ACK carries the request's code plus 0x80, a REJECT 0xFF (R7, R8). -/
def Reply.frame (r : Reply) : List Byte :=
  match r.content with
  | .ack b => Machine.frame (r.code + 0x80#8) r.tag b.bytes
  | .reject reason => Machine.frame 0xFF#8 r.tag [r.code, reason.code]

/-- The frame of a report: tag 0 (R1). -/
def Report.frame (r : Report) : List Byte := Machine.frame r.code 0#8 r.bytes

/-- The frame leaving TXD, if one is being sent (R1, R10). -/
def State.txd (s : State) : Option (List Byte) :=
  match s.link.tx with
  | .idle => none
  | .reply r => some r.frame
  | .report r => some r.frame

end Sys2Proof.Machine
end

