-- ==== Sys2Proof/Machine/Hazard.lean ====
section
/-! DEFINITION. The Hazard Unit's commands (05): HAZARD-SET, HAZARD-CLEAR, the hazard inputs, the release filter and the
hazard hold deadline. -/

namespace Sys2Proof.Machine

def allInputs : List HazardInput := allBuses.map HazardInput.a ++ [.storm]

/-! ## HAZARD-SET (R77; log 18) -/

/-- The inputs of a hazard. -/
def inputsOf : Hazard → List HazardInput
  | .a => allBuses.map .a
  | .b => [.storm]

/-- The input whose condition of this hazard concerns a bus. -/
def inputAt (h : Hazard) (b : Bus) : HazardInput := match h with | .a => .a b | .b => .storm

/-- The settings a HAZARD-SET leaves; none where a code is outside its list (R77). -/
def hazardTaken (body : List Byte) (x : HazardSettings) : Option HazardSettings :=
  match orSame 255 x.mode hazardModeOf (byteAt body 1), formOf (byteAt body 2), busSetOf (byteAt body 3),
      orSame 255 x.isolate busSetOf (byteAt body 4) with
  | some m, some f, some e, some i => some ⟨m, f.apply x.enable e, i⟩
  | _, _, _, _ => none

/-- A bus joins the enable set while the condition is in effect: ENTER, and the application (R77, R80, R90; log 17). ENTER's new
state is that after the application, also where the same request ends the condition and so makes the bus's exit (log 43; DESIGN
CHOICE). -/
def Ctx.enterBus (c : Ctx) (h : Hazard) (b : Bus) : Ctx :=
  let acts := actsAsOnset (c.s.hazardRec b).state h
  let after := if acts then h.state else (c.s.hazardRec b).state
  let c := c.put (.early (.hazard ⟨.enter, h, inputBusOf h b, c.s.inEffectAt h b, if acts then busBit b else 0#6, some after,
    c.s.marksLine h b, c.s.link.time⟩))
  c.applyHazard h b

/-- A condition that a passage from LATCHED to FOLLOW ends: in effect, its input GONE (R77). -/
def Condition.endsInFollow (old new : HazardMode) (k : Condition) : Bool :=
  old == .latched && new == .follow && k.inEffect && k.input == .gone

/-- A condition after a change of mode: ended where the passage ends it, its clear-taken mark no (R77). -/
def Condition.afterMode (old new : HazardMode) (k : Condition) : Condition :=
  if new = old then k else { k with inEffect := k.inEffect && !k.endsInFollow old new, clearTaken := false }

/-- What a HAZARD-SET finds of a hazard before it writes: the settings, and for each bus whether the condition that concerns
it is in effect, and whether the new mode ends it. -/
structure HazardChange where
  hazard : Hazard
  old : HazardSettings
  new : HazardSettings
  was : Bus → Bool
  ends : Bus → Bool

def State.hazardChange (s : State) (h : Hazard) (new : HazardSettings) : HazardChange :=
  { hazard := h, old := s.settingsOf h, new := new, was := s.inEffectAt h
    ends := fun b => (s.condition (inputAt h b)).endsInFollow (s.settingsOf h).mode new.mode }

/-- The consequences at one bus, whole (R77): the bus joins the enable set, or leaves it, or the condition ends under the new
mode; and an exit so set pending is made at once where no head is reserved for the bus (R85). -/
def Ctx.hazardAt (c : Ctx) (x : HazardChange) (b : Bus) : Ctx :=
  let joins := inSet x.new.enable b && !inSet x.old.enable b
  let leaves := inSet x.old.enable b && !inSet x.new.enable b
  let c := if joins && x.was b then c.enterBus x.hazard b else c
  let c := if leaves || (inSet x.new.enable b && x.ends b) then c.upd fun s => s.stopApplying x.hazard b else c
  if c.s.exitDue b then c.makeExit b else c

/-- What HAZARD-SET's ACK carries (R77). -/
def State.hazardView (s : State) (h : Hazard) : HazardView :=
  let mask (f : Condition → Bool) : BusSet :=
    match h with
    | .a => busMask fun b => f (s.condition (.a b))
    | .b => if f s.hazards.storm then 1#6 else 0#6
  ⟨h, s.settingsOf h, s.hazards.holdTime, mask fun k => k.input != .gone, mask (·.inEffect), mask (·.clearTaken)⟩

/-- The changes of a HAZARD-SET that is taken: the settings and the conditions that the new mode touches; then the
consequences bus by bus from B0 to B5; then the sweep's release where the storm condition has ended; and the hold time last,
for suspensions begun after this event (R77, R89, R121; log 18). -/
def Ctx.setHazard (c : Ctx) (h : Hazard) (new : HazardSettings) (hold : Nat) : Ctx :=
  let x := c.s.hazardChange h new
  let c := c.upd fun s => (inputsOf h).foldl
    (fun s i => s.setCondition i ((s.condition i).afterMode x.old.mode x.new.mode)) (s.setSettings h new)
  let c := allBuses.foldl (fun c b => c.hazardAt x b) c
  let c := if h = .b ∧ x.ends 0 = true then c.releaseSweep else c
  c.upd fun s => { s with hazards := { s.hazards with holdTime := if hold = 0 then s.hazards.holdTime else hold } }

/-- HAZARD-SET (R77). -/
def ownerHazardSet (body : List Byte) (c : Ctx) : Served :=
  let go (h : Hazard) : Served :=
    match hazardTaken body (c.s.settingsOf h) with
    | none => .rejected .badValue
    | some new => .done ((c.setHazard h new (byteAt body 5)).settle settleFuel) fun s => .hazard (s.hazardView h)
  match byteAt body 0 with
  | 0 => go .a
  | 1 => go .b
  | _ => .rejected .badValue

/-! ## HAZARD-CLEAR (R79) -/

/-- CLEARED, for the end of a LATCHED condition (R90). -/
def Ctx.tellCleared (c : Ctx) (i : HazardInput) : Ctx := c.tellInput .cleared i false 0#6 none

/-- The clear is taken for one condition (R78, R79). -/
def Ctx.clearCondition (c : Ctx) (i : HazardInput) : Ctx :=
  let k := c.s.condition i
  if k.inEffect ∧ (c.s.settingsOf (hazardOf i)).mode = .latched then
    if k.input = .gone then (c.tellCleared i).endCondition i
    else c.upd fun s => s.setCondition i { k with clearTaken := true }
  else c

/-- A mask in the layout of HAZARD-CLEAR (R79). -/
def State.conditionMask (s : State) (f : Condition → Bool) : BitVec 7 :=
  allInputs.foldl (fun m i => if f (s.condition i) then m ||| (1#7 <<< inputKey i) else m) 0#7

/-- HAZARD-CLEAR (R79): the conditions named are taken one after another, A of B0 to B5 and then the storm (log 39; DESIGN
CHOICE). -/
def ownerHazardClear (body : List Byte) (c : Ctx) : Served :=
  let m := byteAt body 0
  if 127 < m then .rejected .badValue
  else
    let named := allInputs.filter fun i => (BitVec.ofNat 7 m).getLsbD (inputKey i)
    .done ((named.foldl (fun c i => c.clearCondition i) c).settle settleFuel) fun s =>
      .hazardClear (s.conditionMask (·.inEffect)) (s.conditionMask (·.clearTaken))

def execHazardSet (tag : Byte) (body : List Byte) (s : State) : Answer :=
  .next (requestFrame 0x22#8 (lengthIs 6) ownerHazardSet tag body s)

def execHazardClear (tag : Byte) (body : List Byte) (s : State) : Answer :=
  .next (requestFrame 0x23#8 (lengthIs 1) ownerHazardClear tag body s)

/-! ## The inputs (R75, R78) -/

/-- The level of a hazard input. -/
def State.setHazardPin (s : State) (i : HazardInput) (active : Bool) : State :=
  { s with pins := { s.pins with hazards := Table.set false s.pins.hazards (inputKey i) active } }

/-- An input becomes active: an onset from GONE, a reassertion from FILTERING (R75, R78). While a reset is under way only
the level is followed (log 7). -/
def Ctx.inputActive (c : Ctx) (i : HazardInput) : Ctx :=
  let c := c.upd fun s => s.setHazardPin i true
  if c.s.resets.active then c
  else
    let k := c.s.condition i
    match k.input with
    | .gone => c.inputOnset i
    | .filtering _ => c.upd fun s => s.setCondition i { k with input := .asserted, clearTaken := false }
    | .asserted => c

def execHazardInputActive (i : HazardInput) (s : State) : Answer := .next (settled (fun c => c.inputActive i) s)

/-- An input becomes inactive: its release timer starts (R75). -/
def Ctx.inputInactive (c : Ctx) (i : HazardInput) : Ctx :=
  let c := c.upd fun s => s.setHazardPin i false
  if c.s.resets.active then c
  else
    let k := c.s.condition i
    match k.input with
    | .asserted => c.upd fun s => s.setCondition i { k with input := .filtering (s.now + Config.releaseFilter) }
    | _ => c

def execHazardInputInactive (i : HazardInput) (s : State) : Answer := .next (event (fun c => c.inputInactive i) s)

/-- The input-gone event: the condition ends in FOLLOW mode, or under LATCHED where the clear was taken (R75, R78, R90). -/
def Ctx.inputGone (c : Ctx) (i : HazardInput) : Ctx :=
  let k := c.s.condition i
  match k.input with
  | .filtering m =>
    let follow : Bool := (c.s.settingsOf (hazardOf i)).mode == .follow
    let ends := k.inEffect && (follow || k.clearTaken)
    let c := c.upd fun s => (s.reach m).setCondition i { k with input := .gone }
    let c := c.tellInput .gone i (k.inEffect && !ends) 0#6 none
    if ends then ((if follow then c else c.tellCleared i)).endCondition i else c
  | _ => c

def execHazardReleaseTimerExpiry (i : HazardInput) (s : State) : Answer := .next (settled (fun c => c.inputGone i) s)

/-! ## The hold deadline (R88) -/

/-- The hold deadline of a SUSPENDED job passes: it ends with HAZARD-FAIL (R88). -/
def Ctx.hazardHoldEnds (c : Ctx) (id : Nat) : Ctx :=
  match c.s.job? id with
  | none => c
  | some j =>
    match j.state, j.hazardHold with
    | .suspended, some m => (c.upd fun s => s.reach m).askRelease id .hazardFail
    | _, _ => c

def execHazardHoldExpiry (job : Nat) (s : State) : Answer := .next (settled (fun c => c.hazardHoldEnds job) s)

end Sys2Proof.Machine
end

