-- ==== Sys2Proof/Machine/Heads.lean ====
section
/-! DEFINITION. The Measurement Engine's commands (08): HEAD-ACCEPT, STEP-SET, STEP-READ, the presence inputs, frame
boundaries, triggers and sample pairs. -/

namespace Sys2Proof.Machine

/-! ## The requests (R135, R140) -/

/-- The ACK of HEAD-ACCEPT (R135). -/
def headAck (h : Head) (s : State) : AckBody := .head h (s.headRec h).state (s.headRec h).bus

/-- A head is accepted: IDLE, its missing-run count 0 (R135). -/
def State.acceptHead (s : State) (h : Head) : State :=
  s.setHeadRec h { HeadRecord.initial with standing := (s.headRec h).standing }

/-- HEAD-ACCEPT (R135). -/
def ownerHeadAccept (body : List Byte) (c : Ctx) : Served :=
  match headOf (byteAt body 0) with
  | none => .rejected .badValue
  | some h =>
    match (c.s.headRec h).state with
    | .replaced => .done ((c.upd fun s => s.acceptHead h).settle settleFuel) (headAck h)
    | .failed => .done ((c.upd fun s => s.acceptHead h).settle settleFuel) (headAck h)
    | .absent => .rejected .headAbsent
    | _ => .done c (headAck h)

/-- The entry a STEP-SET leaves, each setting clamped and the period first; none where the start range is outside its list
(R140). -/
def stepTaken (kind : StepKind) (body : List Byte) : Option StepEntry :=
  let period := clamp 8 8000 (wordAt body 1)
  let phase := min (period - 1) (wordAt body 3)
  let post := clamp 1 16 (byteAt body 5)
  let discard := min 15 (byteAt body 6)
  let level := min 3 (byteAt body 8)
  match kind with
  | .fv => some ⟨period, phase, post, discard, clamp 1 64 (byteAt body 7), none, .lo⟩
  | .cap => some ⟨period, phase, post, discard, clamp 2 64 (byteAt body 7), some level, .lo⟩
  | _ => (rangeOf (byteAt body 9)).map fun r => ⟨period, phase, post, discard, clamp 1 64 (byteAt body 7), some level, r⟩

def StepTable.put (t : StepTable) (e : StepEntry) : StepKind → StepTable
  | .fv => { t with fv := e }
  | .ir => { t with ir := e }
  | .lr => { t with lr := e }
  | .cap => { t with cap := e }

/-- STEP-SET (R140). -/
def ownerStepSet (body : List Byte) (c : Ctx) : Served :=
  match stepKindOf (byteAt body 0) with
  | none => .rejected .badValue
  | some k =>
    match stepTaken k body with
    | none => .rejected .badValue
    | some e =>
      .done (c.upd fun s => { s with engine := { s.engine with steps := s.engine.steps.put e k } }) fun _ => .stepEntry k e

/-- STEP-READ (R140). -/
def ownerStepRead (body : List Byte) (c : Ctx) : Served :=
  match stepKindOf (byteAt body 0) with
  | none => .rejected .badValue
  | some k => .done c fun s => .stepEntry k (s.engine.steps.entry k)

def execHeadAccept (tag : Byte) (body : List Byte) (s : State) : Answer :=
  .next (requestFrame 0x3C#8 (lengthIs 1) ownerHeadAccept tag body s)

def execStepSet (tag : Byte) (body : List Byte) (s : State) : Answer :=
  .next (requestFrame 0x3D#8 (lengthIs 10) ownerStepSet tag body s)

def execStepRead (tag : Byte) (body : List Byte) (s : State) : Answer :=
  .next (requestFrame 0x3E#8 (lengthIs 1) ownerStepRead tag body s)

/-! ## Presence (R134) -/

/-- The level of a presence input. -/
def State.setHeadPin (s : State) (h : Head) (present : Bool) : State :=
  { s with pins := { s.pins with heads := Table.set true s.pins.heads h.val present } }

/-- The record of a head that has left service with this state (R134, R145); the configure stands (R137; log 41). -/
def outOfService (state : HeadState) (missing : Nat) (r : HeadRecord) : HeadRecord :=
  { HeadRecord.initial with state := state, missing := missing, standing := r.standing }

/-- A head's presence input becomes inactive (R134). While a reset is under way only the level is followed (log 7). -/
def Ctx.presenceLost (c : Ctx) (h : Head) : Ctx :=
  let c := c.upd fun s => s.setHeadPin h false
  if c.s.resets.active then c
  else
    let r := c.s.headRec h
    let c := c.upd fun s => s.setHeadRec h (outOfService .absent 0 r)
    match r.state, r.step, r.bus with
    | .attached, some st, _ => c.headLost st
    | .reserved, _, some b => c.reservedLost h b
    | _, _, _ => c

def execHeadPresenceLost (h : Head) (s : State) : Answer := .next (settled (fun c => c.presenceLost h) s)

/-- A head's presence input becomes active again: ABSENT becomes REPLACED (R134). -/
def Ctx.presenceReturns (c : Ctx) (h : Head) : Ctx :=
  let c := c.upd fun s => s.setHeadPin h true
  if c.s.resets.active then c
  else if (c.s.headRec h).state = .absent then c.upd fun s => s.setHeadRec h { s.headRec h with state := .replaced }
  else c

def execHeadPresenceReturn (h : Head) (s : State) : Answer := .next (event (fun c => c.presenceReturns h) s)

/-! ## Frames (R143, R145, R149) -/

/-- The time base one boundary on (R143). -/
def TimeBase.advance (t : TimeBase) : TimeBase :=
  { t with index := (t.index + 1) % t.post, next := t.next + t.period }

/-- A frame boundary: the index advances, and for a RESERVED head the pending exit of its bus is made (R85, R143, R149). -/
def Ctx.boundary (c : Ctx) (h : Head) : Ctx :=
  let r := c.s.headRec h
  match r.timeBase with
  | none => c
  | some t =>
    let c := c.upd fun s => (s.reach t.next).setHeadRec h { r with timeBase := some t.advance }
    match r.state, r.bus with
    | .reserved, some b => c.makeExit b
    | _, _ => c

def execFrameBoundary (h : Head) (s : State) : Answer := .next (settled (fun c => c.boundary h) s)

/-- The moment of the trigger of the frame now running (R143). -/
def TimeBase.triggerMoment (t : TimeBase) : Moment := t.next - t.period + t.phase

/-- A trigger finds a strobe outstanding: it is missing, and the third in succession fails the head (R145). -/
def Ctx.missed (c : Ctx) (h : Head) (st : StepInHand) : Ctx :=
  let r := c.s.headRec h
  let n := r.missing + 1
  if n < 3 then (c.upd fun s => s.setHeadRec h { r with missing := n, outstanding := false }).strobe h
  else (c.upd fun s => s.setHeadRec h (outOfService .failed n r)).headLost st

/-- A trigger falls on a running step, in a frame of index 0 (R143, R145; log 29). -/
def Ctx.triggerFalls (c : Ctx) (h : Head) : Ctx :=
  let r := c.s.headRec h
  match r.state, r.step, r.timeBase with
  | .attached, some st, some t =>
    if t.index = 0 then
      let c := c.upd fun s => s.reach t.triggerMoment
      if r.outstanding then c.missed h st else c.strobe h
    else c
  | _, _, _ => c

def execTrigger (h : Head) (s : State) : Answer := .next (settled (fun c => c.triggerFalls h) s)

/-! ## Sample pairs (R138, R144, R146) -/

def StepInHand.ranged (st : StepInHand) : Bool := st.kind == .ir || st.kind == .lr

/-- The pair switches the step from LO to HI (R146). -/
def StepInHand.switchesUp (st : StepInHand) (i : BitVec 16) : Bool :=
  st.ranged && st.range == .lo && !st.switched && clipped i

/-- At the K-th pair the step switches from HI to LO: an average current below 100 counts (R146). -/
def StepInHand.switchesDown (st : StepInHand) : Bool :=
  st.ranged && st.range == .hi && !st.switched && decide (st.acc.sumI.natAbs < 100 * st.snapshot.samples)

/-- The step after a range switch (R146). -/
def StepInHand.switchTo (st : StepInHand) (r : MeasureRange) : StepInHand :=
  { st with range := r, switched := true, discards := 0, acc := Accumulators.empty }

/-- The step in hand of a head is replaced. -/
def Ctx.setStep (c : Ctx) (h : Head) (st : StepInHand) : Ctx :=
  c.upd fun s => s.setHeadRec h { s.headRec h with step := some st }

/-- A range switch, with the configure it sends (R146). -/
def Ctx.switchRange (c : Ctx) (h : Head) (st : StepInHand) (r : MeasureRange) : Ctx :=
  (c.setStep h (st.switchTo r)).configure h (st.switchTo r).configure

/-- A pair that answers a strobe: discarded while D is not reached, a switch, accumulated, or the completion (R144). -/
def Ctx.takePair (c : Ctx) (h : Head) (st : StepInHand) (v i : BitVec 16) : Ctx :=
  if st.discards < st.snapshot.discard then c.setStep h { st with discards := st.discards + 1 }
  else if st.switchesUp i then c.switchRange h st .hi
  else
    let st := { st with acc := st.acc.add v i }
    if st.acc.count < st.snapshot.samples then c.setStep h st
    else if st.switchesDown then c.switchRange h st .lo
    else c.completeStep st.job h (computeResult st)

/-- A sample pair arrives (R138): it answers the strobe outstanding of an ATTACHED head, or is discarded. -/
def Ctx.pairArrives (c : Ctx) (h : Head) (v i : BitVec 16) : Ctx :=
  let r := c.s.headRec h
  match r.state, r.outstanding, r.step with
  | .attached, true, some st =>
    (c.upd fun s => s.setHeadRec h { r with outstanding := false, missing := 0 }).takePair h st v i
  | _, _, _ => c

def execSamplePair (h : Head) (v i : BitVec 16) (s : State) : Answer := .next (settled (fun c => c.pairArrives h v i) s)

end Sys2Proof.Machine
end

