-- ==== Sys2Proof/Machine/Jobs.lean ====
section
/-! DEFINITION. The Job Scheduler's commands (06): TEST, CUT, SPEAK, HOLD, RETEST, RELEASE, JOB-CANCEL, JOB-READ,
HOLD-LIMIT-SET and the hold-limit deadline. -/

namespace Sys2Proof.Machine

/-! ## TEST (R96, R97, R112) -/

def JobSource.isDesk : JobSource → Bool
  | .desk _ => true
  | _ => false

/-- The sweep or AUTO job of a line (R112). -/
def State.routineJob? (s : State) (line : Nat) : Option Job :=
  s.sched.jobs.find? fun j => j.line == line && !j.source.isDesk

/-- Ownership of this job's bus passes at once to a desk job (R112): WAIT-HEAD or MEASURING, on a bus whose transfer is not
declined (R50). -/
def State.passesAtOnce (s : State) (j : Job) : Bool :=
  (j.state == .waitHead || j.state == .measuring)
    && (match j.bus with | some b => (s.busRec b).access == .connected | none => false)

/-- A takeover of this job frees its place in the event (R112). -/
def State.freesPlace (s : State) (j : Job) : Bool := j.state == .queued || s.passesAtOnce j

/-- The QUEUED sweep job an URGENT TEST evicts from a full table: the one with the latest queue order (R97). -/
def State.evictable? (s : State) : Option Job :=
  (s.sched.jobs.filter fun j => j.source == .sweep && j.state == .queued).foldl
    (fun best j => match best with
      | none => some j
      | some b => if b.queueOrder < j.queueOrder then some j else some b) none

/-- A place for a TEST in the table: none where it is refused, otherwise the job to evict, if any (R96 item 6, R97). -/
def State.placeFor (s : State) (priority : Priority) (other : Option Job) : Option (Option Job) :=
  if s.sched.jobs.length < Config.jobPlaces then some none
  else if (match other with | some j => s.freesPlace j | none => false) then some none
  else if priority = .urgent then s.evictable?.map some
  else none

/-- The refusals of R96 items 1 to 5. -/
def State.testRefusal (s : State) (q : TestRequest) : Option Reason :=
  if (s.dirEntry q.line).cls = 0 then some .unequipped
  else if (s.route (groupOf q.line)).enabled = false then some .groupDisabled
  else if badRecipe q.access q.recipe then some .badRecipe
  else if s.sched.jobs.any (fun j => j.line == q.line && j.source.isDesk && j.state != .releasing) then some .lineInUse
  else if 4 ≤ s.countOf (.desk q.position) then some .positionLimit
  else none

/-- What the scheduler enters for a TEST, with the takeover mark of R112. -/
def TestRequest.job (q : TestRequest) (mark : Option Nat) : JobRequest :=
  { source := .desk q.position, line := q.line, recipe := q.recipe, access := q.access, priority := q.priority
    keep := q.keep, watch := q.watch, takeover := mark }

/-- The desk job enters, by the state of the line's sweep or AUTO job (R112): behind a QUEUED or RELEASING one, in the place
of one that passes its line at once, and otherwise with a takeover mark. A job taken from QUEUED leaves before the desk job takes its
id. Where ownership passes at once the desk job takes its id first, so that the id of the job it takes over counts as in use; the spec
does not order the two (DESIGN CHOICE, log 50). -/
def Ctx.enterTest (c : Ctx) (q : TestRequest) (other : Option Job) : Ctx :=
  match other with
  | none => c.enqueue (q.job none)
  | some o =>
    if o.state = .queued then (c.removeJob o.id .taken).enqueue (q.job none)
    else if o.state = .releasing then c.enqueue (q.job none)
    else if c.s.passesAtOnce o then (c.enqueue (q.job none)).passOwnership o.id c.s.nextId
    else c.enqueue (q.job (some o.id))

/-- The id the desk job of a TEST receives: a job removed TAKEN from QUEUED has left before it, and one whose ownership passes at once
has not (R92, R112; DESIGN CHOICE, log 50). -/
def Ctx.testId (c : Ctx) (other : Option Job) : Nat :=
  match other with
  | some o => if o.state = .queued then (c.removeJob o.id .taken).s.nextId else c.s.nextId
  | none => c.s.nextId

/-- The ACK of TEST (R97). The new job can leave the table in the TEST's own event (a MONITOR-ONLY one with the watch mode LOOP-ABSENT
and the action YIELD reaches MONITOR and yields). R97 names no state for it; the ACK then gives REMOVED, as R108's does (DESIGN
CHOICE, log 52). -/
def testAck (id takenOver evicted : Nat) (w : WatchSettings) (s : State) : AckBody :=
  .test id ((s.job? id).map (·.state)) (((s.job? id).bind (·.takeover)).getD 0) takenOver evicted w

/-- A TEST that is taken (R97): an eviction, the entry, and all that follows. -/
def Ctx.takeTest (c : Ctx) (q : TestRequest) (other evict : Option Job) : Served :=
  let c := match evict with
    | some k => (c.handOverJob k .preempted).removeJob k.id .preempted
    | none => c
  let id := c.testId other
  let taken := match other with | some o => if c.s.freesPlace o then o.id else 0 | none => 0
  .done ((c.enterTest q other).settle settleFuel)
    (testAck id taken ((evict.map (·.id)).getD 0) q.watch)

/-- TEST (R96, R97). -/
def ownerTest (body : List Byte) (c : Ctx) : Served :=
  match readTest body with
  | .error r => .rejected r
  | .ok q =>
    match c.s.testRefusal q with
    | some r => .rejected r
    | none =>
      let other := c.s.routineJob? q.line
      match c.s.placeFor q.priority other with
      | none => .rejected .tableFull
      | some evict => c.takeTest q other evict

/-! ## Requests on a job (R105 to R109) -/

/-- The job's state after the request's effects, or REMOVED (R105, R107, R108). A sweep job issued in the same event may receive the
id that the job has freed: it is another job, as its queue order shows, and the ACK says REMOVED all the same (DEDUCED, log 51). -/
def jobAck (j : Job) (s : State) : AckBody :=
  .job j.id (((s.job? j.id).filter fun k => k.queueOrder == j.queueOrder).map (·.state))

/-- The hold limit of a HELD or MONITORING job restarts (R110). -/
def State.restartHold (s : State) (id : Nat) : State :=
  s.updJob id fun j => if j.state = .held ∨ j.state = .monitoring then { j with holdLimit := s.holdDeadline j } else j

/-- A cut from monitor of a MONITORING job (R105, R46). -/
def Ctx.cutJob (c : Ctx) (id : Nat) (b : Bus) (forced : Bool) : Ctx :=
  let loop := (c.s.watchRec b).loop
  let c := c.upd fun s => (s.updJob id fun j =>
    { j with kept := if forced then .forced else .guarded, holdLimit := none, state := .accessing }).cutFromMonitor forced b
  if forced then c.jobChanged id (forcedNote loop) else (c.jobChanged id .none).guardBegun b

/-- CUT (R105). -/
def ownerCut (body : List Byte) (c : Ctx) : Served :=
  match c.s.namedJob (byteAt body 0) with
  | .error r => .rejected r
  | .ok j =>
    match yesNo (byteAt body 1) with
    | none => .rejected .badValue
    | some forced =>
      match j.state, j.bus with
      | .monitoring, some b =>
        if (c.s.busRec b).access = .monitor then
          .done ((c.cutJob j.id b forced).settle settleFuel) (jobAck j)
        else .rejected .wrongState
      | _, _ => .rejected .wrongState

/-- The ACK of SPEAK and HOLD: the speech now attached (R106). -/
def speechAck (id : Nat) (b : Bus) (s : State) : AckBody := .speech id (s.busRec b).speech

/-- The speech a SPEAK would attach: TALK on a HELD job, LISTEN on a MONITORING one (R106). -/
def speechFor (p : Nat) : JobState → Option Speech
  | .held => some ⟨p, .talk⟩
  | .monitoring => some ⟨p, .listen⟩
  | _ => none

/-- SPEAK (R106). -/
def ownerSpeak (body : List Byte) (c : Ctx) : Served :=
  match c.s.namedJob (byteAt body 0) with
  | .error r => .rejected r
  | .ok j =>
    match j.source, j.bus with
    | .desk p, some b =>
      match speechFor p j.state with
      | none => .rejected .wrongState
      | some sp =>
        let r := c.s.busRec b
        if r.speech = some sp then .done (c.upd fun s => s.restartHold j.id) (speechAck j.id b)
        else if c.s.attachSpeechOk b sp = false then .rejected .wrongState
        else if c.s.speechElsewhere b p then .rejected .speechBusy
        else .done (c.upd fun s => (s.attachSpeech b sp).restartHold j.id) (speechAck j.id b)
    | _, _ => .rejected .wrongState

/-- HOLD (R106). -/
def ownerHold (body : List Byte) (c : Ctx) : Served :=
  match c.s.namedJob (byteAt body 0) with
  | .error r => .rejected r
  | .ok j =>
    match j.bus with
    | none => .rejected .wrongState
    | some b =>
      if (j.state = .held ∨ j.state = .monitoring) ∧ (c.s.busRec b).speech.isSome then
        .done (c.upd fun s => (s.detachSpeech b).restartHold j.id) (speechAck j.id b)
      else .rejected .wrongState

/-- The access mode that the job of a RETEST has from then on: its kept form where it was MONITOR-ONLY (R107). R107 says it of a
MONITOR-ONLY job "that has been cut". A HELD one that no CUT reached came to HELD by a takeover (R112), on a line that another
job had cut; the spec does not say whether that job counts as cut. The model takes its kept form, GUARDED, all the same
(DESIGN CHOICE, log 47). -/
def retestAccess (j : Job) : AccessMode := if j.access = .monitorOnly then j.kept else j.access

/-- The effects of a RETEST that is taken (R107). -/
def Ctx.retestJob (c : Ctx) (j : Job) (recipe : List RecipeStep) : Ctx :=
  let c := c.upd fun s =>
    let s := match j.bus with | some b => s.detachSpeech b | none => s
    s.updJob j.id fun j =>
      { j with recipe := recipe, results := [], step := 0, verdict := none, holdLimit := none, access := retestAccess j }
  c.enterWaitHead j.id .none

/-- RETEST (R107). -/
def ownerRetest (body : List Byte) (c : Ctx) : Served :=
  match c.s.namedJob (byteAt body 0) with
  | .error r => .rejected r
  | .ok j =>
    match readRecipe 1 body with
    | none => .rejected .badValue
    | some ss =>
      if j.state ≠ .held then .rejected .wrongState
      else if badRecipe .guarded ss then .rejected .badRecipe
      else .done ((c.retestJob j ss).settle settleFuel) (jobAck j)

/-- The job is cancelled by its state (R108). -/
def Ctx.cancelJob (c : Ctx) (j : Job) : Ctx :=
  match j.state with
  | .queued => c.removeJob j.id .cancelled
  | .releasing => c
  | _ => c.askRelease j.id .cancelled

/-- RELEASE and JOB-CANCEL (R108). -/
def ownerCancel (body : List Byte) (c : Ctx) : Served :=
  match c.s.namedJob (byteAt body 0) with
  | .error r => .rejected r
  | .ok j => .done ((c.cancelJob j).settle settleFuel) (jobAck j)

/-- The record and its bus's access state and loop-sense (R109). -/
def jobReadAck (j : Job) (s : State) : AckBody :=
  let j := (s.job? j.id).getD j
  .jobRead j (j.bus.map fun b => (s.busRec b).access) (j.bus.bind s.loopSense)

/-- JOB-READ (R109). -/
def ownerJobRead (body : List Byte) (c : Ctx) : Served :=
  match c.s.namedJob (byteAt body 0) with
  | .error r => .rejected r
  | .ok j => .done (c.upd fun s => s.restartHold j.id) (jobReadAck j)

/-- HOLD-LIMIT-SET (R110). -/
def ownerHoldLimitSet (body : List Byte) (c : Ctx) : Served :=
  let p := byteAt body 0
  let m := clamp 1 60 (byteAt body 1)
  if p = 0 ∨ 4 < p then .rejected .badValue
  else .done (c.upd fun s => { s with sched := { s.sched with holdLimits := Table.set 10 s.sched.holdLimits p m } })
    fun _ => .holdLimit p m

/-! ## The commands -/

def execTest (tag : Byte) (body : List Byte) (s : State) : Answer :=
  .next (requestFrame 0x28#8 (lengthRecipe 10) ownerTest tag body s)

def execCut (tag : Byte) (body : List Byte) (s : State) : Answer :=
  .next (requestFrame 0x29#8 (lengthIs 2) ownerCut tag body s)

def execSpeak (tag : Byte) (body : List Byte) (s : State) : Answer :=
  .next (requestFrame 0x2A#8 (lengthIs 1) ownerSpeak tag body s)

def execHold (tag : Byte) (body : List Byte) (s : State) : Answer :=
  .next (requestFrame 0x2B#8 (lengthIs 1) ownerHold tag body s)

def execRetest (tag : Byte) (body : List Byte) (s : State) : Answer :=
  .next (requestFrame 0x2C#8 (lengthRecipe 1) ownerRetest tag body s)

def execRelease (tag : Byte) (body : List Byte) (s : State) : Answer :=
  .next (requestFrame 0x2D#8 (lengthIs 1) ownerCancel tag body s)

def execJobCancel (tag : Byte) (body : List Byte) (s : State) : Answer :=
  .next (requestFrame 0x2E#8 (lengthIs 1) ownerCancel tag body s)

def execJobRead (tag : Byte) (body : List Byte) (s : State) : Answer :=
  .next (requestFrame 0x2F#8 (lengthIs 1) ownerJobRead tag body s)

def execHoldLimitSet (tag : Byte) (body : List Byte) (s : State) : Answer :=
  .next (requestFrame 0x30#8 (lengthIs 2) ownerHoldLimitSet tag body s)

/-- The hold-limit deadline of a job passes (R110). -/
def Ctx.holdLimitEnds (c : Ctx) (id : Nat) : Ctx :=
  match c.s.job? id with
  | none => c
  | some j =>
    match j.holdLimit with
    | none => c
    | some m => (c.upd fun s => s.reach m).askRelease id .timeout

def execHoldLimitExpiry (job : Nat) (s : State) : Answer := .next (settled (fun c => c.holdLimitEnds job) s)

end Sys2Proof.Machine
end

