-- ==== Sys2Proof/Machine/TicketCmds.lean ====
section
/-! DEFINITION. LINE-READ (R162) and the Ticket Unit's requests (11): TICKET-REPORT, TICKET-DISPATCH, TICKET-VERIFY,
TICKET-CLOSE, TICKET-READ, TICKET-LIST, TICKET-ERASE and ROLLUP-SET. -/

namespace Sys2Proof.Machine

/-- LINE-READ (R162). -/
def ownerLineRead (body : List Byte) (c : Ctx) : Served :=
  let l := wordAt body 0
  if 4095 < l then .rejected .lineRange else .done c fun s => .line l (s.lineStatus l)

/-- Verify-due of the ticket with this number, as it stands. -/
def State.dueOf (s : State) (n : Nat) : Bool := match s.ticket? n with | some t => t.verifyDue | none => false

/-- TICKET-REPORT (R177): the ticket, then the AUTO job or verify-due. The ACK carries the AUTO job's id also where the queue walk
of the same event has removed the job (log 46; DESIGN CHOICE). -/
def ownerTicketReport (body : List Byte) (c : Ctx) : Served :=
  let l := wordAt body 0
  let code := byteAt body 2
  if 4095 < l then .rejected .lineRange
  else if 15 < code then .rejected .badValue
  else
    let r := c.complain l code
    if r.1.s.takesRoutine .auto l then
      let id := r.1.s.nextId
      .done ((r.1.enqueue (JobRequest.routine .auto l false)).settle settleFuel) fun s =>
        .complaint l r.2.1 r.2.2 id (s.dueOf r.2.2)
    else
      .done ((r.1.upd fun s => s.setVerifyDue l true).settle settleFuel) fun s =>
        .complaint l r.2.1 r.2.2 0 (s.dueOf r.2.2)

/-- The ACK of TICKET-DISPATCH and TICKET-VERIFY (R180). -/
def ticketStateAck (t : Ticket) (s : State) : AckBody :=
  let t := (s.ticket? t.number).getD t
  .ticketState t.number t.state t.verifyDue

/-- TICKET-DISPATCH (R180). -/
def ownerTicketDispatch (body : List Byte) (c : Ctx) : Served :=
  match c.s.namedTicket (wordAt body 0) with
  | .error r => .rejected r
  | .ok t =>
    if t.state = .opened then
      .done (c.upd fun s => s.updTicket t.number (Ticket.setState s.link.time .dispatched)) (ticketStateAck t)
    else .rejected .ticketState

/-- TICKET-VERIFY (R180). -/
def ownerTicketVerify (body : List Byte) (c : Ctx) : Served :=
  match c.s.namedTicket (wordAt body 0) with
  | .error r => .rejected r
  | .ok t =>
    if t.kind = .line ∧ t.state ≠ .closed then
      .done (c.upd fun s => s.updTicket t.number fun t => { t with verifyDue := true }) (ticketStateAck t)
    else .rejected .ticketState

/-- TICKET-CLOSE (R181). -/
def ownerTicketClose (body : List Byte) (c : Ctx) : Served :=
  match c.s.namedTicket (wordAt body 0) with
  | .error r => .rejected r
  | .ok t =>
    if t.state = .rolled ∨ t.state = .closed then .rejected .ticketState
    else
      let returned := if t.kind = .cable then some (c.s.childrenOf t.number).length else none
      .done (c.upd fun s => s.closeTicket t) fun _ => .ticketClosed t.number returned

/-- TICKET-READ (R22, R182). -/
def ownerTicketRead (body : List Byte) (c : Ctx) : Served :=
  match c.s.namedTicket (wordAt body 0) with
  | .error r => .rejected r
  | .ok t => .done c fun _ => .ticket t

/-- A ticket matches a state filter (R182). -/
def matchesFilter (f : Nat) (t : Ticket) : Bool :=
  match f with
  | 0 => true
  | 1 => t.state == .opened
  | 2 => t.state == .rolled
  | 3 => t.state == .dispatched
  | 4 => t.state == .cleared
  | 5 => t.state == .closed
  | _ => t.verifyDue

/-- TICKET-LIST (R182): the table stands in ascending order of number. -/
def ownerTicketList (body : List Byte) (c : Ctx) : Served :=
  let f := byteAt body 0
  let p := min 3 (byteAt body 1)
  if 6 < f then .rejected .badValue
  else .done c fun s =>
    let ns := (s.tickets.table.filter (matchesFilter f)).map (·.number)
    .ticketList f p ns.length ((ns.drop (32 * p)).take 32)

/-- Every line status record names no ticket (R183, R171). -/
def State.forgetTickets (s : State) : State := s.lines.foldl (fun s p => s.setOpenTicket p.1 none) s

/-- TICKET-ERASE (R183). -/
def ownerTicketErase (_ : List Byte) (c : Ctx) : Served :=
  let n := c.s.tickets.table.length
  .done (c.upd fun s =>
    let s := s.forgetTickets
    { s with tickets := { s.tickets with table := [], next := 1 } }) fun _ => .erased n

/-- ROLLUP-SET (R184). -/
def ownerRollupSet (body : List Byte) (c : Ctx) : Served :=
  .done (c.upd fun s => { s with tickets := { s.tickets with
      rollCount := orZero s.tickets.rollCount 2 32 (byteAt body 0)
      rollWindow := orZero s.tickets.rollWindow 1 255 (byteAt body 1)
      stormWindow := orZero s.tickets.stormWindow 1 255 (byteAt body 2) } })
    fun s => .rollup s.tickets.rollCount s.tickets.rollWindow s.tickets.stormWindow

def execLineRead (tag : Byte) (body : List Byte) (s : State) : Answer :=
  .next (requestFrame 0x40#8 (lengthIs 2) ownerLineRead tag body s)

def execTicketReport (tag : Byte) (body : List Byte) (s : State) : Answer :=
  .next (requestFrame 0x44#8 (lengthIs 3) ownerTicketReport tag body s)

def execTicketDispatch (tag : Byte) (body : List Byte) (s : State) : Answer :=
  .next (requestFrame 0x45#8 (lengthIs 2) ownerTicketDispatch tag body s)

def execTicketClose (tag : Byte) (body : List Byte) (s : State) : Answer :=
  .next (requestFrame 0x46#8 (lengthIs 2) ownerTicketClose tag body s)

def execTicketVerify (tag : Byte) (body : List Byte) (s : State) : Answer :=
  .next (requestFrame 0x47#8 (lengthIs 2) ownerTicketVerify tag body s)

def execTicketRead (tag : Byte) (body : List Byte) (s : State) : Answer :=
  .next (requestFrame 0x48#8 (lengthIs 2) ownerTicketRead tag body s)

def execTicketList (tag : Byte) (body : List Byte) (s : State) : Answer :=
  .next (requestFrame 0x49#8 (lengthIs 2) ownerTicketList tag body s)

def execTicketErase (tag : Byte) (body : List Byte) (s : State) : Answer :=
  .next (requestFrame 0x4A#8 (lengthIs 0) ownerTicketErase tag body s)

def execRollupSet (tag : Byte) (body : List Byte) (s : State) : Answer :=
  .next (requestFrame 0x4B#8 (lengthIs 3) ownerRollupSet tag body s)

end Sys2Proof.Machine
end

