-- ==== Sys2Proof/Machine/Resets.lean ====
section
/-! DEFINITION. The three resets (R17 to R19, R59), the starting phase (R18, R75, R171, R186), the rise and fall of
SUPPLY-GOOD (R19, R60, R91, R117, R150) and the RESET pin. -/

namespace Sys2Proof.Machine

/-! ## The beginning of a reset (R59) -/

/-- The exchange cut of a bus that the reset drop leaves open, with the moment it closes (R59). -/
def State.dropOf (s : State) (b : Bus) : Option DropEntry :=
  let r := s.busRec b
  match r.line, r.access with
  | some l, .releasing => r.interval.map fun i => ⟨l, i.runsOut⟩
  | some l, .connected => some ⟨l, (s.restoreTaken l).runsOut⟩
  | some l, .parked => some ⟨l, (s.restoreTaken l).runsOut⟩
  | _, _ => none

/-- The relays and selectors in the first event of a reset: only the cuts of the drop stay open, and only the selectors of
their groups stay joined (R59). -/
def State.dropAccess (s : State) (drop : List DropEntry) : Access :=
  { Access.initial with
    relays := drop.foldl (fun t d => Table.set LineRelays.initial t d.line ⟨true, false, false⟩) []
    groupSel := drop.foldl (fun t d => Table.set none t (groupOf d.line) (s.groupSelOf (groupOf d.line))) [] }

/-- Every block at its reset values, but for the battery-backed store and supply-fall mark, the pins and the clock
(R11, R40, R61, R76, R92, R118, R139, R161, R172, R184). -/
def State.cleared (s : State) (cause : ResetCause) (drop : List DropEntry) : State :=
  { pending := s.pending, now := s.now, port := s.port, pins := s.pins
    resets := ⟨true, cause, false, drop, false⟩
    link := { Link.initial with supplyFall := s.link.supplyFall }
    store := Store.initial, access := s.dropAccess drop, watches := Watches.initial, hazards := Hazards.initial
    sched := Sched.initial, sweep := Sweep.initial, engine := Engine.initial, lines := []
    tickets := { Tickets.initial with table := s.tickets.table, next := s.tickets.next, valid := s.tickets.valid } }

/-! ## The end of a reset and the starting phase (R18, R75, R133, R186) -/

/-- A head record as the presence input gives it at the end of a reset (R133). A reset leaves no configure standing at a head
(log 41; DESIGN CHOICE): R137 does not say what stands at a head across a reset of the part. -/
def State.headAtReset (s : State) (h : Head) : HeadRecord :=
  if Table.get true s.pins.heads h.val then HeadRecord.initial else { HeadRecord.initial with state := .absent }

/-- The validity marker is checked (R186): an invalid one loses the store, which is written only under a good supply. -/
def State.checkMarker (s : State) : State :=
  if s.tickets.valid then s
  else
    let s := { s with link := { s.link with supplyFall := true }, resets := { s.resets with storeLost := true } }
    if s.pins.supplyGood then { s with tickets := { s.tickets with table := [], next := 1, valid := true } } else s

/-- The hazard inputs found active at the end of a reset are taken as onsets (R75): A of B0 to B5 and then the storm, an order that
the spec leaves open (log 42; DESIGN CHOICE). -/
def Ctx.readHazards (c : Ctx) : Ctx :=
  (allBuses.map HazardInput.a ++ [HazardInput.storm]).foldl
    (fun c i => if Table.get false c.s.pins.hazards (inputKey i) then c.inputOnset i else c) c

/-- The reset ends: the rate and the presence inputs are read, and the starting phase begins with an empty queue but for
START's place (R1, R11, R18, R133; log 8). -/
def Ctx.endReset (c : Ctx) : Ctx :=
  let c := c.upd fun s =>
    { s with resets := { s.resets with active := false, starting := true }
             link := { s.link with rate := s.pins.rate, nextSecond := s.now + Config.second, queue := [], lost := 0 } }
  let c := c.upd fun s => allHeads.foldl (fun s h => s.setHeadRec h (s.headAtReset h)) s
  (c.upd State.checkMarker).readHazards

/-- The reset under way ends once its drop is complete and RESET is released (R59). -/
def Ctx.mayEndReset (c : Ctx) : Ctx :=
  if c.s.resets.active ∧ c.s.resets.drop = [] ∧ c.s.pins.reset = false then c.endReset else c

/-- A reset begins (R59); one that meets a reset under way keeps its drop (log 9). -/
def Ctx.beginReset (c : Ctx) (cause : ResetCause) : Ctx :=
  let drop := if c.s.resets.active then c.s.resets.drop else allBuses.filterMap c.s.dropOf
  (c.upd fun s => s.cleared cause drop).mayEndReset

/-- Every line's open ticket field is rebuilt from the table, or from nothing where the store was lost (R171, R186). -/
def State.rebuild (s : State) : State :=
  let s := s.forgetTickets
  if s.resets.storeLost then s
  else s.tickets.table.foldl (fun s t =>
    match t.kind, t.line with
    | .line, some l => if t.state = .closed then s else s.setOpenTicket l (some t.number)
    | _, _ => s) s

/-- START (R18): the cause, the ticket store, the ticket count, time-set, which R18 gives as no, and the rate. -/
def State.startReport (s : State) : Report :=
  .start s.resets.cause s.resets.storeLost (if s.resets.storeLost then 0 else s.tickets.table.length) false s.link.rate

/-- The starting phase ends: START takes the place held for it (R18). -/
def Ctx.startingEnds (c : Ctx) : Ctx :=
  if c.s.resets.starting then
    (c.upd State.rebuild).upd fun s =>
      { s with resets := { s.resets with starting := false }
               link := { s.link with queue := s.startReport :: s.link.queue } }
  else c

def execStartingPhaseEnd (s : State) : Answer := .next (event Ctx.startingEnds s)

/-! ## The RESET pin and the drop (R59) -/

/-- RESET is asserted (R59). -/
def Ctx.resetAsserted (c : Ctx) : Ctx :=
  if c.s.pins.reset then c
  else (c.upd fun s => { s with pins := { s.pins with reset := true } }).beginReset .pin

def execResetPinAssert (s : State) : Answer := .next (event Ctx.resetAsserted s)

/-- RESET is released (R59). -/
def Ctx.resetReleased (c : Ctx) : Ctx :=
  (c.upd fun s => { s with pins := { s.pins with reset := false } }).mayEndReset

def execResetPinRelease (s : State) : Answer := .next (event Ctx.resetReleased s)

/-- A restore interval of the drop runs out: the line's cut closes, and its group's selector releases with the last cut of
the group (R59). -/
def Ctx.dropRunsOut (c : Ctx) (line : Nat) : Ctx :=
  match c.s.resets.drop.find? (fun d => d.line == line) with
  | none => c
  | some d =>
    let rest := c.s.resets.drop.filter fun d => d.line != line
    let c := c.upd fun s =>
      let s := (s.reach d.runsOut).setRelays line LineRelays.initial
      let s := if rest.any (fun d => groupOf d.line == groupOf line) then s else s.setGroupSel (groupOf line) none
      { s with resets := { s.resets with drop := rest } }
    c.mayEndReset

def execResetDropIntervalExpiry (line : Nat) (s : State) : Answer := .next (event (fun c => c.dropRunsOut line) s)

/-! ## The supply (R19, R60, R91, R117, R150) -/

/-- The job ids of the table in ascending order. -/
def insertId (n : Nat) : List Nat → List Nat
  | [] => [n]
  | m :: ms => if n < m then n :: m :: ms else m :: insertId n ms

def State.jobIds (s : State) : List Nat := (s.sched.jobs.map (·.id)).foldr insertId []

/-- Every job is removed with SUPPLY, in ascending order of id, a running step entered ABORTED (R117). -/
def Ctx.removeAll (c : Ctx) : Ctx := c.s.jobIds.foldl (fun c id => (c.abortEntered id).removeJob id .supply) c

/-- The heads still ATTACHED or RESERVED become IDLE (R150). -/
def State.freeHeads (s : State) : State := allHeads.foldl State.freeHead s

/-- SUPPLY-GOOD falls (R16, R17, R60, R91, R117, R150). -/
def Ctx.supplyFalls (c : Ctx) : Ctx :=
  if c.s.pins.supplyGood = false then c
  else
    let c := c.upd fun s =>
      { s with pins := { s.pins with supplyGood := false }
               link := { s.link with supplyFall := true, requestReset := false }
               resets := { s.resets with drop := [] } }
    let c := (c.removeAll.upd fun s => s.freeHeads.dropAll).mayEndReset
    c.settle settleFuel

def execSupplyGoodFall (s : State) : Answer := .next (event Ctx.supplyFalls s)

/-- SUPPLY-GOOD rises: a power reset (R19). -/
def Ctx.supplyRises (c : Ctx) : Ctx :=
  if c.s.pins.supplyGood then c
  else (c.upd fun s => { s with pins := { s.pins with supplyGood := true } }).beginReset .power

def execSupplyGoodRise (s : State) : Answer := .next (event Ctx.supplyRises s)

end Sys2Proof.Machine
end

