-- ==== Sys2Proof/Machine/Store.lean ====
section
/-! DEFINITION. The requests of the Configuration Store (02): the directory, the profiles, the routes and the release
intervals. -/

namespace Sys2Proof.Machine

/-! ## The directory (R24, R25) -/

/-- Directory entries of three bytes each, a class above 15 taken as 15; none where an in-service value is outside its list
(R24). -/
def readEntries : List Byte → Option (List DirEntry)
  | cls :: cable :: srv :: rest =>
    match yesNo srv.toNat, readEntries rest with
    | some v, some es => some (⟨min 15 cls.toNat, cable.toNat, v⟩ :: es)
    | _, _ => none
  | _ => some []

/-- Entries are written from a line upward (R24). -/
def State.writeEntries (s : State) (line : Nat) : List DirEntry → State
  | [] => s
  | e :: es => (s.setDirEntry line e).writeEntries (line + 1) es

/-- The entries of `n` lines from a line upward (R25). -/
def State.readDirectory (s : State) (line : Nat) : Nat → List DirEntry
  | 0 => []
  | n + 1 => s.dirEntry line :: s.readDirectory (line + 1) n

/-- DIR-LOAD (R24). -/
def ownerDirLoad (body : List Byte) (c : Ctx) : Served :=
  let first := wordAt body 0
  if 4095 < first then .rejected .lineRange
  else match readEntries (body.drop 2) with
    | none => .rejected .badValue
    | some es =>
      if 4096 < first + es.length then .rejected .lineRange
      else .done (c.upd fun s => s.writeEntries first es) fun _ => .directory first es

/-- DIR-READ (R25). -/
def ownerDirRead (body : List Byte) (c : Ctx) : Served :=
  let first := wordAt body 0
  let n := clamp 1 16 (byteAt body 2)
  if 4095 < first then .rejected .lineRange
  else if 4096 < first + n then .rejected .lineRange
  else .done c fun s => .directory first (s.readDirectory first n)

/-! ## The profiles (R27 to R29) -/

/-- The candidate profile of a PROFILE-SET, each field clamped to its range (R28 item 2). -/
def candidateProfile (body : List Byte) : Profile :=
  { fvDanger := clamp 1000 150000 (longAt body 1)
    fvLimit := clamp 500 150000 (longAt body 5)
    acLimit := clamp 500 150000 (longAt body 9)
    shOhm := clamp 100 100000 (longAt body 13)
    irFail := clamp 1000 10000000 (longAt body 17)
    irMarg := clamp 10000 50000000 (longAt body 21)
    capMin := clamp 0 65535 (wordAt body 25)
    capPerKm := clamp 20 120 (byteAt body 27)
    hyst := clamp 0 50 (byteAt body 28)
    marginalLimit := clamp 1 7 (byteAt body 29) }

/-- The order check (R28 item 3). -/
def Profile.ordered (p : Profile) : Bool :=
  decide (p.shOhm < p.irFail) && decide (p.irFail < p.irMarg) && decide (p.fvLimit ≤ p.fvDanger)

/-- PROFILE-SET (R28). -/
def ownerProfileSet (body : List Byte) (c : Ctx) : Served :=
  let cls := byteAt body 0
  let p := candidateProfile body
  if cls = 0 ∨ 15 < cls then .rejected .badValue
  else if p.ordered then .done (c.upd fun s => s.setProfile cls p) fun _ => .profile cls p
  else .rejected .profileOrder

/-- PROFILE-READ (R29). -/
def ownerProfileRead (body : List Byte) (c : Ctx) : Served :=
  let cls := byteAt body 0
  if cls = 0 ∨ 15 < cls then .rejected .badValue else .done c fun s => .profile cls (s.profile cls)

/-! ## The routes (R31 to R33) -/

/-- The route a ROUTE-SET leaves; none where a code is outside its list (R31). -/
def routeTaken (body : List Byte) (r : Route) : Option Route :=
  match orSame 2 r.enabled yesNo (byteAt body 1), formOf (byteAt body 2), busSetOf (byteAt body 3),
      orSame 2 r.connect intervalNameOf (byteAt body 4), orSame 2 r.restore intervalNameOf (byteAt body 5) with
  | some e, some f, some m, some k, some t => some ⟨e, f.apply r.allowed m, k, t⟩
  | _, _, _, _, _ => none

/-- The QUEUED jobs of a disabled group are removed in queue order (R32). -/
def Ctx.disableGroup (c : Ctx) (g : Nat) : Ctx :=
  (c.s.queue.filter fun j => groupOf j.line == g).foldl (fun c j => c.removeJob j.id .groupDisabled) c

/-- ROUTE-SET (R31, R32). -/
def ownerRouteSet (body : List Byte) (c : Ctx) : Served :=
  let g := byteAt body 0
  if 63 < g then .rejected .badValue
  else
    let old := c.s.route g
    match routeTaken body old with
    | none => .rejected .badValue
    | some r =>
      if r = old then .done c fun _ => .routeTaken g r
      else
        let c := c.upd fun s => s.setRoute g r
        let c := if old.enabled ∧ r.enabled = false then c.disableGroup g else c
        .done (c.walk.settle settleFuel) fun _ => .routeTaken g r

/-- ROUTE-READ (R33). -/
def ownerRouteRead (body : List Byte) (c : Ctx) : Served :=
  let g := byteAt body 0
  if 63 < g then .rejected .badValue
  else .done c fun s => .route g (s.route g) s.store.intervalA s.store.intervalB (s.holdingBus g)

/-! ## The release intervals (R34) -/

/-- INTERVAL-SET (R34). -/
def ownerIntervalSet (body : List Byte) (c : Ctx) : Served :=
  match intervalNameOf (byteAt body 0), unitOf (byteAt body 2) with
  | some w, some u =>
    let i : ReleaseInterval := ⟨clamp 1 63 (byteAt body 1), u⟩
    .done (c.upd fun s => match w with
      | .a => { s with store := { s.store with intervalA := i } }
      | .b => { s with store := { s.store with intervalB := i } }) fun _ => .interval w i
  | _, _ => .rejected .badValue

/-! ## The commands -/

def execDirLoad (tag : Byte) (body : List Byte) (s : State) : Answer :=
  .next (requestFrame 0x18#8 lengthDirLoad ownerDirLoad tag body s)

def execDirRead (tag : Byte) (body : List Byte) (s : State) : Answer :=
  .next (requestFrame 0x19#8 (lengthIs 3) ownerDirRead tag body s)

def execProfileSet (tag : Byte) (body : List Byte) (s : State) : Answer :=
  .next (requestFrame 0x1A#8 (lengthIs 30) ownerProfileSet tag body s)

def execProfileRead (tag : Byte) (body : List Byte) (s : State) : Answer :=
  .next (requestFrame 0x1B#8 (lengthIs 1) ownerProfileRead tag body s)

def execRouteSet (tag : Byte) (body : List Byte) (s : State) : Answer :=
  .next (requestFrame 0x1C#8 (lengthIs 6) ownerRouteSet tag body s)

def execRouteRead (tag : Byte) (body : List Byte) (s : State) : Answer :=
  .next (requestFrame 0x1D#8 (lengthIs 1) ownerRouteRead tag body s)

def execIntervalSet (tag : Byte) (body : List Byte) (s : State) : Answer :=
  .next (requestFrame 0x1E#8 (lengthIs 3) ownerIntervalSet tag body s)

end Sys2Proof.Machine
end

