-- ==== Sys2Proof/Machine/SweepCmds.lean ====
section
/-! DEFINITION. The Sweep Unit's commands (07): SWEEP-START, SWEEP-STOP, SWEEP-DEFAULT, SWEEP-SET, SWEEP-READ and the pace
timer. -/

namespace Sys2Proof.Machine

/-- The pace timer with its time left in units of 100 ms, rounded up (R122). -/
def paceView (now : Moment) : PaceTimer → PaceView
  | .none => .none
  | .expired => .expired
  | .running m => .running ((m - now + (Config.paceUnit - 1)) / Config.paceUnit)

/-- The ACK of the three sweep requests (R120). -/
def sweepStateAck (s : State) : AckBody := .sweepState s.sweep.state s.sweep.cursor s.sweep.pass (paceView s.now s.sweep.timer)

/-- SWEEP-START (R120, R121). -/
def ownerSweepStart (_ : List Byte) (c : Ctx) : Served :=
  match c.s.sweep.state with
  | .stopped =>
    if c.s.hazards.storm.inEffect then
      .done (c.upd fun s => s.setSweep { s.sweep with state := .held, timer := .expired }) sweepStateAck
    else
      .done ((c.upd fun s => s.setSweep { s.sweep with state := .running, timer := .expired }).issue.settle settleFuel)
        sweepStateAck
  | _ => .done c sweepStateAck

/-- SWEEP-STOP (R120). -/
def ownerSweepStop (_ : List Byte) (c : Ctx) : Served :=
  .done (c.upd fun s => s.setSweep { s.sweep with state := .stopped, timer := .none }) sweepStateAck

/-- SWEEP-DEFAULT (R120). -/
def ownerSweepDefault (_ : List Byte) (c : Ctx) : Served :=
  .done (c.upd fun s => s.setSweep { Sweep.initial with
    pass := s.sweep.pass, notes := s.sweep.notes.map fun n => { n with attempts := 0 } }) sweepStateAck

/-- SWEEP-SET (R119). -/
def ownerSweepSet (body : List Byte) (c : Ctx) : Served :=
  match orSame 255 c.s.sweep.passMode passModeOf (byteAt body 2), formOf (byteAt body 3) with
  | some m, some f =>
    let mask := BitVec.ofNat 64 (leNat (body.drop 4))
    .done ((c.upd fun s => s.setSweep { s.sweep with
        pace := orZero s.sweep.pace 1 255 (byteAt body 0)
        concurrency := orZero s.sweep.concurrency 1 2 (byteAt body 1)
        passMode := m, mask := f.apply s.sweep.mask mask }).issue.settle settleFuel)
      fun s => .sweepSettings s.sweep.pace s.sweep.concurrency s.sweep.passMode s.sweep.mask s.sweep.state
  | _, _ => .rejected .badValue

/-- What SWEEP-READ reports (R132): the seconds until a not-before moment are rounded up (log 34), and the sweep jobs stand in
order of issue (log 45; DESIGN CHOICE). -/
def State.sweepView (s : State) : SweepView :=
  let w := s.sweep
  { state := w.state, pace := w.pace, concurrency := w.concurrency, passMode := w.passMode, mask := w.mask
    timer := paceView s.now w.timer, cursor := w.cursor, pass := w.pass, stats := w.stats
    jobs := w.notes.map fun n => (n.job, n.attempts)
    entries := w.revisit.map fun e =>
      ⟨e.line, e.reason, e.attempts, (e.notBefore - s.now + (Config.second - 1)) / Config.second⟩ }

/-- SWEEP-READ (R132). -/
def ownerSweepRead (_ : List Byte) (c : Ctx) : Served := .done c fun s => .sweepRead s.sweepView

def execSweepStart (tag : Byte) (body : List Byte) (s : State) : Answer :=
  .next (requestFrame 0x34#8 (lengthIs 0) ownerSweepStart tag body s)

def execSweepStop (tag : Byte) (body : List Byte) (s : State) : Answer :=
  .next (requestFrame 0x35#8 (lengthIs 0) ownerSweepStop tag body s)

def execSweepDefault (tag : Byte) (body : List Byte) (s : State) : Answer :=
  .next (requestFrame 0x36#8 (lengthIs 0) ownerSweepDefault tag body s)

def execSweepSet (tag : Byte) (body : List Byte) (s : State) : Answer :=
  .next (requestFrame 0x37#8 (lengthIs 12) ownerSweepSet tag body s)

def execSweepRead (tag : Byte) (body : List Byte) (s : State) : Answer :=
  .next (requestFrame 0x38#8 (lengthIs 0) ownerSweepRead tag body s)

/-- The pace timer runs out: EXPIRED, and in RUNNING an issue attempt (R122, R123). -/
def Ctx.paceEnds (c : Ctx) : Ctx :=
  match c.s.sweep.timer with
  | .running m =>
    let c := c.upd fun s => (s.reach m).setSweep { s.sweep with timer := .expired }
    if c.s.sweep.state = .running then c.issue else c
  | _ => c

def execPaceTimerExpiry (s : State) : Answer := .next (settled Ctx.paceEnds s)

end Sys2Proof.Machine
end

