-- ==== Sys2Proof/Machine/System.lean ====
section
/-! DEFINITION. The requests the Desk Link serves itself: ECHO, STATUS, TIME-SET and RESET (section 1.7, R14). -/

namespace Sys2Proof.Machine

/-- ECHO (R15). -/
def ownerEcho (body : List Byte) (c : Ctx) : Served := .done c fun _ => .echo body

def Report.isStart : Report → Bool
  | .start _ _ _ _ _ => true
  | _ => false

/-- What STATUS reports (R16); starting reads yes until START begins transmission. -/
def State.statusView (s : State) : StatusView :=
  { starting := s.resets.starting || s.link.queue.any Report.isStart
    supplyFall := s.link.supplyFall
    time := s.link.time
    timeSet := s.link.timeSet
    sweep := s.sweep.state
    buses := allBuses.map fun b =>
      ⟨(s.busRec b).access, (s.hazardRec b).state, (s.watchRec b).pending, s.loopSense b⟩
    heads := allHeads.map fun h => ⟨(s.headRec h).state, (s.headRec h).bus⟩
    jobs := s.sched.jobs.length
    queue := s.link.queue.length
    lost := s.link.lost }

/-- STATUS: the mark is placed in the reply and then set to no (R16). -/
def ownerStatus (_ : List Byte) (c : Ctx) : Served :=
  .done (c.upd fun s => { s with link := { s.link with supplyFall := false } }) fun _ => .status c.s.statusView

/-- TIME-SET (R14). -/
def ownerTimeSet (body : List Byte) (c : Ctx) : Served :=
  let t := BitVec.ofNat 32 (longAt body 0)
  .done (c.upd fun s => { s with link := { s.link with
    time := t, timeSet := true, nextSecond := s.now + Config.second } }) fun _ => .time t

/-- RESET: the request reset waits for the end of its ACK (R17). -/
def ownerReset (_ : List Byte) (c : Ctx) : Served :=
  .done (c.upd fun s => { s with link := { s.link with requestReset := true } }) fun _ => .empty

def execEcho (tag : Byte) (body : List Byte) (s : State) : Answer :=
  .next (requestFrame 0x10#8 lengthEcho ownerEcho tag body s)

def execStatus (tag : Byte) (body : List Byte) (s : State) : Answer :=
  .next (requestFrame 0x11#8 (lengthIs 0) ownerStatus tag body s)

def execTimeSet (tag : Byte) (body : List Byte) (s : State) : Answer :=
  .next (requestFrame 0x12#8 (lengthIs 4) ownerTimeSet tag body s)

def execReset (tag : Byte) (body : List Byte) (s : State) : Answer :=
  .next (requestFrame 0x13#8 (lengthIs 0) ownerReset tag body s)

end Sys2Proof.Machine
end

