-- ==== Sys2Proof/Machine/Watch.lean ====
section
/-! DEFINITION. Bus Watch (04): WATCH-SET, WATCH-CLEAR, the running out of a guard window and of a debounce timer, and a
change of the raw loop sense. -/

namespace Sys2Proof.Machine

/-! ## The requests (R72, R73) -/

/-- The watch settings a WATCH-SET leaves; none where a code is outside its list (R72). -/
def watchTaken (body : List Byte) (w : WatchSettings) : Option WatchSettings :=
  let n := byteAt body 2
  match orSame 255 w.mode watchModeOf (byteAt body 1), orSame 255 w.base watchBaseOf (byteAt body 3),
      orSame 255 w.action watchActionOf (byteAt body 4) with
  | some m, some b, some a => some ⟨m, if n = 255 then w.n else min 7 n, b, a⟩
  | _, _, _ => none

/-- The guard window length of WATCH-SET (R72). -/
def State.setGuardLength (s : State) (n : Nat) : State :=
  if n = 0 then s else { s with watches := { s.watches with guardLength := min 50 n } }

/-- The settings taken are kept in the owner job's record (R72). -/
def State.keepWatch (s : State) (id : Nat) (w : WatchSettings) : State := s.updJob id fun j => { j with watch := w }

/-- The settings in force for a bus: those of a reserved record's job, or its watch record's (R72). -/
def State.watchInForce (s : State) (b : Bus) : WatchSettings :=
  if (s.busRec b).access = .idle then
    match (s.busRec b).owner.bind s.job? with
    | some j => j.watch
    | none => (s.watchRec b).settings
  else (s.watchRec b).settings

/-- The ACK of WATCH-SET about a bus (R72). -/
def watchAck (b : Bus) (s : State) : AckBody :=
  .watch b.val (s.watchInForce b) (some (s.watchRec b).pending) (some (s.watchRec b).loop) s.watches.guardLength

/-- WATCH-SET (R72). -/
def ownerWatchSet (body : List Byte) (c : Ctx) : Served :=
  let n := byteAt body 0
  let guard := byteAt body 5
  match busOf n with
  | none =>
    if n = 6 then
      .done (c.upd fun s => s.setGuardLength guard) fun s =>
        .watch 6 WatchSettings.initial none none s.watches.guardLength
    else .rejected .badValue
  | some b =>
    match (c.s.busRec b).owner with
    | none => .done (c.upd fun s => s.setGuardLength guard) (watchAck b)
    | some id =>
      match watchTaken body (c.s.watchInForce b) with
      | none => .rejected .badValue
      | some w =>
        let c := c.upd fun s => (s.setGuardLength guard).keepWatch id w
        let c := if (c.s.busRec b).access = .idle then c else (c.upd fun s => s.writeWatch b w).levelCheck b
        .done (c.settle settleFuel) (watchAck b)

/-- WATCH-CLEAR (R73): where several buses rise again they do so in order from B0 to B5 (log 37; DESIGN CHOICE). -/
def ownerWatchClear (body : List Byte) (c : Ctx) : Served :=
  match busSetOf (byteAt body 0) with
  | none => .rejected .badValue
  | some m =>
    let hit := allBuses.filter fun b => inSet m b && (c.s.watchRec b).pending
    let c := c.upd fun s => hit.foldl (fun s b => s.setWatchRec b { s.watchRec b with pending := false }) s
    .done ((hit.foldl (fun c b => c.levelCheck b) c).settle settleFuel) fun s =>
      .watchPending (busMask fun b => (s.watchRec b).pending)

def execWatchSet (tag : Byte) (body : List Byte) (s : State) : Answer :=
  .next (requestFrame 0x20#8 (lengthIs 6) ownerWatchSet tag body s)

def execWatchClear (tag : Byte) (body : List Byte) (s : State) : Answer :=
  .next (requestFrame 0x21#8 (lengthIs 1) ownerWatchClear tag body s)

/-! ## The events -/

/-- The guard window runs out: IDLE-LINE, the access enters CUTTING and its job stays ACCESSING (R43, R65, R101). -/
def Ctx.guardWindowEnds (c : Ctx) (b : Bus) : Ctx :=
  match (c.s.busRec b).access, (c.s.watchRec b).guard with
  | .guard, some m =>
    let c := c.upd fun s => s.reach m
    if (c.s.watchRec b).loop = .present then c.judgeBusy b
    else
      let c := c.upd fun s => s.guardIdleLine b
      match (c.s.busRec b).owner.bind c.s.job? with
      | some j => c.jobChanged j.id .none
      | none => c
  | _, _ => c

def execGuardWindowExpiry (b : Bus) (s : State) : Answer := .next (settled (fun c => c.guardWindowEnds b) s)

/-- The raw sense takes a value on a bus with a sense path: a timer starts, is dropped, or stands (R63). -/
def WatchRecord.follow (raw : Bool) (now : Moment) (w : WatchRecord) : WatchRecord :=
  if LoopState.ofRaw raw = w.loop then { w with timer := none }
  else if w.timer.isSome then w
  else w.compare raw now

/-- The raw loop sense of a bus takes a value (R62, R63). -/
def Ctx.loopChange (c : Ctx) (b : Bus) (present : Bool) : Ctx :=
  c.upd fun s =>
    let s := { s with pins := { s.pins with loops := Table.set false s.pins.loops b.val present } }
    if (sensePath (s.busRec b).access).isSome then s.setWatchRec b ((s.watchRec b).follow present s.now) else s

def execLoopSenseChange (b : Bus) (present : Bool) (s : State) : Answer :=
  .next (event (fun c => c.loopChange b present) s)

/-- A debounced edge acts in the state the access holds: BUSY in GUARD, a rise where the mode calls for one (R63, R65, R67,
R68). -/
def Ctx.edgeActs (c : Ctx) (b : Bus) : Ctx :=
  let w := c.s.watchRec b
  if (c.s.busRec b).access = .guard then (if w.loop = .present then c.judgeBusy b else c)
  else c.mayRise b ((edgeCause w.settings.mode w.loop).or (levelCause w.settings.mode w.loop))

/-- A debounce timer runs out (R63). -/
def Ctx.debounceEnds (c : Ctx) (b : Bus) : Ctx :=
  let w := c.s.watchRec b
  match w.timer with
  | none => c
  | some t => ((c.upd fun s => (s.reach t.runsOut).setWatchRec b { w with loop := t.aim, timer := none })).edgeActs b

def execDebounceTimerExpiry (b : Bus) (s : State) : Answer := .next (settled (fun c => c.debounceEnds b) s)

end Sys2Proof.Machine
end

