-- ==== Sys2Proof/Machine/Link.lean ====
section
/-! DEFINITION. The Desk Link's events: characters (R2 to R6), the inter-byte timeout (R3), the end of a frame sent (R5,
R10, R17) and the second (R14). -/

namespace Sys2Proof.Machine

/-! ## The table of request kinds (R7) -/

/-- How a kind is served: its allowed lengths and its owner. -/
structure Service where
  lengthOk : List Byte → Bool
  owner : List Byte → Ctx → Served

/-- The service of a kind code; none for an unknown kind (R7). -/
def serviceOf (code : Byte) : Option Service :=
  match code.toNat with
  | 0x10 => some ⟨lengthEcho, ownerEcho⟩
  | 0x11 => some ⟨lengthIs 0, ownerStatus⟩
  | 0x12 => some ⟨lengthIs 4, ownerTimeSet⟩
  | 0x13 => some ⟨lengthIs 0, ownerReset⟩
  | 0x18 => some ⟨lengthDirLoad, ownerDirLoad⟩
  | 0x19 => some ⟨lengthIs 3, ownerDirRead⟩
  | 0x1A => some ⟨lengthIs 30, ownerProfileSet⟩
  | 0x1B => some ⟨lengthIs 1, ownerProfileRead⟩
  | 0x1C => some ⟨lengthIs 6, ownerRouteSet⟩
  | 0x1D => some ⟨lengthIs 1, ownerRouteRead⟩
  | 0x1E => some ⟨lengthIs 3, ownerIntervalSet⟩
  | 0x20 => some ⟨lengthIs 6, ownerWatchSet⟩
  | 0x21 => some ⟨lengthIs 1, ownerWatchClear⟩
  | 0x22 => some ⟨lengthIs 6, ownerHazardSet⟩
  | 0x23 => some ⟨lengthIs 1, ownerHazardClear⟩
  | 0x28 => some ⟨lengthRecipe 10, ownerTest⟩
  | 0x29 => some ⟨lengthIs 2, ownerCut⟩
  | 0x2A => some ⟨lengthIs 1, ownerSpeak⟩
  | 0x2B => some ⟨lengthIs 1, ownerHold⟩
  | 0x2C => some ⟨lengthRecipe 1, ownerRetest⟩
  | 0x2D => some ⟨lengthIs 1, ownerCancel⟩
  | 0x2E => some ⟨lengthIs 1, ownerCancel⟩
  | 0x2F => some ⟨lengthIs 1, ownerJobRead⟩
  | 0x30 => some ⟨lengthIs 2, ownerHoldLimitSet⟩
  | 0x34 => some ⟨lengthIs 0, ownerSweepStart⟩
  | 0x35 => some ⟨lengthIs 0, ownerSweepStop⟩
  | 0x36 => some ⟨lengthIs 0, ownerSweepDefault⟩
  | 0x37 => some ⟨lengthIs 12, ownerSweepSet⟩
  | 0x38 => some ⟨lengthIs 0, ownerSweepRead⟩
  | 0x3C => some ⟨lengthIs 1, ownerHeadAccept⟩
  | 0x3D => some ⟨lengthIs 10, ownerStepSet⟩
  | 0x3E => some ⟨lengthIs 1, ownerStepRead⟩
  | 0x40 => some ⟨lengthIs 2, ownerLineRead⟩
  | 0x44 => some ⟨lengthIs 3, ownerTicketReport⟩
  | 0x45 => some ⟨lengthIs 2, ownerTicketDispatch⟩
  | 0x46 => some ⟨lengthIs 2, ownerTicketClose⟩
  | 0x47 => some ⟨lengthIs 2, ownerTicketVerify⟩
  | 0x48 => some ⟨lengthIs 2, ownerTicketRead⟩
  | 0x49 => some ⟨lengthIs 2, ownerTicketList⟩
  | 0x4A => some ⟨lengthIs 0, ownerTicketErase⟩
  | 0x4B => some ⟨lengthIs 3, ownerRollupSet⟩
  | _ => none

/-- A request frame of any kind code that meets an empty slot (R6). -/
def serveKind (code tag : Byte) (body : List Byte) (c : Ctx) : State :=
  match serviceOf code with
  | some v => serve (v.lengthOk body) (v.owner body) code tag c
  | none => Ctx.finish (c.upd fun s => s.reply code tag (.reject .unknownKind))

/-! ## The receiver (R2 to R4) -/

/-- A complete frame is judged: `got` holds kind, tag, body and check (R4). -/
def frameJudged (len : Nat) (got : List Byte) (s : State) : State :=
  let kind := got.getD 0 0#8
  let tag := got.getD 1 0#8
  let body := (got.drop 2).dropLast
  if byteSum (byteOf len :: got) ≠ 0#8 then
    Ctx.finish (((Ctx.of s).upd State.hunt).linkError .check kind tag 0)
  else frameCompleted kind tag (serveKind kind tag body) s

/-- The receiver takes a new state, and the moment of the character is held (R3). -/
def State.receive (s : State) (rx : Receiver) : State := { s with link := { s.link with rx := rx, rxEnd := s.now } }

/-- A frame is abandoned with FRAMING (R2; log 28). -/
def abandonFraming (kind tag : Byte) (s : State) : State :=
  Ctx.finish (((Ctx.of s).upd fun s => s.receive .hunt).linkError .framing kind tag 0)

/-- The receiver only moves: nothing is raised. -/
def quiet (rx : Receiver) (s : State) : State := event (fun c => c.upd fun s => s.receive rx) s

/-- A character is received (R2). While a reset is under way none is (log 7). -/
def characterReceived (ch : Byte) (stopOk : Bool) (s : State) : State :=
  if s.resets.active then { s with port := [] }
  else match s.link.rx with
  | .hunt => quiet (if stopOk ∧ ch = 0xA5#8 then .length else .hunt) s
  | .length =>
    if stopOk ∧ 2 ≤ ch.toNat ∧ ch.toNat ≤ 250 then quiet (.collect ch.toNat []) s else abandonFraming 0#8 0#8 s
  | .collect len got =>
    if stopOk then
      let got := got ++ [ch]
      if got.length < len + 1 then quiet (.collect len got) s
      else frameJudged len got (s.receive .hunt)
    else abandonFraming (got.getD 0 0#8) (got.getD 1 0#8) s

def execCharacterReceived (c : Byte) (stopOk : Bool) (s : State) : Answer := .next (characterReceived c stopOk s)

/-- The inter-byte timeout abandons a partial frame (R3). -/
def Ctx.timeout (c : Ctx) : Ctx :=
  let l := c.s.link
  let drop (kind tag : Byte) (n : Nat) : Ctx :=
    (c.upd fun s => (s.reach (l.rxEnd + Config.interByte)).hunt).linkError .timeout kind tag n
  match l.rx with
  | .hunt => c
  | .length => drop 0#8 0#8 1
  | .collect _ got => drop (got.getD 0 0#8) (got.getD 1 0#8) (2 + got.length)

def execInterByteTimeout (s : State) : Answer := .next (event Ctx.timeout s)

/-! ## The transmitter (R5, R10, R17) -/

/-- The last character of the frame being sent has left: a reply empties the slot, and the ACK of RESET brings the request
reset (R5, R10, R17). -/
def Ctx.frameEnds (c : Ctx) : Ctx :=
  match c.s.link.tx with
  | .idle => c
  | .report _ => c.upd fun s => { s with link := { s.link with tx := .idle } }
  | .reply _ =>
    let c := c.upd fun s => { s with link := { s.link with tx := .idle, slot := none } }
    if c.s.link.requestReset then c.beginReset .request else c

def execFrameSent (s : State) : Answer := .next (event Ctx.frameEnds s)

/-! ## The second (R14) -/

/-- The time counter advances by one; it stands while a reset is under way (R14; log 8). -/
def Ctx.secondPasses (c : Ctx) : Ctx :=
  if c.s.resets.active then c
  else c.upd fun s =>
    let s := s.reach s.link.nextSecond
    { s with link := { s.link with time := s.link.time + 1#32, nextSecond := s.link.nextSecond + Config.second } }

def execTimeAdvance (s : State) : Answer := .next (event Ctx.secondPasses s)

end Sys2Proof.Machine
end

