-- ==== Sys2Proof/Machine/Dispatch.lean ====
section
/-! DEFINITION. One arm for each command: its meaning. -/

namespace Sys2Proof.Machine

def exec (i : Instr) (s : State) : Host.Outcome State Fault Refusal :=
  match i with
  | .characterReceived c stopOk => Sys2Proof.Machine.execCharacterReceived c stopOk s
  | .interByteTimeout => Sys2Proof.Machine.execInterByteTimeout s
  | .frameSent => Sys2Proof.Machine.execFrameSent s
  | .timeAdvance => Sys2Proof.Machine.execTimeAdvance s
  | .resetPinAssert => Sys2Proof.Machine.execResetPinAssert s
  | .resetPinRelease => Sys2Proof.Machine.execResetPinRelease s
  | .resetDropIntervalExpiry line => Sys2Proof.Machine.execResetDropIntervalExpiry line s
  | .startingPhaseEnd => Sys2Proof.Machine.execStartingPhaseEnd s
  | .supplyGoodFall => Sys2Proof.Machine.execSupplyGoodFall s
  | .supplyGoodRise => Sys2Proof.Machine.execSupplyGoodRise s
  | .echo tag body => Sys2Proof.Machine.execEcho tag body s
  | .status tag body => Sys2Proof.Machine.execStatus tag body s
  | .timeSet tag body => Sys2Proof.Machine.execTimeSet tag body s
  | .reset tag body => Sys2Proof.Machine.execReset tag body s
  | .dirLoad tag body => Sys2Proof.Machine.execDirLoad tag body s
  | .dirRead tag body => Sys2Proof.Machine.execDirRead tag body s
  | .profileSet tag body => Sys2Proof.Machine.execProfileSet tag body s
  | .profileRead tag body => Sys2Proof.Machine.execProfileRead tag body s
  | .routeSet tag body => Sys2Proof.Machine.execRouteSet tag body s
  | .routeRead tag body => Sys2Proof.Machine.execRouteRead tag body s
  | .intervalSet tag body => Sys2Proof.Machine.execIntervalSet tag body s
  | .watchSet tag body => Sys2Proof.Machine.execWatchSet tag body s
  | .watchClear tag body => Sys2Proof.Machine.execWatchClear tag body s
  | .hazardSet tag body => Sys2Proof.Machine.execHazardSet tag body s
  | .hazardClear tag body => Sys2Proof.Machine.execHazardClear tag body s
  | .test tag body => Sys2Proof.Machine.execTest tag body s
  | .cut tag body => Sys2Proof.Machine.execCut tag body s
  | .speak tag body => Sys2Proof.Machine.execSpeak tag body s
  | .hold tag body => Sys2Proof.Machine.execHold tag body s
  | .retest tag body => Sys2Proof.Machine.execRetest tag body s
  | .release tag body => Sys2Proof.Machine.execRelease tag body s
  | .jobCancel tag body => Sys2Proof.Machine.execJobCancel tag body s
  | .jobRead tag body => Sys2Proof.Machine.execJobRead tag body s
  | .holdLimitSet tag body => Sys2Proof.Machine.execHoldLimitSet tag body s
  | .sweepStart tag body => Sys2Proof.Machine.execSweepStart tag body s
  | .sweepStop tag body => Sys2Proof.Machine.execSweepStop tag body s
  | .sweepDefault tag body => Sys2Proof.Machine.execSweepDefault tag body s
  | .sweepSet tag body => Sys2Proof.Machine.execSweepSet tag body s
  | .sweepRead tag body => Sys2Proof.Machine.execSweepRead tag body s
  | .headAccept tag body => Sys2Proof.Machine.execHeadAccept tag body s
  | .stepSet tag body => Sys2Proof.Machine.execStepSet tag body s
  | .stepRead tag body => Sys2Proof.Machine.execStepRead tag body s
  | .lineRead tag body => Sys2Proof.Machine.execLineRead tag body s
  | .ticketReport tag body => Sys2Proof.Machine.execTicketReport tag body s
  | .ticketDispatch tag body => Sys2Proof.Machine.execTicketDispatch tag body s
  | .ticketVerify tag body => Sys2Proof.Machine.execTicketVerify tag body s
  | .ticketClose tag body => Sys2Proof.Machine.execTicketClose tag body s
  | .ticketRead tag body => Sys2Proof.Machine.execTicketRead tag body s
  | .ticketList tag body => Sys2Proof.Machine.execTicketList tag body s
  | .ticketErase tag body => Sys2Proof.Machine.execTicketErase tag body s
  | .rollupSet tag body => Sys2Proof.Machine.execRollupSet tag body s
  | .guardWindowExpiry b => Sys2Proof.Machine.execGuardWindowExpiry b s
  | .connectIntervalExpiry b => Sys2Proof.Machine.execConnectIntervalExpiry b s
  | .restoreIntervalExpiry b => Sys2Proof.Machine.execRestoreIntervalExpiry b s
  | .loopSenseChange b present => Sys2Proof.Machine.execLoopSenseChange b present s
  | .debounceTimerExpiry b => Sys2Proof.Machine.execDebounceTimerExpiry b s
  | .holdLimitExpiry job => Sys2Proof.Machine.execHoldLimitExpiry job s
  | .hazardInputActive x => Sys2Proof.Machine.execHazardInputActive x s
  | .hazardInputInactive x => Sys2Proof.Machine.execHazardInputInactive x s
  | .hazardReleaseTimerExpiry x => Sys2Proof.Machine.execHazardReleaseTimerExpiry x s
  | .hazardHoldExpiry job => Sys2Proof.Machine.execHazardHoldExpiry job s
  | .headPresenceLost h => Sys2Proof.Machine.execHeadPresenceLost h s
  | .headPresenceReturn h => Sys2Proof.Machine.execHeadPresenceReturn h s
  | .frameBoundary h => Sys2Proof.Machine.execFrameBoundary h s
  | .trigger h => Sys2Proof.Machine.execTrigger h s
  | .samplePair h v x => Sys2Proof.Machine.execSamplePair h v x s
  | .paceTimerExpiry => Sys2Proof.Machine.execPaceTimerExpiry s

end Sys2Proof.Machine
end

