-- ==== Sys2Proof/Safety.lean ====
section
/-! DEFINITION. What counts as a safe state: the laws that the spec's chapters state of every moment of the part's life, each
an invariant that no step breaks; and the words in which claims about one command are stated: a part ready to serve, the
answer it gives, and the codes of a request's fields. -/

namespace Sys2Proof.Machine

/-! ## The report queue (R11, R12) -/

/-- The reports of the queue that are OVERFLOW. -/
def overflows (q : List Report) : List Report := q.filter Report.isOverflow

/-- R11, R12: at most 32 places of the queue are taken, START's held place among them; at most one report is an OVERFLOW; and
the lost count stops at 255. -/
structure QueueLaw (s : State) : Prop where
  places : s.queueUsed ≤ 32
  oneOverflow : (overflows s.link.queue).length ≤ 1
  lost : s.link.lost ≤ 255

/-! ## The revisit list (R129) -/

/-- R129: the list holds each line at most once, and it holds at most 16 entries. -/
structure RevisitLaw (s : State) : Prop where
  lines : (s.sweep.revisit.map (·.line)).Nodup
  places : s.sweep.revisit.length ≤ 16

/-! ## The ticket table (R173, R179) -/

/-- The non-closed line tickets of a line. -/
def State.liveLineTickets (s : State) (line : Nat) : List Ticket :=
  s.tickets.table.filter fun t => t.kind == .line && t.line == some line && t.live

/-- The non-closed cable tickets of a cable. -/
def State.liveCableTickets (s : State) (cable : Nat) : List Ticket :=
  s.tickets.table.filter fun t => t.kind == .cable && t.cable == cable && t.live

/-- R172, R173: at most 128 tickets with distinct numbers from 1 to 65535, the next number in the same range, at most one
non-closed line ticket for a line and one non-closed cable ticket for a cable, and no cable ticket ROLLED. The table stands in
ascending order of number, by which R124, R178 and R182 take tickets. -/
structure TicketLaw (s : State) : Prop where
  places : s.tickets.table.length ≤ 128
  distinct : (s.tickets.table.map (·.number)).Nodup
  ascending : (s.tickets.table.map (·.number)).Pairwise (· < ·)
  numbers : ∀ t ∈ s.tickets.table, 1 ≤ t.number ∧ t.number ≤ 65535
  next : 1 ≤ s.tickets.next ∧ s.tickets.next ≤ 65535
  oneForALine : ∀ line, (s.liveLineTickets line).length ≤ 1
  oneForACable : ∀ cable, (s.liveCableTickets cable).length ≤ 1
  cableNeverRolled : ∀ t ∈ s.tickets.table, t.kind = .cable → t.state ≠ .rolled

/-- R179: every ROLLED ticket names as parent an active cable ticket of its cable, and the member count of every cable
ticket is the number of ROLLED tickets naming it. -/
structure ParentLaw (s : State) : Prop where
  parents : ∀ t ∈ s.tickets.table, t.state = .rolled →
    ∃ p ∈ s.tickets.table, t.parent = some p.number ∧ Ticket.activeCable t.cable p = true
  members : ∀ p ∈ s.tickets.table, p.kind = .cable → p.members = (s.childrenOf p.number).length

/-! ## The job table (R92, R93) -/

/-- The job stands in none but RELEASING (R93: a job in RELEASING is not counted for its line). -/
def Job.counted (j : Job) : Bool := j.state != .releasing

/-- R92, R93: at most 16 jobs with distinct ids from 1 to 255; at most 4 of a position, 2 of AUTO and 2 of the sweep; at most
one AUTO or sweep job for a line; two jobs of one line that are not RELEASING only where the takeover mark of one names the
other; and a head's step in hand is that of a MEASURING job with the head attached. -/
structure JobLaw (s : State) : Prop where
  places : s.sched.jobs.length ≤ 16
  distinct : (s.sched.jobs.map (·.id)).Nodup
  ids : ∀ j ∈ s.sched.jobs, 1 ≤ j.id ∧ j.id ≤ 255
  ofPosition : ∀ p, s.countOf (.desk p) ≤ 4
  ofAuto : s.countOf .auto ≤ 2
  ofSweep : s.countOf .sweep ≤ 2
  oneRoutine : ∀ j ∈ s.sched.jobs, ∀ k ∈ s.sched.jobs,
    j.line = k.line → j.source.isDesk = false → k.source.isDesk = false → j.id = k.id
  oneForALine : ∀ j ∈ s.sched.jobs, ∀ k ∈ s.sched.jobs, j.line = k.line → j.counted = true → k.counted = true →
    j.id = k.id ∨ j.takeover = some k.id ∨ k.takeover = some j.id
  stepsInHand : ∀ h st, (s.headRec h).step = some st → (s.headRec h).state = .attached ∧
    ∃ j ∈ s.sched.jobs, j.id = st.job ∧ j.state = .measuring ∧ j.head = some ⟨h, false⟩

/-! ## The buses in hazard (R40, R83) -/

/-- An access state in which a bus in hazard is safe (R83). -/
def BusRecord.safeInHazard (r : BusRecord) : Prop :=
  r.access = .idle ∨ r.access = .parked ∨ r.access = .releasing ∨ (r.access = .cutting ∧ r.parkMark = true)

/-- R40, R83: a head stands only on a CONNECTED bus and speech only on a CONNECTED or MONITOR one; and a bus in a hazard state
is in an access state that R83 names, so it has neither. That a test path is closed only on the line of a CONNECTED bus is
`RelayLaw.pathStands`. -/
structure HazardLaw (s : State) : Prop where
  heads : ∀ b, (s.busRec b).head.isSome → (s.busRec b).access = .connected
  speech : ∀ b, (s.busRec b).speech.isSome → (s.busRec b).access = .connected ∨ (s.busRec b).access = .monitor
  safe : ∀ b, (s.hazardRec b).state ≠ .none → (s.busRec b).safeInHazard

/-! ## The relays (R38, R54) -/

/-- The access states in which the exchange cut of the line stands open. -/
def AccessState.cutStands : AccessState → Bool
  | .cutting => true
  | .connected => true
  | .parked => true
  | .releasing => true
  | _ => false

/-- R38, R54: a test path is closed only on the line of a CONNECTED record, whose exchange cut is open; two records never
name lines of one group; and while cuts of a reset drop are open no bus, job or sweep acts. -/
structure RelayLaw (s : State) : Prop where
  cutStands : ∀ b line, (s.busRec b).line = some line → (s.busRec b).access.cutStands = true →
    (s.relaysOf line).cutOpen = true
  pathStands : ∀ line, (s.relaysOf line).testPath = true →
    ∃ b, (s.busRec b).line = some line ∧ (s.busRec b).access = .connected
  oneLine : ∀ b b' line line', (s.busRec b).line = some line → (s.busRec b').line = some line' →
    groupOf line = groupOf line' → b = b'
  dropQuiet : s.resets.drop ≠ [] →
    s.resets.active = true ∧ s.sched.jobs = [] ∧ s.access.buses = [] ∧ s.sweep.state = .stopped

/-! ## The supply (R117, R185) -/

/-- R60, R117: while SUPPLY-GOOD is low the job table is empty and every bus record holds its reset values. -/
def SupplyLaw (s : State) : Prop :=
  s.pins.supplyGood = false → s.sched.jobs = [] ∧ s.access.buses = []

/-! ## The settings (R9, R27, R28, R34, R61, R76, R110, R118, R139, R184) -/

/-- A profile within the ranges of section 2.2 and in the order of R28. -/
def Profile.inRange (p : Profile) : Prop :=
  1000 ≤ p.fvDanger ∧ p.fvDanger ≤ 150000 ∧ 500 ≤ p.fvLimit ∧ p.fvLimit ≤ 150000 ∧ 500 ≤ p.acLimit ∧ p.acLimit ≤ 150000 ∧
  100 ≤ p.shOhm ∧ p.shOhm ≤ 100000 ∧ 1000 ≤ p.irFail ∧ p.irFail ≤ 10000000 ∧ 10000 ≤ p.irMarg ∧ p.irMarg ≤ 50000000 ∧
  p.capMin ≤ 65535 ∧ 20 ≤ p.capPerKm ∧ p.capPerKm ≤ 120 ∧ p.hyst ≤ 50 ∧ 1 ≤ p.marginalLimit ∧ p.marginalLimit ≤ 7 ∧
  p.shOhm < p.irFail ∧ p.irFail < p.irMarg ∧ p.fvLimit ≤ p.fvDanger

/-- A step table entry of a kind within the ranges of R139. -/
def StepEntry.inRange (e : StepEntry) (kind : StepKind) : Prop :=
  8 ≤ e.period ∧ e.period ≤ 8000 ∧ e.phase < e.period ∧ 1 ≤ e.post ∧ e.post ≤ 16 ∧ e.discard ≤ 15 ∧
  (if kind = .cap then 2 else 1) ≤ e.samples ∧ e.samples ≤ 64 ∧
  (e.level = none ↔ kind = .fv) ∧ e.level.getD 0 ≤ 3 ∧
  (kind = .fv ∨ kind = .cap → e.startRange = .lo)

/-- Every setting that a request can change lies within its range; the watch exponent is `WatchLaw`'s. -/
structure SettingsLaw (s : State) : Prop where
  classes : ∀ line, (s.dirEntry line).cls ≤ 15
  profiles : ∀ cls, (s.profile cls).inRange
  intervals : (1 ≤ s.store.intervalA.count ∧ s.store.intervalA.count ≤ 63) ∧
    1 ≤ s.store.intervalB.count ∧ s.store.intervalB.count ≤ 63
  guardWindow : 1 ≤ s.watches.guardLength ∧ s.watches.guardLength ≤ 50
  hazardHold : 1 ≤ s.hazards.holdTime ∧ s.hazards.holdTime ≤ 255
  holdLimits : ∀ position, 1 ≤ s.holdLimitOf position ∧ s.holdLimitOf position ≤ 60
  pace : 1 ≤ s.sweep.pace ∧ s.sweep.pace ≤ 255
  concurrency : 1 ≤ s.sweep.concurrency ∧ s.sweep.concurrency ≤ 2
  steps : ∀ kind, (s.engine.steps.entry kind).inRange kind
  rollUp : 2 ≤ s.tickets.rollCount ∧ s.tickets.rollCount ≤ 32 ∧ 1 ≤ s.tickets.rollWindow ∧ s.tickets.rollWindow ≤ 255 ∧
    1 ≤ s.tickets.stormWindow ∧ s.tickets.stormWindow ≤ 255

/-- R61, R72: the watch exponent n is at most 7 in every watch record and in every job's watch settings. -/
structure WatchLaw (s : State) : Prop where
  records : ∀ b, (s.watchRec b).settings.n ≤ 7
  jobs : ∀ j ∈ s.sched.jobs, j.watch.n ≤ 7

/-! ## A request that is served (R4 to R6, R10) -/

/-- No test of R4, R5 and R6 items 2 to 4 but that of the length stands against a request with this tag. -/
structure Ready (s : State) (tag : Byte) : Prop where
  running : s.resets.active = false
  started : s.resets.starting = false
  supply : s.pins.supplyGood = true
  slot : s.link.slot = none
  tag : tag ≠ 0#8

/-- The link after a reply is placed in its empty slot: an idle transmitter begins it (R5, R10). -/
def Link.replying (l : Link) (r : Reply) : Link :=
  match l.tx with
  | .idle => { l with slot := some { r with begun := true }, tx := .reply { r with begun := true } }
  | _ => { l with slot := some r }

/-- The state after a request is answered, but for the request's own effects: the receiver is in HUNT and the reply stands
in the slot (R4 to R6). -/
def State.answers (s : State) (code tag : Byte) (x : ReplyContent) : State :=
  { s with port := [], link := ({ s.link with rx := .hunt } : Link).replying ⟨code, tag, x, false⟩ }

/-- An ACK. -/
def State.acks (s : State) (code tag : Byte) (b : AckBody) : State := s.answers code tag (.ack b)

/-- The end of an event that is no request and raises these reports, oldest first: they join the queue, and an idle
transmitter starts (R10, R11). -/
def State.tells (s : State) (rs : List Report) : State := (rs.foldl State.raise { s with port := [] }).pump

/-- An ACK whose event raises these reports: the reply stands in the slot, they join the queue, and an idle transmitter
begins the reply (R5, R10, R11). -/
def State.acksTelling (s : State) (code tag : Byte) (b : AckBody) (rs : List Report) : State :=
  (rs.foldl State.raise ((({ s with port := [] } : State).hunt).reply code tag (.ack b))).pump

/-- The kind code, tag and body of a command that is a request (R7). -/
def requestOf : Instr → Option (Byte × Byte × List Byte)
  | .echo t b => some (0x10#8, t, b)
  | .status t b => some (0x11#8, t, b)
  | .timeSet t b => some (0x12#8, t, b)
  | .reset t b => some (0x13#8, t, b)
  | .dirLoad t b => some (0x18#8, t, b)
  | .dirRead t b => some (0x19#8, t, b)
  | .profileSet t b => some (0x1A#8, t, b)
  | .profileRead t b => some (0x1B#8, t, b)
  | .routeSet t b => some (0x1C#8, t, b)
  | .routeRead t b => some (0x1D#8, t, b)
  | .intervalSet t b => some (0x1E#8, t, b)
  | .watchSet t b => some (0x20#8, t, b)
  | .watchClear t b => some (0x21#8, t, b)
  | .hazardSet t b => some (0x22#8, t, b)
  | .hazardClear t b => some (0x23#8, t, b)
  | .test t b => some (0x28#8, t, b)
  | .cut t b => some (0x29#8, t, b)
  | .speak t b => some (0x2A#8, t, b)
  | .hold t b => some (0x2B#8, t, b)
  | .retest t b => some (0x2C#8, t, b)
  | .release t b => some (0x2D#8, t, b)
  | .jobCancel t b => some (0x2E#8, t, b)
  | .jobRead t b => some (0x2F#8, t, b)
  | .holdLimitSet t b => some (0x30#8, t, b)
  | .sweepStart t b => some (0x34#8, t, b)
  | .sweepStop t b => some (0x35#8, t, b)
  | .sweepDefault t b => some (0x36#8, t, b)
  | .sweepSet t b => some (0x37#8, t, b)
  | .sweepRead t b => some (0x38#8, t, b)
  | .headAccept t b => some (0x3C#8, t, b)
  | .stepSet t b => some (0x3D#8, t, b)
  | .stepRead t b => some (0x3E#8, t, b)
  | .lineRead t b => some (0x40#8, t, b)
  | .ticketReport t b => some (0x44#8, t, b)
  | .ticketDispatch t b => some (0x45#8, t, b)
  | .ticketClose t b => some (0x46#8, t, b)
  | .ticketVerify t b => some (0x47#8, t, b)
  | .ticketRead t b => some (0x48#8, t, b)
  | .ticketList t b => some (0x49#8, t, b)
  | .ticketErase t b => some (0x4A#8, t, b)
  | .rollupSet t b => some (0x4B#8, t, b)
  | .characterReceived _ _ => none
  | .interByteTimeout => none
  | .frameSent => none
  | .timeAdvance => none
  | .resetPinAssert => none
  | .resetPinRelease => none
  | .resetDropIntervalExpiry _ => none
  | .startingPhaseEnd => none
  | .supplyGoodFall => none
  | .supplyGoodRise => none
  | .guardWindowExpiry _ => none
  | .connectIntervalExpiry _ => none
  | .restoreIntervalExpiry _ => none
  | .loopSenseChange _ _ => none
  | .debounceTimerExpiry _ => none
  | .holdLimitExpiry _ => none
  | .hazardInputActive _ => none
  | .hazardInputInactive _ => none
  | .hazardReleaseTimerExpiry _ => none
  | .hazardHoldExpiry _ => none
  | .headPresenceLost _ => none
  | .headPresenceReturn _ => none
  | .frameBoundary _ => none
  | .trigger _ => none
  | .samplePair _ _ _ => none
  | .paceTimerExpiry => none

/-! ## An event that nothing follows (log 13) -/

/-- No exit is pending and no job waits for a head: neither can act in an event that brings none of them about. -/
structure Calm (s : State) : Prop where
  exits : ∀ b, (s.hazardRec b).exit = none
  heads : ∀ j ∈ s.sched.jobs, j.state ≠ .waitHead

/-- Moreover no job is QUEUED and the sweep is not RUNNING: neither a queue walk nor an issue attempt finds work. -/
structure Settled (s : State) : Prop extends Calm s where
  queue : ∀ j ∈ s.sched.jobs, j.state ≠ .queued
  sweep : s.sweep.state ≠ .running

/-! ## The codes of request fields (R31, R72, R77) -/

/-- A code whose value `same` leaves the field as it is. -/
def codeOr {α : Type} (same : Byte) (code : α → Byte) : Option α → Byte
  | none => same
  | some a => code a

def SetForm.code : SetForm → Byte
  | .add => 0
  | .remove => 1
  | .replace => 2

end Sys2Proof.Machine
end

