-- ==== Sys2Proof/Certificates/Slice0/Obligations.lean ====
section
/-! DEFINITION. The statements for the provers: what a command, a pin event, a timer or the arithmetic does, and the laws that every
step keeps. `Ready`, `Calm`, `Settled` and the reading forms `acks`, `answers` and `tells` are Safety's. -/

open Sys2Proof Sys2Proof.Machine

/-! ## The queue of commands -/

/-- The command at the front of the queue is run with the queue's rest. The queue is the model's own (log 1). -/
def Obligations.StepRunsTheFrontCommand : Prop :=
  ∀ (c : Instr) (rest : List Instr) (s : State),
    step { s with pending := c :: rest } = exec c { s with pending := rest }

/-- On an empty queue one unit of time passes and nothing else. The model's choice (log 1). -/
def Obligations.IdleStepOnlyPassesTime : Prop :=
  ∀ s : State, s.pending = [] → step s = .next { s with now := s.now + 1, port := [] }

/-! ## The laws hold at reset and are kept by every step -/

/-- The state right after a power reset meets every law. -/
def Obligations.ResetMeetsTheLaws : Prop :=
  QueueLaw State.reset ∧ RevisitLaw State.reset ∧ TicketLaw State.reset ∧ ParentLaw State.reset ∧
  HazardLaw State.reset ∧ RelayLaw State.reset ∧ SupplyLaw State.reset ∧ SettingsLaw State.reset ∧ WatchLaw State.reset ∧
  JobLaw State.reset

/-- Every step keeps the law of the report queue: at most 32 places taken, START's held place among them, at most one OVERFLOW in it,
and a lost count that stops at 255 (R11, R12). -/
def Obligations.EveryStepKeepsTheQueueLaw : Prop :=
  ∀ s t : State, QueueLaw s → step s = .next t → QueueLaw t

/-- Every step keeps the revisit list's law: it holds each line at most once, and at most 16 entries (R129). -/
def Obligations.EveryStepKeepsTheRevisitLaw : Prop :=
  ∀ s t : State, RevisitLaw s → step s = .next t → RevisitLaw t

/-- From every state that meets the parent law, every step keeps the law of the ticket table: at most 128 tickets with distinct
numbers from 1 to 65535, the next number in the same range, at most one non-closed line ticket for a line and one non-closed cable
ticket for a cable, no cable ticket ROLLED, and the table in ascending order of number (R173). -/
def Obligations.EveryStepKeepsTheTicketLaw : Prop :=
  ∀ s t : State, TicketLaw s → ParentLaw s → step s = .next t → TicketLaw t

/-- From every state that meets the ticket law, every step keeps parents and member counts in agreement: each ROLLED ticket names
an active cable ticket of its cable, and each cable ticket's member count is the number of ROLLED tickets naming it (R179). -/
def Obligations.EveryStepKeepsTheParentLaw : Prop :=
  ∀ s t : State, TicketLaw s → ParentLaw s → step s = .next t → ParentLaw t

/-- Every step keeps the law of heads, speech and hazard: a head stands only on a CONNECTED bus, speech only on a CONNECTED or
MONITOR one, and a bus in a hazard state is IDLE, PARKED, RELEASING or CUTTING under a park mark (R40, R83). -/
def Obligations.EveryStepKeepsTheHazardLaw : Prop :=
  ∀ s t : State, HazardLaw s → step s = .next t → HazardLaw t

/-- From every state that meets the law of the job table, every step keeps the law of the relays: a test path is closed only on the
line of a CONNECTED bus, whose exchange cut is open, two buses never name lines of one group, and while cuts of a reset drop are open
no bus, job or sweep acts (R38, R54). -/
def Obligations.EveryStepKeepsTheRelayLaw : Prop :=
  ∀ s t : State, JobLaw s → RelayLaw s → step s = .next t → RelayLaw t

/-- Every step keeps the law that while SUPPLY-GOOD is low there is no job and no access; and a step that begins and ends with
SUPPLY-GOOD low leaves the ticket table and its counter as they stand (R60, R117, R185). -/
def Obligations.TicketsStandStillUnderALowSupply : Prop :=
  ∀ s t : State, SupplyLaw s → step s = .next t →
    SupplyLaw t ∧
    (s.pins.supplyGood = false → t.pins.supplyGood = false →
      t.tickets.table = s.tickets.table ∧ t.tickets.next = s.tickets.next)

/-- Every step, whatever a request carries, keeps every setting of the part in its range, and the watch exponent of every watch
record and of every job at most 7 (R9, R61, R72). -/
def Obligations.EveryStepKeepsTheSettingsLaw : Prop :=
  (∀ s t : State, SettingsLaw s → step s = .next t → SettingsLaw t) ∧
  (∀ s t : State, WatchLaw s → step s = .next t → WatchLaw t)

/-- From every state whose settings are in range, every step keeps the law of the job table: at most 16 jobs with distinct ids from
1 to 255, at most 4 of a position, 2 of AUTO and 2 of the sweep, at most one AUTO or sweep job for a line, two jobs of a line that are
not RELEASING only where the takeover mark of one names the other, and a step in hand only at a head attached to its MEASURING job
(R92, R93). -/
def Obligations.EveryStepKeepsTheJobLaw : Prop :=
  ∀ s t : State, SettingsLaw s → JobLaw s → step s = .next t → JobLaw t

/-! ## The frame and the service of a request -/

/-- Every frame the part sends opens with 0xA5, carries its length, and sums to 0 from its length byte to its check (R1). -/
def Obligations.EveryFrameSumsToZero : Prop :=
  ∀ (kind tag : Byte) (body : List Byte),
    ∃ check, frame kind tag body = 0xA5#8 :: byteOf (body.length + 2) :: kind :: tag :: (body ++ [check]) ∧
      byteSum ((frame kind tag body).drop 1) = 0#8

/-- The last character of a good frame of a listed kind is that request: the bytes kept are its kind, tag and body (R4). -/
def Obligations.LastCharacterIsTheRequest : Prop :=
  ∀ (s : State) (c : Instr) (code tag check : Byte) (body got : List Byte),
    s.resets.active = false → requestOf c = some (code, tag, body) →
    got ++ [check] = code :: tag :: (body ++ [check]) → s.link.rx = .collect (body.length + 2) got →
    byteSum (byteOf (body.length + 2) :: code :: tag :: (body ++ [check])) = 0#8 →
    exec (.characterReceived check true) s = exec c { s with link := { s.link with rxEnd := s.now } }

/-- A request that is refused leaves every table, record, setting and timer of every block as it was: only the reply slot is
filled, and begun by an idle transmitter, and the receiver is in HUNT (R6, R10). -/
def Obligations.RefusedRequestChangesOnlyTheLink : Prop :=
  ∀ (s t : State) (c : Instr) (code tag : Byte) (body : List Byte) (r : Reason) (begun : Bool),
    requestOf c = some (code, tag, body) → s.resets.active = false → tag ≠ 0#8 → s.link.slot = none →
    exec c s = .next t → t.link.slot = some ⟨code, tag, .reject r, begun⟩ →
    t = s.answers code tag (.reject r)

/-- A complete request frame with tag 0 or while the reply slot is full is discarded unserved: one LINK-ERROR is raised and
nothing else moves but the receiver. A served request meets, before its owner's own tests, the kind, then the length, then the supply,
then the starting phase: a good frame of a kind that no request has is refused with UNKNOWN-KIND (R4, R5, R6 items 1 to 4). -/
def Obligations.FrameTestsComeInOrder : Prop :=
  (∀ (s : State) (c : Instr) (code tag : Byte) (body : List Byte) (v : Service),
     requestOf c = some (code, tag, body) → serviceOf code = some v →
     s.resets.active = false → tag ≠ 0#8 → s.link.slot = none →
     (v.lengthOk body = false → exec c s = .next (s.answers code tag (.reject .badLength))) ∧
     (v.lengthOk body = true → s.pins.supplyGood = false → exec c s = .next (s.answers code tag (.reject .supply))) ∧
     (v.lengthOk body = true → s.pins.supplyGood = true → s.resets.starting = true →
       exec c s = .next (s.answers code tag (.reject .starting)))) ∧
  (∀ (s : State) (c : Instr) (code tag : Byte) (body : List Byte),
     requestOf c = some (code, tag, body) → s.resets.active = false →
     (tag = 0#8 → exec c s = .next (({ s with port := [] }.hunt).raise (.linkError .tag code 0#8 0)).pump) ∧
     (tag ≠ 0#8 → s.link.slot.isSome →
       exec c s = .next (({ s with port := [] }.hunt).raise (.linkError .overrun code tag 0)).pump)) ∧
  (∀ (s : State) (kind tag check : Byte) (body got : List Byte),
     (∀ c t b, requestOf c ≠ some (kind, t, b)) → s.resets.active = false → tag ≠ 0#8 → s.link.slot = none →
     got ++ [check] = kind :: tag :: (body ++ [check]) → s.link.rx = .collect (body.length + 2) got →
     byteSum (byteOf (body.length + 2) :: kind :: tag :: (body ++ [check])) = 0#8 →
     exec (.characterReceived check true) s =
       .next ({ s with link := { s.link with rxEnd := s.now } }.answers kind tag (.reject .unknownKind)))

/-! ## The link's own requests -/

/-- ECHO answers an ACK with a copy of its body, from 0 to 248 bytes, and has no other effect; with SUPPLY-GOOD low it is refused
with SUPPLY, and in the starting phase with STARTING (R15). -/
def Obligations.EchoAnswersItsBody : Prop :=
  ∀ (s : State) (tag : Byte) (body : List Byte),
    (Ready s tag → body.length ≤ 248 → exec (.echo tag body) s = .next (s.acks 0x10#8 tag (.echo body))) ∧
    (s.resets.active = false → s.link.slot = none → tag ≠ 0#8 → body.length ≤ 248 →
      (s.pins.supplyGood = false → exec (.echo tag body) s = .next (s.answers 0x10#8 tag (.reject .supply))) ∧
      (s.pins.supplyGood = true → s.resets.starting = true →
        exec (.echo tag body) s = .next (s.answers 0x10#8 tag (.reject .starting))))

/-- STATUS answers the state of the part as it stands, places the supply-fall mark in the reply and then sets it to no (R16). -/
def Obligations.StatusAnswersAndClearsTheMark : Prop :=
  ∀ (s : State) (tag : Byte), Ready s tag →
    ∃ v : StatusView,
      exec (.status tag []) s =
        .next ({ s with link := { s.link with supplyFall := false } }.acks 0x11#8 tag (.status v)) ∧
      v.starting = s.link.queue.any Report.isStart ∧ v.supplyFall = s.link.supplyFall ∧ v.time = s.link.time ∧
      v.timeSet = s.link.timeSet ∧ v.sweep = s.sweep.state ∧ v.jobs = s.sched.jobs.length ∧
      v.queue = s.link.queue.length ∧ v.lost = s.link.lost ∧
      (∀ b : Bus, v.buses[b.val]? = some ⟨(s.busRec b).access, (s.hazardRec b).state, (s.watchRec b).pending,
        if (s.busRec b).access = .idle then none else some (s.watchRec b).loop⟩) ∧
      (∀ h : Head, v.heads[h.val]? = some ⟨(s.headRec h).state, (s.headRec h).bus⟩)

/-- TIME-SET replaces the counter with its four-byte value, little-endian, sets time-set to yes, and the next advance comes one
whole second later; each advance adds one, from the top value to 0 (R14). -/
def Obligations.TimeIsSetAndAdvances : Prop :=
  (∀ (s : State) (tag b0 b1 b2 b3 : Byte), Ready s tag →
    exec (.timeSet tag [b0, b1, b2, b3]) s =
      .next ({ s with link := { s.link with
        time := b3 ++ b2 ++ b1 ++ b0, timeSet := true, nextSecond := s.now + Config.second } }.acks 0x12#8 tag
          (.time (b3 ++ b2 ++ b1 ++ b0)))) ∧
  (∀ s : State, s.resets.active = false →
    exec .timeAdvance s =
      .next ({ s with
        port := [], now := max s.now s.link.nextSecond
        link := { s.link with
          time := s.link.time + 1#32, nextSecond := s.link.nextSecond + Config.second } } : State).pump)

/-- RESET is answered with an empty ACK, and the end of that ACK brings a request reset; with no line on a bus, RESET released
and no hazard input active it ends at once in its starting phase, every block at its reset values and the ticket table, its
counter and its valid marker kept (R17, R59, R172). The next advance of the time counter one second after the reset is the model's
choice (log 8), and so is that no configure stands at a head after it (DESIGN CHOICE, log 41). -/
def Obligations.RequestResetFollowsItsAck : Prop :=
  (∀ (s : State) (tag : Byte), Ready s tag →
    exec (.reset tag []) s = .next ({ s with link := { s.link with requestReset := true } }.acks 0x13#8 tag .empty)) ∧
  (∀ (s : State) (r : Reply), s.link.tx = .reply r → s.link.requestReset = true → s.resets.active = false →
    (∀ b, (s.busRec b).line = none) → s.pins.reset = false → s.pins.hazards = [] → s.tickets.valid = true →
    ∃ t, exec .frameSent s = .next t ∧
      t.resets = ⟨false, .request, true, [], false⟩ ∧ t.pending = s.pending ∧ t.now = s.now ∧ t.pins = s.pins ∧
      t.link = { Link.initial with
        rate := s.pins.rate, nextSecond := s.now + Config.second, supplyFall := s.link.supplyFall } ∧
      t.store = Store.initial ∧ t.access = Access.initial ∧ t.watches = Watches.initial ∧ t.hazards = Hazards.initial ∧
      t.sched = Sched.initial ∧ t.sweep = Sweep.initial ∧ t.lines = [] ∧ t.engine.steps = StepTable.initial ∧
      (∀ h : Head, t.headRec h = { HeadRecord.initial with
        state := if Table.get true s.pins.heads h.val then .idle else .absent }) ∧
      t.tickets = { Tickets.initial with table := s.tickets.table, next := s.tickets.next })

/-! ## The Configuration Store -/

/-- DIR-LOAD writes all its entries in one event, a class above 15 taken as 15, each line from the first upward, and changes no
other line and nothing else (R24). -/
def Obligations.DirLoadWritesItsEntries : Prop :=
  ∀ (s : State) (tag : Byte) (first : Nat) (es : List (Byte × Byte × Bool)),
    Ready s tag → 1 ≤ es.length → es.length ≤ 16 → first + es.length ≤ 4096 →
    ∃ t, exec (.dirLoad tag (word first ++ (es.map fun e => [e.1, e.2.1, flag e.2.2]).flatten)) s = .next t ∧
      (∀ (i : Nat) (e : Byte × Byte × Bool), es[i]? = some e →
        t.dirEntry (first + i) = ⟨min 15 e.1.toNat, e.2.1.toNat, e.2.2⟩) ∧
      (∀ l, l < first ∨ first + es.length ≤ l → t.dirEntry l = s.dirEntry l) ∧
      t.link = (s.acks 0x18#8 tag
        (.directory first (es.map fun e => ⟨min 15 e.1.toNat, e.2.1.toNat, e.2.2⟩))).link ∧
      t.port = [] ∧
      { t with port := s.port, link := s.link, store := { t.store with directory := s.store.directory } } = s

/-- PROFILE-SET takes a profile's ten fields clamped to their ranges, refuses a class outside 1 to 15 with BAD-VALUE, and writes the
profile where its thresholds stand in the order R28 asks, refusing it with PROFILE-ORDER where they do not (R28). -/
def Obligations.ProfileSetClampsThenChecksTheOrder : Prop :=
  ∀ (s : State) (tag cls : Byte) (fvd fvl acl sho irf irm cap : Nat) (ckm hys mar : Byte) (p : Profile),
    Ready s tag → fvd < 2 ^ 32 → fvl < 2 ^ 32 → acl < 2 ^ 32 → sho < 2 ^ 32 → irf < 2 ^ 32 → irm < 2 ^ 32 → cap < 65536 →
    p = { fvDanger := max 1000 (min 150000 fvd), fvLimit := max 500 (min 150000 fvl), acLimit := max 500 (min 150000 acl)
          shOhm := max 100 (min 100000 sho), irFail := max 1000 (min 10000000 irf)
          irMarg := max 10000 (min 50000000 irm), capMin := cap, capPerKm := max 20 (min 120 ckm.toNat)
          hyst := min 50 hys.toNat, marginalLimit := max 1 (min 7 mar.toNat) } →
    (cls = 0#8 ∨ 15 < cls.toNat →
      exec (.profileSet tag (cls :: (long fvd ++ long fvl ++ long acl ++ long sho ++ long irf ++ long irm ++ word cap
        ++ [ckm, hys, mar]))) s = .next (s.answers 0x1A#8 tag (.reject .badValue))) ∧
    (1 ≤ cls.toNat → cls.toNat ≤ 15 → p.shOhm < p.irFail → p.irFail < p.irMarg → p.fvLimit ≤ p.fvDanger →
      exec (.profileSet tag (cls :: (long fvd ++ long fvl ++ long acl ++ long sho ++ long irf ++ long irm ++ word cap
        ++ [ckm, hys, mar]))) s = .next ((s.setProfile cls.toNat p).acks 0x1A#8 tag (.profile cls.toNat p))) ∧
    (1 ≤ cls.toNat → cls.toNat ≤ 15 → ¬(p.shOhm < p.irFail ∧ p.irFail < p.irMarg ∧ p.fvLimit ≤ p.fvDanger) →
      exec (.profileSet tag (cls :: (long fvd ++ long fvl ++ long acl ++ long sho ++ long irf ++ long irm ++ word cap
        ++ [ckm, hys, mar]))) s = .next (s.answers 0x1A#8 tag (.reject .profileOrder)))

/-- ROUTE-SET changes the fields it names by their codes and forms. Where no job is QUEUED and nothing else is due in the event, the
route is the one change. A route that differs in no field from the one before leaves everything as it was, whatever else is due. A
change that disables a group removes every QUEUED job of the group with GROUP-DISABLED, whatever its source, and queues a JOB-RESULT
for each in queue order: by priority, and within one priority by the order of their entry. No line joins the revisit list: a sweep job
takes its issue note with it, and an AUTO job makes its line's non-closed ticket verify-due. Here the QUEUED jobs are all of that
group, hold no head, and no mark or claim names them; the sweep is not RUNNING; and the line tickets are as the law of tickets has
them (R31, R32, R94, R99, R130). -/
def Obligations.RouteSetChangesTheRoute : Prop :=
  ∀ (s : State) (tag : Byte) (g : Nat) (en : Option Bool) (f : SetForm) (m : BusSet) (k r : Option IntervalName) (new : Route),
    Ready s tag → g ≤ 63 →
    new = ⟨en.getD (s.route g).enabled,
      (match f with | .add => (s.route g).allowed ||| m | .remove => (s.route g).allowed &&& ~~~m | .replace => m),
      k.getD (s.route g).connect, r.getD (s.route g).restore⟩ →
    (new ≠ s.route g → Settled s →
      exec (.routeSet tag [byteOf g, codeOr 2#8 flag en, f.code, maskByte m, codeOr 2#8 IntervalName.code k,
          codeOr 2#8 IntervalName.code r]) s =
        .next ((s.setRoute g new).acks 0x1C#8 tag (.routeTaken g new))) ∧
    (new = s.route g →
      exec (.routeSet tag [byteOf g, codeOr 2#8 flag en, f.code, maskByte m, codeOr 2#8 IntervalName.code k,
          codeOr 2#8 IntervalName.code r]) s = .next (s.acks 0x1C#8 tag (.routeTaken g new))) ∧
    (∀ q : List Job, (s.route g).enabled = true → new.enabled = false → Calm s → TicketLaw s → s.sweep.state ≠ .running →
      (s.sched.jobs.map (·.id)).Nodup → q.Perm (s.sched.jobs.filter fun j => j.state == .queued) →
      (q.Pairwise fun j k => j.priority.rank < k.priority.rank ∨ (j.priority = k.priority ∧ j.queueOrder < k.queueOrder)) →
      (∀ j ∈ q, j.line / 64 = g ∧ j.head = none) →
      (∀ j ∈ s.sched.jobs, ∀ k ∈ q, j.takeover ≠ some k.id ∧ j.claim ≠ some k.id) →
      exec (.routeSet tag [byteOf g, codeOr 2#8 flag en, f.code, maskByte m, codeOr 2#8 IntervalName.code k,
          codeOr 2#8 IntervalName.code r]) s =
        .next (({ s.setRoute g new with
            sched := { s.sched with jobs := s.sched.jobs.filter fun j => j.state != .queued }
            sweep := { s.sweep with notes := s.sweep.notes.filter fun n => q.all fun j => j.source != .sweep || n.job != j.id }
            tickets := { s.tickets with table := s.tickets.table.map fun x =>
              if x.kind = .line ∧ x.state ≠ .closed ∧ (∃ j ∈ q, j.source = .auto ∧ x.line = some j.line) then
                { x with verifyDue := true } else x } } : State).acksTelling 0x1C#8 tag (.routeTaken g new)
          (q.map fun j => .jobResult ⟨j.id, .groupDisabled, j.source, j.line, s.link.time, j.verification, none, j.results⟩)))

/-! ## Requests that read -/

/-- DIR-READ with its count clamped, PROFILE-READ, ROUTE-READ, STEP-READ, LINE-READ, SWEEP-READ, TICKET-READ and TICKET-LIST with
each of its filters answer what stands and change nothing (R25, R29, R33, R132, R140, R162, R182). SWEEP-READ gives the time left on a
running pace timer in units of 100 ms, rounded up (R122). That the seconds until a revisit entry's not-before moment are rounded up is
the model's (DEDUCED, log 34), and so is that the sweep jobs stand in order of issue (DESIGN CHOICE, log 45). -/
def Obligations.ReadsAnswerAndChangeNothing : Prop :=
  ∀ (s : State) (tag : Byte), Ready s tag →
    (∀ (l n : Nat) (c : Byte), n = max 1 (min 16 c.toNat) → l + n ≤ 4096 →
      exec (.dirRead tag (word l ++ [c])) s =
        .next (s.acks 0x19#8 tag (.directory l ((List.range n).map fun i => s.dirEntry (l + i))))) ∧
    (∀ k, 1 ≤ k → k ≤ 15 → exec (.profileRead tag [byteOf k]) s = .next (s.acks 0x1B#8 tag (.profile k (s.profile k)))) ∧
    (∀ g, g ≤ 63 →
      exec (.routeRead tag [byteOf g]) s =
        .next (s.acks 0x1D#8 tag (.route g (s.route g) s.store.intervalA s.store.intervalB (s.holdingBus g)))) ∧
    (∀ k : StepKind,
      exec (.stepRead tag [k.code]) s = .next (s.acks 0x3E#8 tag (.stepEntry k (s.engine.steps.entry k)))) ∧
    (∀ l, l ≤ 4095 → exec (.lineRead tag (word l)) s = .next (s.acks 0x40#8 tag (.line l (s.lineStatus l)))) ∧
    (∀ (left : PaceView) (jobs : List (Nat × Nat)) (entries : List RevisitView),
      (s.sweep.timer = .none → left = .none) → (s.sweep.timer = .expired → left = .expired) →
      (∀ m, s.sweep.timer = .running m → ∃ n, left = .running n ∧ m - s.now ≤ 800 * n ∧ 800 * n < m - s.now + 800) →
      jobs = s.sweep.notes.map (fun n => (n.job, n.attempts)) → entries.length = s.sweep.revisit.length →
      (∀ (i : Nat) (e : RevisitEntry) (v : RevisitView), s.sweep.revisit[i]? = some e → entries[i]? = some v →
        v.line = e.line ∧ v.reason = e.reason ∧ v.attempts = e.attempts ∧
        e.notBefore - s.now ≤ 8000 * v.seconds ∧ 8000 * v.seconds < e.notBefore - s.now + 8000) →
      exec (.sweepRead tag []) s = .next (s.acks 0x38#8 tag (.sweepRead
        { state := s.sweep.state, pace := s.sweep.pace, concurrency := s.sweep.concurrency, passMode := s.sweep.passMode
          mask := s.sweep.mask, timer := left, cursor := s.sweep.cursor, pass := s.sweep.pass, stats := s.sweep.stats
          jobs := jobs, entries := entries }))) ∧
    (∀ n x, 1 ≤ n → n ≤ 65535 → s.ticket? n = some x →
      exec (.ticketRead tag (word n)) s = .next (s.acks 0x48#8 tag (.ticket x))) ∧
    (∀ (f : Nat) (p : Byte) (m : Ticket → Bool) (ns : List Nat), f ≤ 6 →
      (∀ x, m x = match f with
        | 0 => true
        | 1 => x.state == .opened
        | 2 => x.state == .rolled
        | 3 => x.state == .dispatched
        | 4 => x.state == .cleared
        | 5 => x.state == .closed
        | _ => x.verifyDue) →
      ns = (s.tickets.table.filter m).map Ticket.number →
      exec (.ticketList tag [byteOf f, p]) s =
        .next (s.acks 0x49#8 tag
          (.ticketList f (min 3 p.toNat) ns.length ((ns.drop (32 * min 3 p.toNat)).take 32))))

/-! ## Requests that change one setting -/

/-- INTERVAL-SET, HOLD-LIMIT-SET, STEP-SET and ROLLUP-SET take their values clamped to their ranges and change nothing else
(R9, R34, R110, R140, R184). -/
def Obligations.SettingsTakeClampedValues : Prop :=
  ∀ (s : State) (tag : Byte), Ready s tag →
    (∀ (c : Byte) (u : IntervalUnit) (i : ReleaseInterval), i = ⟨max 1 (min 63 c.toNat), u⟩ →
      exec (.intervalSet tag [0#8, c, u.code]) s =
        .next ({ s with store := { s.store with intervalA := i } }.acks 0x1E#8 tag (.interval .a i)) ∧
      exec (.intervalSet tag [1#8, c, u.code]) s =
        .next ({ s with store := { s.store with intervalB := i } }.acks 0x1E#8 tag (.interval .b i))) ∧
    (∀ (p : Nat) (m : Byte), 1 ≤ p → p ≤ 4 →
      ∃ t, exec (.holdLimitSet tag [byteOf p, m]) s = .next t ∧
        t.holdLimitOf p = max 1 (min 60 m.toNat) ∧ (∀ q, q ≠ p → t.holdLimitOf q = s.holdLimitOf q) ∧
        t.link = (s.acks 0x30#8 tag (.holdLimit p (max 1 (min 60 m.toNat)))).link ∧ t.port = [] ∧
        { t with port := s.port, link := s.link, sched := { t.sched with holdLimits := s.sched.holdLimits } } = s) ∧
    (∀ (k : StepKind) (period phase : Nat) (post disc samples level : Byte) (r : MeasureRange) (e : StepEntry),
      period < 65536 → phase < 65536 →
      e.period = max 8 (min 8000 period) → e.phase = min (e.period - 1) phase → e.post = max 1 (min 16 post.toNat) →
      e.discard = min 15 disc.toNat → e.samples = max (if k = .cap then 2 else 1) (min 64 samples.toNat) →
      e.level = (if k = .fv then none else some (min 3 level.toNat)) →
      e.startRange = (if k = .fv ∨ k = .cap then .lo else r) →
      ∃ t, exec (.stepSet tag (k.code :: (word period ++ word phase ++ [post, disc, samples, level, r.code]))) s = .next t ∧
        t.engine.steps.entry k = e ∧ (∀ j, j ≠ k → t.engine.steps.entry j = s.engine.steps.entry j) ∧
        t.link = (s.acks 0x3D#8 tag (.stepEntry k e)).link ∧ t.port = [] ∧
        { t with port := s.port, link := s.link, engine := { t.engine with steps := s.engine.steps } } = s) ∧
    (∀ (n w x : Byte) (n' w' x' : Nat),
      n' = (if n = 0#8 then s.tickets.rollCount else max 2 (min 32 n.toNat)) →
      w' = (if w = 0#8 then s.tickets.rollWindow else w.toNat) →
      x' = (if x = 0#8 then s.tickets.stormWindow else x.toNat) →
      exec (.rollupSet tag [n, w, x]) s =
        .next ({ s with tickets := { s.tickets with rollCount := n', rollWindow := w', stormWindow := x' } }.acks
          0x4B#8 tag (.rollup n' w' x')))

/-! ## Bus Watch -/

/-- WATCH-SET with bus 6 sets the guard window length alone (its ACK's other fields are the model's choice, log 35); about a bus
out of IDLE it changes the settings named by their codes, in the watch record and in the owner job's record, and nothing else
where no level condition holds (R72, R74). WATCH-CLEAR clears pending on the buses of its mask and on no other, and its ACK
carries the flags that stand after it; here no bus of the mask has a level mode (R73). -/
def Obligations.WatchRequestsChangeSettingsAndPending : Prop :=
  (∀ (s : State) (tag n g : Byte) (gl : Nat), Ready s tag → gl = (if g = 0#8 then s.watches.guardLength else min 50 g.toNat) →
     (∀ m x y : Byte,
       exec (.watchSet tag [6#8, m, n, x, y, g]) s =
         .next ({ s with watches := { s.watches with guardLength := gl } }.acks 0x20#8 tag
           (.watch 6 WatchSettings.initial none none gl))) ∧
     (∀ (b : Bus) (id : Nat) (mo : Option WatchMode) (ba : Option WatchBase) (ac : Option WatchAction) (w : WatchSettings),
       w = ⟨mo.getD (s.watchRec b).settings.mode, if n = 0xFF#8 then (s.watchRec b).settings.n else min 7 n.toNat,
         ba.getD (s.watchRec b).settings.base, ac.getD (s.watchRec b).settings.action⟩ →
       Calm s → (s.busRec b).owner = some id → (s.busRec b).access ≠ .idle → levelCause w.mode (s.watchRec b).loop = none →
       exec (.watchSet tag [byteOf b.val, codeOr 0xFF#8 WatchMode.code mo, n, codeOr 0xFF#8 WatchBase.code ba,
           codeOr 0xFF#8 WatchAction.code ac, g]) s =
         .next ((({ s with watches := { s.watches with guardLength := gl } }.updJob id fun j => { j with watch := w }).setWatchRec b
           { s.watchRec b with settings := w }).acks 0x20#8 tag
             (.watch b.val w (some (s.watchRec b).pending) (some (s.watchRec b).loop) gl)))) ∧
  (∀ (s : State) (tag : Byte) (m : BusSet), Ready s tag → Calm s →
     (∀ b, inSet m b = true → (s.watchRec b).settings.mode ≠ .loopPresent ∧ (s.watchRec b).settings.mode ≠ .loopAbsent) →
     ∃ (p : BusSet) (t : State), exec (.watchClear tag [maskByte m]) s = .next t ∧
       (∀ b, t.watchRec b = { s.watchRec b with pending := (s.watchRec b).pending && !inSet m b }) ∧
       (∀ b, inSet p b = ((s.watchRec b).pending && !inSet m b)) ∧
       t.link = (s.acks 0x21#8 tag (.watchPending p)).link ∧ t.port = [] ∧
       { t with port := s.port, link := s.link, watches := { t.watches with records := s.watches.records } } = s)

/-! ## The Hazard Unit's requests -/

/-- HAZARD-SET changes the enable set by its form, the mode and the actions by their codes, and the hold time; with no condition
of the hazard in effect and no bus in a hazard state nothing else follows (R77). HAZARD-CLEAR about one input: a LATCHED condition
in effect takes the clear while its input is not GONE; with the input GONE it ends and CLEARED is raised (here on a bus that the
condition does not apply to); and a condition that is not in effect is left alone (R78, R79, R90). -/
def Obligations.HazardRequestsChangeSettingsAndClear : Prop :=
  (∀ (s : State) (tag hold : Byte) (h : Hazard) (mo : Option HazardMode) (f : SetForm) (m : BusSet) (iso : Option BusSet)
     (old new : HazardSettings),
     Ready s tag → Calm s → (∀ b, s.inEffectAt h b = false) → (∀ b, (s.hazardRec b).state = .none) →
     (∀ b, (s.condition (inputAt h b)).clearTaken = false) →
     old = (match h with | .a => s.hazards.settingsA | .b => s.hazards.settingsB) →
     new = ⟨mo.getD old.mode,
       (match f with | .add => old.enable ||| m | .remove => old.enable &&& ~~~m | .replace => m), iso.getD old.isolate⟩ →
     ∃ t, exec (.hazardSet tag [h.code, codeOr 0xFF#8 HazardMode.code mo, f.code, maskByte m, codeOr 0xFF#8 maskByte iso, hold])
         s = .next t ∧
       t.hazards.settingsA = (match h with | .a => new | .b => s.hazards.settingsA) ∧
       t.hazards.settingsB = (match h with | .a => s.hazards.settingsB | .b => new) ∧
       t.hazards.holdTime = (if hold = 0#8 then s.hazards.holdTime else hold.toNat) ∧
       (∀ b, t.hazardRec b = s.hazardRec b) ∧ t.hazards.storm = s.hazards.storm ∧
       t.link = (s.acks 0x22#8 tag (.hazard (t.hazardView h))).link ∧ t.port = [] ∧
       { t with port := s.port, link := s.link, hazards := s.hazards } = s) ∧
  (∀ (s : State) (tag : Byte) (b : Bus), Ready s tag → Calm s → s.hazards.settingsA.mode = .latched →
     ((s.hazardRec b).a.inEffect = true → (s.hazardRec b).a.input ≠ .gone →
       ∀ s', s' = s.setHazardRec b { s.hazardRec b with a := { (s.hazardRec b).a with clearTaken := true } } →
       exec (.hazardClear tag [1#8 <<< b.val]) s =
         .next (s'.acks 0x23#8 tag (.hazardClear (s'.conditionMask (·.inEffect)) (s'.conditionMask (·.clearTaken))))) ∧
     ((s.hazardRec b).a.inEffect = true → (s.hazardRec b).a.input = .gone → inSet s.hazards.settingsA.enable b = false →
       ∀ s', s' = s.setHazardRec b { s.hazardRec b with a := ⟨.gone, false, false⟩ } →
       exec (.hazardClear tag [1#8 <<< b.val]) s =
         .next (s'.acksTelling 0x23#8 tag
           (.hazardClear (s'.conditionMask (·.inEffect)) (s'.conditionMask (·.clearTaken)))
           [.hazard ⟨.cleared, .a, some b, false, 0#6, none, none, s.link.time⟩])) ∧
     ((s.hazardRec b).a.inEffect = false →
       exec (.hazardClear tag [1#8 <<< b.val]) s =
         .next (s.acks 0x23#8 tag (.hazardClear (s.conditionMask (·.inEffect)) (s.conditionMask (·.clearTaken))))))

/-! ## The Job Scheduler's requests -/

/-- TEST of a desk position, GUARDED, NORMAL and with no watch settings of its own, for an equipped line of an enabled group that no
job names: the job enters QUEUED with the next id and its JOB-STATE is raised, and it stays QUEUED while its group is taken or no bus
of its route is allocatable. With the group free and a bus allocatable it starts in the same event on the lowest such bus: the bus
guards the line, its bridge operates, the class snapshot is taken and the guard window runs (R42, R62, R64, R74, R92, R95, R97, R99,
R100). For the line of an AUTO job in WAIT-HEAD, it takes the line over: ownership, bus, class snapshot and watch pass, the AUTO job is
removed TAKEN and the new one stands in WAIT-HEAD with the note TAKEOVER, even in a full table (R50, R74, R112). An URGENT one that
meets a full table evicts the QUEUED sweep job, and one that finds no bus of its route allocatable preempts the sweep job that holds
such a bus and records its claim; the sweep job's line joins the revisit list with reason PREEMPTED (R97, R114, R129). In these three no
head is IDLE, the sweep does not run and no job but those named is QUEUED or of the sweep.
The wait-head order and time 0 of a job that has not yet waited are the model's choice (log 44), and so is that at a takeover the desk
job takes its id while the job it takes over still holds its own (DESIGN CHOICE, log 50). That an evicted job has left before the id
is taken is read from the order of R97 (DEDUCED, log 50). -/
def Obligations.TestQueuesOrStarts : Prop :=
  (∀ (s : State) (tag x y z : Byte) (p line : Nat) (r : List RecipeStep) (keep : Bool) (j : Job),
    Ready s tag → Settled s → 1 ≤ p → p ≤ 4 → line ≤ 4095 → (s.dirEntry line).cls ≠ 0 →
    (s.route (line / 64)).enabled = true → 1 ≤ r.length → r.length ≤ 8 →
    (∀ st ∈ r, st.kind = .lr ∨ st.kind = .cap → st.leg = .ab) → (∀ k ∈ s.sched.jobs, k.line ≠ line) →
    (s.sched.jobs.filter fun k => k.source == .desk p).length < 4 → s.sched.jobs.length < 16 →
    j = { id := s.nextId, source := .desk p, line := line, recipe := r, access := .guarded, kept := .guarded
          priority := .normal, keep := keep, watch := WatchSettings.ofDesk, snapshot := none, state := .queued
          queueOrder := s.sched.nextQueue, startMark := none, bus := none, head := none, step := 0, results := []
          losses := 0, queuedTime := s.link.time, waitOrder := 0, waitTime := 0#32, holdLimit := none, hazardHold := none
          suspendedFrom := none, outcome := none, takeover := none, claim := none, verdict := none, due := none
          verification := false } →
    ((∃ b l, (s.busRec b).line = some l ∧ l / 64 = line / 64) ∨
        (∀ b, inSet (s.route (line / 64)).allowed b = true → s.allocatable b = false) →
      exec (.test tag (byteOf p :: (word line ++ [1#8, 0#8, flag keep, 0xFF#8, x, y, z] ++ recipeBytes r))) s =
        .next ({ s with sched := { s.sched with
            jobs := s.sched.jobs ++ [j], lastId := s.nextId, nextQueue := s.sched.nextQueue + 1 } }.acksTelling 0x28#8 tag
          (.test s.nextId (some .queued) 0 0 0 WatchSettings.ofDesk)
          [.jobState ⟨s.nextId, .desk p, line, .queued, none, none, 0, .none, 0, none, s.link.time⟩])) ∧
    (∀ (b : Bus) (timer : Option DebounceTimer),
      timer = (if s.rawLoop b then some ⟨16, .present, s.now + 16⟩ else none) →
      (∀ b' l, (s.busRec b').line = some l → l / 64 ≠ line / 64) →
      inSet (s.route (line / 64)).allowed b = true → s.allocatable b = true →
      (∀ b' : Bus, b' < b → inSet (s.route (line / 64)).allowed b' = true → s.allocatable b' = false) →
      (s.watchRec b).loop = .absent →
      exec (.test tag (byteOf p :: (word line ++ [1#8, 0#8, flag keep, 0xFF#8, x, y, z] ++ recipeBytes r))) s =
        .next ((((({ s with sched := { s.sched with
            jobs := s.sched.jobs ++ [{ j with
              state := .accessing, startMark := some s.sched.nextStart, bus := some b
              snapshot := some ⟨(s.dirEntry line).cls, s.profile (s.dirEntry line).cls⟩ }]
            lastId := s.nextId, nextQueue := s.sched.nextQueue + 1, nextStart := s.sched.nextStart + 1 } }.setGroupSel
              (line / 64) (some b)).setRelays line { s.relaysOf line with bridge := true }).setBusRec b
              { BusRecord.initial with access := .guard, line := some line, owner := some s.nextId }).setWatchRec b
              { settings := WatchSettings.ofDesk, pending := (s.watchRec b).pending, loop := .absent, timer := timer
                guard := some (s.now + s.watches.guardLength * 80) }).acksTelling 0x28#8 tag
          (.test s.nextId (some .accessing) 0 0 0 WatchSettings.ofDesk)
          [.jobState ⟨s.nextId, .desk p, line, .accessing, some b, none, 0, .none, 0, none, s.link.time⟩]))) ∧
  (∀ (s : State) (tag x y z prio : Byte) (p line id : Nat) (r : List RecipeStep) (keep : Bool) (j : Job),
    Ready s tag → (∀ b, (s.hazardRec b).exit = none) → (∀ h, (s.headRec h).state ≠ .idle) → s.sweep.state ≠ .running →
    1 ≤ p → p ≤ 4 → line ≤ 4095 → (s.dirEntry line).cls ≠ 0 → (s.route (line / 64)).enabled = true →
    1 ≤ r.length → r.length ≤ 8 → (∀ st ∈ r, st.kind = .lr ∨ st.kind = .cap → st.leg = .ab) →
    (s.sched.jobs.filter fun k => k.source == .desk p).length < 4 →
    j = { id := id, source := .desk p, line := line, recipe := r, access := .guarded, kept := .guarded
          priority := if prio = 1#8 then .urgent else .normal, keep := keep, watch := WatchSettings.ofDesk, snapshot := none
          state := .queued, queueOrder := s.sched.nextQueue, startMark := none, bus := none, head := none, step := 0
          results := [], losses := 0, queuedTime := s.link.time, waitOrder := 0, waitTime := 0#32, holdLimit := none
          hazardHold := none, suspendedFrom := none, outcome := none, takeover := none, claim := none, verdict := none
          due := none, verification := false } →
    (∀ (o : Job) (b : Bus), prio = 0#8 → id = s.nextId → s.sched.jobs.length ≤ 16 → s.job? o.id = some o →
      o.source = .auto → o.line = line → o.state = .waitHead → o.bus = some b → o.head = none →
      (∀ k ∈ s.sched.jobs, k.state ≠ .queued ∧ k.takeover ≠ some o.id ∧ k.claim ≠ some o.id ∧ (k.line = line → k = o)) →
      (s.busRec b).access = .connected →
      exec (.test tag (byteOf p :: (word line ++ [1#8, prio, flag keep, 0xFF#8, x, y, z] ++ recipeBytes r))) s =
        .next ((({ s with sched := { s.sched with
            jobs := (s.sched.jobs.filter fun k : Job => k.id != o.id) ++ [{ j with
              state := .waitHead, bus := some b, waitOrder := s.sched.nextWait, waitTime := s.link.time
              snapshot := some ⟨(s.dirEntry line).cls, s.profile (s.dirEntry line).cls⟩ }]
            lastId := id, nextQueue := s.sched.nextQueue + 1, nextWait := s.sched.nextWait + 1 } }.setBusRec b
              { s.busRec b with owner := some id }).setWatchRec b
              { s.watchRec b with settings := WatchSettings.ofDesk, pending := false }).acksTelling 0x28#8 tag
          (.test id (some .waitHead) 0 o.id 0 WatchSettings.ofDesk)
          [.jobResult ⟨o.id, .taken, .auto, line, s.link.time, o.verification, none, o.results⟩,
           .jobState ⟨id, .desk p, line, .waitHead, some b, none, 0, .takeover, 0, none, s.link.time⟩])) ∧
    (∀ (k : Job) (n : Nat) (joined : List RevisitEntry), prio = 1#8 → s.job? k.id = some k → k.source = .sweep →
      (∀ m ∈ s.sched.jobs, m.line ≠ line ∧ m.takeover ≠ some k.id ∧ m.claim ≠ some k.id ∧ (m.id = k.id → m = k) ∧
        (m.id ≠ k.id → m.state ≠ .queued ∧ m.source ≠ .sweep)) →
      (∀ e ∈ s.sweep.revisit, e.line ≠ k.line) → s.sweep.revisit.length < 16 → n = s.sweep.attemptsOf k.id + 1 → n ≤ 3 →
      joined = s.sweep.revisit ++ [⟨k.line, .preempted, n, s.now + 480000⟩] →
      (∀ b, inSet (s.route (line / 64)).allowed b = true → s.allocatable b = false) →
      (s.sched.jobs.length = 16 → k.state = .queued → k.head = none →
        id = ({ s with sched := { s.sched with jobs := s.sched.jobs.filter fun m => m.id != k.id } } : State).nextId →
        exec (.test tag (byteOf p :: (word line ++ [1#8, prio, flag keep, 0xFF#8, x, y, z] ++ recipeBytes r))) s =
          .next ({ s with
            sched := { s.sched with
              jobs := (s.sched.jobs.filter fun m : Job => m.id != k.id) ++ [j], lastId := id, nextQueue := s.sched.nextQueue + 1 }
            sweep := { s.sweep with revisit := joined, notes := s.sweep.notes.filter fun m => m.job != k.id } }.acksTelling
            0x28#8 tag (.test id (some .queued) 0 0 k.id WatchSettings.ofDesk)
            [.jobResult ⟨k.id, .preempted, .sweep, k.line, s.link.time, k.verification, none, k.results⟩,
             .jobState ⟨id, .desk p, line, .queued, none, none, 0, .none, 0, none, s.link.time⟩])) ∧
      (∀ (b : Bus) (l d : Nat) (rec : BusRecord), s.sched.jobs.length < 16 → id = s.nextId → k.state = .waitHead →
        k.head = none → k.bus = some b → inSet (s.route (line / 64)).allowed b = true → rec = s.busRec b →
        rec.access = .connected → rec.owner = some k.id → rec.line = some l → rec.speech = none → rec.head = none →
        (∀ b' l', (s.busRec b').line = some l' → l' / 64 ≠ line / 64) →
        d = (s.intervalOf (s.route (l / 64)).restore).duration →
        exec (.test tag (byteOf p :: (word line ++ [1#8, prio, flag keep, 0xFF#8, x, y, z] ++ recipeBytes r))) s =
          .next (((({ s with
            sched := { s.sched with
              jobs := (s.sched.jobs.map fun m : Job => if m.id = k.id then { m with
                  state := .releasing, outcome := some .preempted, holdLimit := none, hazardHold := none
                  suspendedFrom := none } else m) ++ [{ j with claim := some k.id }]
              lastId := id, nextQueue := s.sched.nextQueue + 1 }
            sweep := { s.sweep with revisit := joined } }.setRelays l { s.relaysOf l with testPath := false }).setBusRec b
            { rec with access := .releasing, func := .none, interval := some ⟨.restore, d, s.now + d⟩
                       reserveMark := false }).setWatchRec b
            { s.watchRec b with timer := none, guard := none }).acksTelling
            0x28#8 tag (.test id (some .queued) 0 0 0 WatchSettings.ofDesk)
            [.jobState ⟨id, .desk p, line, .queued, none, none, 0, .none, 0, none, s.link.time⟩,
             .jobState ⟨k.id, .sweep, k.line, .releasing, some b, none, k.step, .none, k.losses, none, s.link.time⟩]))))

/-- A new job's id is the first, counting up from the last one given and from 255 to 1, that names no job (R92). -/
def Obligations.NewJobIdIsTheNextFreeOne : Prop :=
  ∀ (s : State) (next : Nat → Nat), (∀ n, next n = if 255 ≤ n then 1 else n + 1) → s.sched.jobs.length ≤ 16 →
    1 ≤ s.nextId ∧ s.nextId ≤ 255 ∧ s.job? s.nextId = none ∧
    ∃ k, s.nextId = Nat.repeat next (k + 1) s.sched.lastId ∧ ∀ i, i < k → (s.job? (Nat.repeat next (i + 1) s.sched.lastId)).isSome

/-- CUT in its FORCED form on a MONITORING job: the bridge releases and the exchange cut opens, the access enters CUTTING with
the connect interval of the line's group taken now, the job returns to ACCESSING with its kept mode FORCED, and its JOB-STATE
says whether the loop was busy (R46, R105). -/
def Obligations.ForcedCutOpensTheLine : Prop :=
  ∀ (s : State) (tag : Byte) (id line d : Nat) (j : Job) (b : Bus) (r : BusRecord),
    Ready s tag → Calm s → 1 ≤ id → id ≤ 255 → s.job? id = some j → j.state = .monitoring → j.bus = some b →
    r = s.busRec b → r.access = .monitor → r.line = some line → r.speech = none →
    d = (s.intervalOf (s.route (line / 64)).connect).duration →
    exec (.cut tag [byteOf id, 1#8]) s =
      .next (((((s.updJob id fun k => { k with kept := .forced, holdLimit := none, state := .accessing }).setRelays line
          { s.relaysOf line with bridge := false, cutOpen := true }).setBusRec b
          { r with access := .cutting, interval := some ⟨.connect, d, s.now + d⟩ }).setWatchRec b
          { s.watchRec b with timer := none, guard := none }).acksTelling 0x29#8 tag (.job id (some .accessing))
        [.jobState ⟨id, j.source, j.line, .accessing, some b, j.head, j.step,
          if (s.watchRec b).loop = .present then .forcedOverLoop else .forcedIdle, j.losses, none, s.link.time⟩])

/-- SPEAK joins the position's circuit to a HELD job's bus in TALK, or to a MONITORING job's in LISTEN, and HOLD takes it off;
each restarts the hold limit (R49, R106, R110). -/
def Obligations.SpeakAttachesAndHoldDetaches : Prop :=
  ∀ (s : State) (tag : Byte) (id p : Nat) (j : Job) (b : Bus) (m : Option Moment),
    Ready s tag → 1 ≤ id → id ≤ 255 → s.job? id = some j → (∀ k ∈ s.sched.jobs, k.id = id → k = j) →
    j.source = .desk p → j.bus = some b → m = some (s.now + s.holdLimitOf p * 480000) →
    ((∀ b', b' ≠ b → ∀ sp, (s.busRec b').speech = some sp → sp.position ≠ p) → (s.busRec b).speech = none →
      (j.state = .held → (s.busRec b).access = .connected → (s.busRec b).func = .hold →
        exec (.speak tag [byteOf id]) s =
          .next ((((s.setSpeechSel b (some ⟨p, .talk⟩)).setBusRec b
              { s.busRec b with speech := some ⟨p, .talk⟩, func := .speak }).updJob id fun _ => { j with holdLimit := m }).acks
            0x2A#8 tag (.speech id (some ⟨p, .talk⟩)))) ∧
      (j.state = .monitoring → (s.busRec b).access = .monitor →
        exec (.speak tag [byteOf id]) s =
          .next ((((s.setSpeechSel b (some ⟨p, .listen⟩)).setBusRec b
              { s.busRec b with speech := some ⟨p, .listen⟩ }).updJob id fun _ => { j with holdLimit := m }).acks
            0x2A#8 tag (.speech id (some ⟨p, .listen⟩))))) ∧
    (j.state = .held ∨ j.state = .monitoring → (s.busRec b).speech.isSome →
      exec (.hold tag [byteOf id]) s =
        .next ((((s.setSpeechSel b none).setBusRec b { s.busRec b with
            speech := none, func := if (s.busRec b).func = .speak then .hold else (s.busRec b).func }).updJob id fun _ =>
              { j with holdLimit := m }).acks 0x2B#8 tag (.speech id none)))

/-- RETEST of a HELD job whose recipe passes the checks: its results, step index and held verdict are cleared, its access mode is
its kept one where it was MONITOR-ONLY, and it enters WAIT-HEAD with the next wait-head order; here no head is IDLE and the job
is not URGENT (R102, R107). R107 gives the kept form to a MONITOR-ONLY job that has been cut; that one which a takeover brought to HELD
and no CUT reached has it too is the model's choice (DESIGN CHOICE, log 47). -/
def Obligations.RetestReplacesTheRecipe : Prop :=
  ∀ (s : State) (tag : Byte) (id : Nat) (j : Job) (r : List RecipeStep),
    Ready s tag → Calm s → 1 ≤ id → id ≤ 255 → s.job? id = some j → j.state = .held → j.priority ≠ .urgent →
    (∀ b, j.bus = some b → (s.busRec b).speech = none) → (∀ h, (s.headRec h).state ≠ .idle) →
    1 ≤ r.length → r.length ≤ 8 → (∀ st ∈ r, st.kind = .lr ∨ st.kind = .cap → st.leg = .ab) →
    exec (.retest tag (byteOf id :: recipeBytes r)) s =
      .next (({ s with sched := { s.sched with nextWait := s.sched.nextWait + 1 } }.updJob id fun k =>
          { k with
            recipe := r, results := [], step := 0, verdict := none, holdLimit := none, hazardHold := none, state := .waitHead
            access := if k.access = AccessMode.monitorOnly then k.kept else k.access
            waitOrder := s.sched.nextWait, waitTime := s.link.time }).acksTelling 0x2C#8 tag (.job id (some .waitHead))
        [.jobState ⟨id, j.source, j.line, .waitHead, j.bus, j.head, 0, .none, j.losses, none, s.link.time⟩])

/-- RELEASE and JOB-CANCEL of a HELD job on a CONNECTED bus: the test path opens, the access enters RELEASING with the restore
interval taken now, and the job enters RELEASING to be removed CANCELLED. The hold limit of a HELD job on a CONNECTED bus, and the
hazard hold of a SUSPENDED job on a PARKED one, do the same, to be removed with TIMEOUT and with HAZARD-FAIL (R51, R52, R88, R108,
R110). -/
def Obligations.JobsAreReleasedByRequestAndByDeadline : Prop :=
  (∀ (s : State) (tag : Byte) (id line d : Nat) (j : Job) (b : Bus) (r : BusRecord) (s' : State),
     Ready s tag → Calm s → 1 ≤ id → id ≤ 255 → s.job? id = some j → j.state = .held → j.bus = some b → j.head = none →
     r = s.busRec b → r.access = .connected → r.owner = some id → r.line = some line → r.speech = none → r.head = none →
     d = (s.intervalOf (s.route (line / 64)).restore).duration →
     s' = ((((s.updJob id fun k => { k with state := .releasing, outcome := some .cancelled, holdLimit := none
                                            hazardHold := none, suspendedFrom := none }).setRelays line
         { s.relaysOf line with testPath := false }).setBusRec b
         { r with access := .releasing, func := .none, interval := some ⟨.restore, d, s.now + d⟩, reserveMark := false }).setWatchRec
         b { s.watchRec b with timer := none, guard := none }) →
     ∀ rep, rep = [Report.jobState ⟨id, j.source, j.line, .releasing, some b, none, j.step, .none, j.losses, none,
         s.link.time⟩] →
     exec (.release tag [byteOf id]) s = .next (s'.acksTelling 0x2D#8 tag (.job id (some .releasing)) rep) ∧
     exec (.jobCancel tag [byteOf id]) s = .next (s'.acksTelling 0x2E#8 tag (.job id (some .releasing)) rep)) ∧
  (∀ (s : State) (id line d : Nat) (j : Job) (b : Bus) (r : BusRecord) (m n : Moment) (after : JobOutcome → State)
     (rep : List Report),
     Calm s → s.job? id = some j → j.bus = some b → j.head = none → r = s.busRec b → r.owner = some id →
     r.line = some line → r.speech = none → r.head = none → n = max s.now m →
     d = (s.intervalOf (s.route (line / 64)).restore).duration →
     (∀ o, after o = (({ s with now := n }.updJob id fun k => { k with
         state := .releasing, outcome := some o, holdLimit := none, hazardHold := none, suspendedFrom := none }).setBusRec b
         { r with access := .releasing, func := .none, interval := some ⟨.restore, d, n + d⟩, reserveMark := false })) →
     rep = [.jobState ⟨id, j.source, j.line, .releasing, some b, none, j.step, .none, j.losses, none, s.link.time⟩] →
     (j.state = .held → j.holdLimit = some m → r.access = .connected →
       exec (.holdLimitExpiry id) s =
         .next ((((after .timeout).setRelays line { s.relaysOf line with testPath := false }).setWatchRec b
           { s.watchRec b with timer := none, guard := none }).tells rep)) ∧
     (j.state = .suspended → j.hazardHold = some m → r.access = .parked → r.func = .none →
       exec (.hazardHoldExpiry id) s =
         .next (((after .hazardFail).setWatchRec b { s.watchRec b with guard := none }).tells rep)))

/-- JOB-READ answers the job's record as it stands with its bus's access state and loop-sense, and restarts the hold limit of a
HELD or MONITORING desk job before it does (R109, R110). -/
def Obligations.JobReadAnswersTheRecord : Prop :=
  ∀ (s : State) (tag : Byte) (id : Nat) (j : Job),
    Ready s tag → 1 ≤ id → id ≤ 255 → s.job? id = some j → (∀ k ∈ s.sched.jobs, k.id = id → k = j) →
    (j.state ≠ .held → j.state ≠ .monitoring →
      exec (.jobRead tag [byteOf id]) s = .next (s.acks 0x2F#8 tag
        (.jobRead j (j.bus.map fun b => (s.busRec b).access) (j.bus.bind s.loopSense)))) ∧
    (∀ p j', j' = { j with holdLimit := some (s.now + s.holdLimitOf p * 480000) } →
      j.source = .desk p → j.state = .held ∨ j.state = .monitoring →
      exec (.jobRead tag [byteOf id]) s = .next ((s.updJob id fun _ => j').acks 0x2F#8 tag
        (.jobRead j' (j.bus.map fun b => (s.busRec b).access) (j.bus.bind s.loopSense))))

/-! ## The Sweep Unit -/

/-- SWEEP-START enters RUNNING, or HELD while the storm condition is in effect, with the pace timer EXPIRED, and from RUNNING or
HELD changes nothing; SWEEP-STOP enters STOPPED; SWEEP-DEFAULT returns the unit to its reset values but for the pass number and
the issue notes, whose attempts become 0; SWEEP-SET takes its settings clamped. No sweep job can be issued here: as many are in the
table as the concurrency allows, or the sweep does not run (R118 to R121). -/
def Obligations.SweepRequestsChangeTheSweep : Prop :=
  ∀ (s : State) (tag : Byte), Ready s tag → Calm s →
    (s.sweep.state = .stopped → s.hazards.storm.inEffect = true →
      exec (.sweepStart tag []) s = .next ({ s with sweep := { s.sweep with state := .held, timer := .expired } }.acks
        0x34#8 tag (.sweepState .held s.sweep.cursor s.sweep.pass .expired))) ∧
    (s.sweep.state = .stopped → s.hazards.storm.inEffect = false →
      s.sweep.concurrency ≤ (s.sched.jobs.filter fun k => k.source == .sweep).length →
      exec (.sweepStart tag []) s = .next ({ s with sweep := { s.sweep with state := .running, timer := .expired } }.acks
        0x34#8 tag (.sweepState .running s.sweep.cursor s.sweep.pass .expired))) ∧
    (s.sweep.state ≠ .stopped →
      exec (.sweepStart tag []) s = .next (s.acks 0x34#8 tag
        (.sweepState s.sweep.state s.sweep.cursor s.sweep.pass (paceView s.now s.sweep.timer)))) ∧
    exec (.sweepStop tag []) s = .next ({ s with sweep := { s.sweep with state := .stopped, timer := .none } }.acks
      0x35#8 tag (.sweepState .stopped s.sweep.cursor s.sweep.pass .none)) ∧
    exec (.sweepDefault tag []) s =
      .next ({ s with sweep :=
        { state := .stopped, pace := 20, concurrency := 1, passMode := .single, mask := BitVec.allOnes 64, timer := .none
          cursor := 0, pass := s.sweep.pass, stats := ⟨0, 0, 0, 0, 0⟩, revisit := []
          notes := s.sweep.notes.map fun n : IssueNote => ⟨n.job, n.line, 0, n.stays⟩ } }.acks
        0x36#8 tag (.sweepState .stopped 0 s.sweep.pass .none)) ∧
    (∀ (pace conc : Byte) (mo : Option PassMode) (f : SetForm) (m : BitVec 64) (w : Sweep),
      w = { s.sweep with
        pace := if pace = 0#8 then s.sweep.pace else pace.toNat
        concurrency := if conc = 0#8 then s.sweep.concurrency else min 2 conc.toNat
        passMode := mo.getD s.sweep.passMode
        mask := (match f with | .add => s.sweep.mask ||| m | .remove => s.sweep.mask &&& ~~~m | .replace => m) } →
      s.sweep.state ≠ .running →
      exec (.sweepSet tag ([pace, conc, codeOr 0xFF#8 PassMode.code mo, f.code] ++ long m.toNat ++ long (m.toNat / 2 ^ 32))) s =
        .next ({ s with sweep := w }.acks 0x37#8 tag (.sweepSettings w.pace w.concurrency w.passMode w.mask w.state)))

/-- The pace timer runs out: it is EXPIRED and, in a sweep that may issue, a job for the eligible line at the cursor enters the
table QUEUED under its issue note, the cursor moves past the line and the pace timer starts again; here no ticket is verify-due,
no revisit entry stands and no bus can start the job (R122 to R124, R126).
The wait-head order and time 0 of a job that has not yet waited are the model's choice (log 44). -/
def Obligations.PaceTimerIssuesTheCursorLine : Prop :=
  ∀ (s : State) (m : Moment) (n : Moment) (line : Nat), s.sweep.timer = .running m → n = max s.now m →
    (s.sweep.state ≠ .running → Calm s →
      exec .paceTimerExpiry s = .next ({ s with now := n, sweep := { s.sweep with timer := .expired } }.tells [])) ∧
    (s.sweep.state = .running → (∀ b, (s.hazardRec b).exit = none) →
      (∀ j ∈ s.sched.jobs, j.state ≠ .waitHead ∧ j.state ≠ .queued ∧ j.source ≠ .sweep ∧ j.line ≠ line) →
      s.pins.supplyGood = true → 1 ≤ s.sweep.concurrency → s.sched.jobs.length < 16 → s.sweep.cursor = line → line < 4095 →
      s.sweep.revisit = [] → (∀ t ∈ s.tickets.table, t.verifyDue = false ∧ t.state ≠ .dispatched ∧ t.line ≠ some line) →
      s.sweep.mask.getLsbD (line / 64) = true → (s.route (line / 64)).enabled = true → (s.dirEntry line).cls ≠ 0 →
      (s.dirEntry line).inService = true →
      (∀ b, inSet (s.route (line / 64)).allowed b = true → s.allocatable b = false) →
      exec .paceTimerExpiry s =
        .next ({ s with
          now := n
          sched := { s.sched with
            jobs := s.sched.jobs ++ [({
              id := s.nextId, source := .sweep, line := line, recipe := fullRecipe, access := .guarded, kept := .guarded
              priority := .routine, keep := false, watch := WatchSettings.ofSweep, snapshot := none, state := .queued
              queueOrder := s.sched.nextQueue, startMark := none, bus := none, head := none, step := 0, results := []
              losses := 0, queuedTime := s.link.time, waitOrder := 0, waitTime := 0#32, holdLimit := none, hazardHold := none
              suspendedFrom := none, outcome := none, takeover := none, claim := none, verdict := none, due := none
              verification := false } : Job)]
            lastId := s.nextId, nextQueue := s.sched.nextQueue + 1 }
          sweep := { s.sweep with
            timer := .running (n + s.sweep.pace * 800), cursor := line + 1, notes := s.sweep.notes ++ [(⟨s.nextId, line, 0, false⟩ : IssueNote)]
            stats := { s.sweep.stats with skipped := min 65535 s.sweep.stats.skipped } } }.tells
          [.jobState ⟨s.nextId, .sweep, line, .queued, none, none, 0, .none, 0, none, s.link.time⟩]))

/-! ## Heads -/

/-- HEAD-ACCEPT makes a REPLACED or FAILED head IDLE with its missing-run count 0, changes nothing about a head in service, and is
refused for an ABSENT one (R135). The loss of presence makes a head ABSENT with no bus, step or time base, and its return makes an
ABSENT head REPLACED and no other head anything (R134); while a reset is under way only the input's level is followed (log 7). A
SUSPENDED job whose reserved head goes ABSENT stays SUSPENDED with one loss more, and its first two such losses end nothing else (R87,
R104); that its JOB-STATE carries HEAD-LOST is the model's (DEDUCED, log 20). That the configure standing at a head stays through the
loss of presence and through HEAD-ACCEPT is the model's choice (DESIGN CHOICE, log 41). -/
def Obligations.HeadsAreLostAndAccepted : Prop :=
  (∀ (s : State) (tag : Byte) (h : Head), Ready s tag →
     ((s.headRec h).state = .replaced ∨ (s.headRec h).state = .failed → Calm s →
       exec (.headAccept tag [byteOf h.val]) s =
         .next ((s.setHeadRec h { HeadRecord.initial with standing := (s.headRec h).standing }).acks 0x3C#8 tag
           (.head h .idle none))) ∧
     ((s.headRec h).state = .idle ∨ (s.headRec h).state = .attached ∨ (s.headRec h).state = .reserved →
       exec (.headAccept tag [byteOf h.val]) s =
         .next (s.acks 0x3C#8 tag (.head h (s.headRec h).state (s.headRec h).bus))) ∧
     ((s.headRec h).state = .absent →
       exec (.headAccept tag [byteOf h.val]) s = .next (s.answers 0x3C#8 tag (.reject .headAbsent)))) ∧
  (∀ (s : State) (h : Head) (v : Bool) (s' : State),
     s' = { s with pins := { s.pins with heads := Table.set true s.pins.heads h.val v } } →
     (v = false → s.resets.active = false → Calm s → (s.headRec h).state ≠ .attached → (s.headRec h).state ≠ .reserved →
       exec (.headPresenceLost h) s = .next ((s'.setHeadRec h
         { HeadRecord.initial with state := .absent, standing := (s.headRec h).standing }).tells [])) ∧
     (v = true → s.resets.active = false → (s.headRec h).state = .absent →
       exec (.headPresenceReturn h) s = .next ((s'.setHeadRec h { s.headRec h with state := .replaced }).tells [])) ∧
     (v = true → s.resets.active = false → (s.headRec h).state ≠ .absent →
       exec (.headPresenceReturn h) s = .next (s'.tells [])) ∧
     (v = false → s.resets.active = true → Calm s → exec (.headPresenceLost h) s = .next (s'.tells [])) ∧
     (v = true → s.resets.active = true → exec (.headPresenceReturn h) s = .next (s'.tells []))) ∧
  (∀ (s : State) (h : Head) (b : Bus) (j : Job), Calm s → s.resets.active = false → (s.headRec h).state = .reserved →
     (s.headRec h).bus = some b → (s.busRec b).owner = some j.id → s.job? j.id = some j → j.state = .suspended →
     j.head = some ⟨h, true⟩ → j.losses < 2 →
     exec (.headPresenceLost h) s =
       .next (((({ s with pins := { s.pins with heads := Table.set true s.pins.heads h.val false } } : State).setHeadRec h
         { HeadRecord.initial with state := .absent, standing := (s.headRec h).standing }).updJob j.id fun k =>
           { k with head := none, losses := k.losses + 1 }).tells
         [.jobState ⟨j.id, j.source, j.line, .suspended, j.bus, none, j.step, .headLost, j.losses + 1, none, s.link.time⟩]))

/-- A MEASURING job that loses its head, by its presence input or by the third missing pair in succession, leaves it for
WAIT-HEAD with one loss more and the note HEAD-LOST, its bus back in HOLD; here the job is not URGENT and no other head is IDLE
(R104, R134, R145). That the configure standing at the lost or FAILED head stays is the model's choice (DESIGN CHOICE, log 41). -/
def Obligations.LostHeadReturnsItsJobToWaitHead : Prop :=
  ∀ (s : State) (h : Head) (b : Bus) (j : Job) (st : StepInHand) (jobs : Nat → HeadState → Nat → State),
    Calm s → s.resets.active = false → (s.headRec h).state = .attached → (s.headRec h).step = some st →
    s.job? st.job = some j → j.bus = some b → j.losses < 2 → j.priority ≠ .urgent → (s.busRec b).head = some h →
    (s.busRec b).func = .measure → (∀ h', h' ≠ h → (s.headRec h').state ≠ .idle) →
    (∀ now x k, jobs now x k =
      ((((({ s with now := now, sched := { s.sched with nextWait := s.sched.nextWait + 1 } }.updJob st.job fun k =>
          { k with head := none, losses := k.losses + 1, state := .waitHead, waitOrder := s.sched.nextWait
                   waitTime := s.link.time, holdLimit := none, hazardHold := none }).setHeadSel b none).setBusRec b
          { s.busRec b with head := none, func := .hold }).setHeadRec h
          { HeadRecord.initial with state := x, missing := k, standing := (s.headRec h).standing }))) →
    ∀ rep, rep = [Report.jobState ⟨st.job, j.source, j.line, .waitHead, some b, none, j.step, .headLost, j.losses + 1, none,
      s.link.time⟩] →
    exec (.headPresenceLost h) s = .next ({ jobs s.now .absent 0 with
      pins := { s.pins with heads := Table.set true s.pins.heads h.val false } }.tells rep) ∧
    (∀ t : TimeBase, (s.headRec h).timeBase = some t → t.index = 0 → (s.headRec h).outstanding = true →
      (s.headRec h).missing = 2 →
      exec (.trigger h) s = .next ((jobs (max s.now (t.next - t.period + t.phase)) .failed 3).tells rep))

/-- A frame boundary advances the frame index modulo n, and a trigger in a frame of index 0 sends a strobe, which counts as
missing where the one before is unanswered; in a frame of another index nothing is sent (R143, R145). -/
def Obligations.BoundariesAndTriggersKeepTheFrame : Prop :=
  ∀ (s : State) (h : Head) (r : HeadRecord) (t : TimeBase), Calm s → r = s.headRec h → r.timeBase = some t →
    (r.state ≠ .reserved →
      exec (.frameBoundary h) s = .next (({ s with now := max s.now t.next }.setHeadRec h
        { r with timeBase := some { t with index := (t.index + 1) % t.post, next := t.next + t.period } }).tells [])) ∧
    (∀ st, r.state = .attached → r.step = some st →
      (t.index ≠ 0 → exec (.trigger h) s = .next (s.tells [])) ∧
      (t.index = 0 → r.outstanding = false →
        exec (.trigger h) s = .next { (({ s with now := max s.now (t.next - t.period + t.phase) }.setHeadRec h
          { r with outstanding := true }).tells []) with port := [.strobe h] }) ∧
      (t.index = 0 → r.outstanding = true → r.missing < 2 →
        exec (.trigger h) s = .next { (({ s with now := max s.now (t.next - t.period + t.phase) }.setHeadRec h
          { r with outstanding := true, missing := r.missing + 1 }).tells []) with port := [.strobe h] }))

/-- A sample pair answers the outstanding strobe of a head with a step in hand and ends a missing run. While fewer than D pairs are
discarded it is discarded; afterwards a pair of an FV or CAP step short of its last and unclipped is accumulated, and a clipped current
of an IR or LR step in LO that has not switched switches it to HI, with a new configure and its discards and sums begun again. With
no strobe outstanding the pair is discarded unseen (R138, R144 to R146). -/
def Obligations.SamplePairsAreDiscardedThenAccumulated : Prop :=
  ∀ (s : State) (h : Head) (v i : BitVec 16) (r : HeadRecord) (st : StepInHand),
    Calm s → r = s.headRec h → r.state = .attached → r.step = some st →
    (r.outstanding = false → exec (.samplePair h v i) s = .next (s.tells [])) ∧
    (r.outstanding = true → st.discards < st.snapshot.discard →
      exec (.samplePair h v i) s = .next ((s.setHeadRec h
        { r with outstanding := false, missing := 0, step := some { st with discards := st.discards + 1 } }).tells [])) ∧
    (r.outstanding = true → st.snapshot.discard ≤ st.discards → st.range = .lo → st.switched = false →
      st.kind = .ir ∨ st.kind = .lr → i = 0x7FFF#16 ∨ i = 0x8000#16 →
      exec (.samplePair h v i) s = .next { ((s.setHeadRec h
        { r with
          outstanding := false, missing := 0
          standing := some ⟨st.leg, sourceOf st.kind st.snapshot.level, .hi⟩
          step := some { st with range := .hi, switched := true, discards := 0, acc := Accumulators.empty } }).tells []) with
            port := [.configure h ⟨st.leg, sourceOf st.kind st.snapshot.level, .hi⟩] }) ∧
    (r.outstanding = true → st.snapshot.discard ≤ st.discards → st.kind = .fv ∨ st.kind = .cap →
      st.acc.count + 1 < st.snapshot.samples → 1 ≤ st.acc.count → st.acc.vClip = none →
      v ≠ 0x7FFF#16 → v ≠ 0x8000#16 →
      exec (.samplePair h v i) s = .next ((s.setHeadRec h
        { r with
          outstanding := false, missing := 0
          step := some { st with acc :=
            { st.acc with
              count := st.acc.count + 1, sumV := st.acc.sumV + v.toInt, sumI := st.acc.sumI + i.toInt
              vMax := max st.acc.vMax v.toInt, vMin := min st.acc.vMin v.toInt, vLast := v.toInt
              iClip := st.acc.iClip || i == 0x7FFF#16 || i == 0x8000#16 } } }).tells []))

/-- The K-th pair of an FV or CAP step completes it: the result is appended, the step index advances, and in the same event the
next step starts on the same head with its configure, and with a strobe where its phase is 0; here no foreign voltage is at or
above fv_danger (R142, R144, R147). -/
def Obligations.LastPairCompletesTheStep : Prop :=
  ∀ (s : State) (h : Head) (v i : BitVec 16) (r : HeadRecord) (st : StepInHand) (j : Job) (nxt : RecipeStep) (x : StepResult)
    (e : StepEntry) (k : Configure),
    Calm s → r = s.headRec h → r.state = .attached → r.step = some st → r.outstanding = true →
    st.snapshot.discard ≤ st.discards → st.kind = .fv ∨ st.kind = .cap → st.snapshot.samples = st.acc.count + 1 →
    s.job? st.job = some j → (∀ k ∈ s.sched.jobs, k.id = st.job → k = j) → j.recipe[j.step + 1]? = some nxt →
    x = computeResult { st with acc := st.acc.add v i } → underDanger j.limits.fvDanger (j.results ++ [x]) = false →
    e = s.engine.steps.entry nxt.kind → k = ⟨nxt.leg, sourceOf nxt.kind e.level, e.startRange⟩ →
    exec (.samplePair h v i) s = .next { (((s.updJob st.job fun _ =>
        { j with results := j.results ++ [x], step := j.step + 1 }).setHeadRec h
        { r with
          missing := 0, outstanding := e.phase == 0, standing := some k
          timeBase := some ⟨e.period, e.phase, e.post, 0, s.now + e.period⟩
          step := some ⟨st.job, j.step + 1, nxt.kind, nxt.leg, e, e.startRange, false, 0, Accumulators.empty⟩ }).tells []) with
      port := .configure h k :: (if e.phase = 0 then [.strobe h] else []) }

/-! ## Tickets -/

/-- TICKET-REPORT on a line with an OPEN line ticket repeats it and notes the complaint; where the scheduler takes no AUTO job the
ticket becomes verify-due, and where it takes one the job enters QUEUED. On a line with no non-closed line ticket it raises an
UNVERIFIED one with the next free number, the directory's cable, now as its three times and the complaint's code, reports it RAISED
and stores its number in the line's record; here the table has room, the line has no cable and no AUTO job is taken (R26, R173,
R177, R187).
The wait-head order and time 0 of a job that has not yet waited are the model's choice (log 44). -/
def Obligations.ComplaintRepeatsOrRaisesATicket : Prop :=
  (∀ (s : State) (tag : Byte) (line code n : Nat) (x : Ticket) (due : Bool) (s' : State),
     Ready s tag → line ≤ 4095 → code ≤ 15 → s.lineTicket? line = some x → x.number = n → x.state = .opened →
     (∀ t ∈ s.tickets.table, t.number = n → t = x) →
     s' = (s.updTicket n fun _ => { x with
       repeats := min 255 (x.repeats + 1), lastSeen := s.link.time, complaint := true, code := some code, verifyDue := due }) →
     (due = true → Calm s →
       16 ≤ s.sched.jobs.length ∨ 2 ≤ (s.sched.jobs.filter fun k => k.source == .auto).length ∨
         (∃ k ∈ s.sched.jobs, k.line = line) ∨ (s.route (line / 64)).enabled = false →
       exec (.ticketReport tag (word line ++ [byteOf code])) s =
         .next (s'.acks 0x44#8 tag (.complaint line .repeated n 0 true))) ∧
     (due = x.verifyDue → Settled s → s.sched.jobs.length < 16 →
       (s.sched.jobs.filter fun k => k.source == .auto).length < 2 → (∀ k ∈ s.sched.jobs, k.line ≠ line) →
       (s.route (line / 64)).enabled = true → (s.dirEntry line).cls ≠ 0 →
       (∀ b, inSet (s.route (line / 64)).allowed b = true → s.allocatable b = false) →
       exec (.ticketReport tag (word line ++ [byteOf code])) s =
         .next ({ s' with sched := { s.sched with
           jobs := s.sched.jobs ++ [({
             id := s.nextId, source := .auto, line := line, recipe := fullRecipe, access := .guarded, kept := .guarded
             priority := .normal, keep := false, watch := WatchSettings.ofSweep, snapshot := none, state := .queued
             queueOrder := s.sched.nextQueue, startMark := none, bus := none, head := none, step := 0, results := []
             losses := 0, queuedTime := s.link.time, waitOrder := 0, waitTime := 0#32, holdLimit := none, hazardHold := none
             suspendedFrom := none, outcome := none, takeover := none, claim := none, verdict := none, due := none
             verification := false } : Job)]
           lastId := s.nextId, nextQueue := s.sched.nextQueue + 1 } }.acksTelling 0x44#8 tag
           (.complaint line .repeated n s.nextId x.verifyDue)
           [.jobState ⟨s.nextId, .auto, line, .queued, none, none, 0, .none, 0, none, s.link.time⟩]))) ∧
  (∀ (s : State) (tag : Byte) (line code n : Nat) (x : Ticket),
     Ready s tag → Calm s → line ≤ 4095 → code ≤ 15 → s.lineTicket? line = none → (s.dirEntry line).cable = 0 →
     s.tickets.table.length < 128 → s.tickets.next = n → 1 ≤ n → n ≤ 65535 → (∀ t ∈ s.tickets.table, t.number < n) →
     16 ≤ s.sched.jobs.length ∨ 2 ≤ (s.sched.jobs.filter fun k => k.source == .auto).length ∨
       (∃ k ∈ s.sched.jobs, k.line = line) ∨ (s.route (line / 64)).enabled = false →
     x = { number := n, kind := .line, line := some line, cable := 0, cls := .unverified, origin := .report, state := .opened
           opened := s.link.time, lastSeen := s.link.time, lastChange := s.link.time, repeats := 0, verifyDue := true
           testOk := false, complaint := true, code := some code, evidence := [], distance := none, parent := none
           members := 0 } →
     exec (.ticketReport tag (word line ++ [byteOf code])) s =
       .next (({ s with tickets := { s.tickets with
           table := s.tickets.table ++ [x], next := if n = 65535 then 1 else n + 1 } }.setLineStatus line
           { s.lineStatus line with ticket := some n }).acksTelling 0x44#8 tag (.complaint line .raised n 0 true)
         [.ticket ⟨.raised, n, .line, some line, 0, .unverified, some .opened, none, 0, some .report, 0, s.link.time⟩]))

/-- TICKET-DISPATCH takes an OPEN ticket to DISPATCHED with its last-change time, and TICKET-VERIFY makes a non-closed line ticket
verify-due; either refuses the other tickets with TICKET-STATE. TICKET-CLOSE closes a line ticket and empties its line's open ticket
field; it closes a cable ticket with 0 members and returns its children to OPEN, verify-due and without a parent; it refuses a ROLLED
and a CLOSED ticket with TICKET-STATE (R172, R180, R181). -/
def Obligations.TicketRequestsChangeTickets : Prop :=
  (∀ (s : State) (tag : Byte) (n : Nat) (x : Ticket),
     Ready s tag → 1 ≤ n → n ≤ 65535 → s.ticket? n = some x → (∀ t ∈ s.tickets.table, t.number = n → t = x) →
     (x.state = .opened → exec (.ticketDispatch tag (word n)) s =
       .next ((s.updTicket n fun _ => { x with state := .dispatched, lastChange := s.link.time }).acks 0x45#8 tag
         (.ticketState n .dispatched x.verifyDue))) ∧
     (x.state ≠ .opened → exec (.ticketDispatch tag (word n)) s = .next (s.answers 0x45#8 tag (.reject .ticketState))) ∧
     (x.kind = .line → x.state ≠ .closed → exec (.ticketVerify tag (word n)) s =
       .next ((s.updTicket n fun _ => { x with verifyDue := true }).acks 0x47#8 tag (.ticketState n x.state true))) ∧
     (x.kind = .cable ∨ x.state = .closed →
       exec (.ticketVerify tag (word n)) s = .next (s.answers 0x47#8 tag (.reject .ticketState))) ∧
     (x.state = .rolled ∨ x.state = .closed →
       exec (.ticketClose tag (word n)) s = .next (s.answers 0x46#8 tag (.reject .ticketState)))) ∧
  (∀ (s : State) (tag : Byte) (n : Nat) (x : Ticket),
     Ready s tag → 1 ≤ n → n ≤ 65535 → s.ticket? n = some x → (∀ t ∈ s.tickets.table, t.number = n → t = x) →
     x.state ≠ .rolled → x.state ≠ .closed →
     (∀ l, x.kind = .line → x.line = some l → exec (.ticketClose tag (word n)) s =
       .next (((s.updTicket n fun _ => { x with state := .closed, lastChange := s.link.time }).setLineStatus l
         { s.lineStatus l with ticket := none }).acks 0x46#8 tag (.ticketClosed n none))) ∧
     (x.kind = .cable → exec (.ticketClose tag (word n)) s =
       .next ((s.setTickets (s.tickets.table.map fun t =>
           if t.number = n then { t with state := .closed, lastChange := s.link.time, members := 0 }
           else if t.state = .rolled ∧ t.parent = some n then
             { t with state := .opened, verifyDue := true, parent := none, lastChange := s.link.time }
           else t)).acks 0x46#8 tag
         (.ticketClosed n (some (s.tickets.table.filter fun t => t.state == .rolled && t.parent == some n).length)))))

/-- TICKET-ERASE empties the ticket table, sets the counter to 1, empties every line's open ticket field and leaves everything else,
the unticketed fields and the job table among it, as it stands; its ACK counts the tickets and no report is queued (R183). -/
def Obligations.EraseEmptiesTheTable : Prop :=
  ∀ (s : State) (tag : Byte), Ready s tag →
    ∃ t, exec (.ticketErase tag []) s = .next t ∧ t.tickets = { s.tickets with table := [], next := 1 } ∧
      (∀ l, t.lineStatus l = { s.lineStatus l with ticket := none }) ∧
      t.link = (s.acks 0x4A#8 tag (.erased s.tickets.table.length)).link ∧ t.port = [] ∧
      { t with port := s.port, link := s.link, lines := s.lines, tickets := s.tickets } = s

/-! ## The receiver and the transmitter -/

/-- HUNT discards all but 0xA5, LENGTH keeps a length from 2 to 250 and abandons the frame on another, COLLECT keeps length + 1
characters, and a faulty stop bit abandons a frame with FRAMING; a complete frame whose bytes do not sum to 0 is discarded with
CHECK (R2, R4); the kind and tag of FRAMING are those received so far (log 28). The inter-byte timeout, 20 ms after the last
character, abandons a partial frame with TIMEOUT, which counts the bytes received from the start byte and carries the kind and tag
where they were received; in HUNT it does nothing (R3). -/
def Obligations.CharactersBuildAFrameUntilTheTimeout : Prop :=
  (∀ (s : State) (c : Byte) (ok : Bool) (into : Receiver → State), s.resets.active = false →
     (∀ rx, into rx = { s with link := { s.link with rx := rx, rxEnd := s.now } }) →
     (s.link.rx = .hunt → exec (.characterReceived c ok) s =
       .next ((into (if ok = true ∧ c = 0xA5#8 then .length else .hunt)).tells [])) ∧
     (s.link.rx = .length →
       (ok = true → 2 ≤ c.toNat → c.toNat ≤ 250 →
         exec (.characterReceived c ok) s = .next ((into (.collect c.toNat [])).tells [])) ∧
       (ok = false ∨ c.toNat < 2 ∨ 250 < c.toNat →
         exec (.characterReceived c ok) s = .next ((into .hunt).tells [.linkError .framing 0#8 0#8 0]))) ∧
     (∀ (len : Nat) (got : List Byte), s.link.rx = .collect len got → 2 ≤ len →
       (ok = true → got.length < len →
         exec (.characterReceived c ok) s = .next ((into (.collect len (got ++ [c]))).tells [])) ∧
       (ok = true → got.length = len → byteSum (byteOf len :: (got ++ [c])) ≠ 0#8 →
         exec (.characterReceived c ok) s =
           .next ((into .hunt).tells [.linkError .check (got.getD 0 0#8) (got.getD 1 0#8) 0])) ∧
       (ok = false →
         exec (.characterReceived c ok) s =
           .next ((into .hunt).tells [.linkError .framing (got.getD 0 0#8) (got.getD 1 0#8) 0])))) ∧
  (∀ (s : State) (n : Moment) (s' : State), n = max s.now (s.link.rxEnd + 160) →
     s' = { s with now := n, link := { s.link with rx := .hunt } } →
     (s.link.rx = .hunt → exec .interByteTimeout s = .next (s.tells [])) ∧
     (s.link.rx = .length → exec .interByteTimeout s = .next (s'.tells [.linkError .timeout 0#8 0#8 1])) ∧
     (∀ len, s.link.rx = .collect len [] →
       exec .interByteTimeout s = .next (s'.tells [.linkError .timeout 0#8 0#8 2])) ∧
     (∀ len kind, s.link.rx = .collect len [kind] →
       exec .interByteTimeout s = .next (s'.tells [.linkError .timeout kind 0#8 3])) ∧
     (∀ len kind tag rest, s.link.rx = .collect len (kind :: tag :: rest) →
       exec .interByteTimeout s = .next (s'.tells [.linkError .timeout kind tag (4 + rest.length)])))

/-- The end of a reply empties its slot, and the transmitter goes on with the oldest report; the end of a report lets a waiting
reply go first, and with no reply in the slot the oldest report follows. A report leaves the queue as its sending begins, and an
OVERFLOW with the lost count joins behind it where one is due and none waits; in the starting phase no report is begun (R5, R10, R12,
R18). -/
def Obligations.FrameSentBeginsTheNextFrame : Prop :=
  ∀ s : State, s.resets.active = false →
    (∀ r, s.link.tx = .reply r → s.link.requestReset = false →
      (s.link.queue = [] ∨ s.resets.starting = true →
        exec .frameSent s = .next { s with port := [], link := { s.link with tx := .idle, slot := none } }) ∧
      (∀ q rest, s.link.queue = q :: rest → s.resets.starting = false →
        s.link.lost = 0 ∨ (∃ n, Report.overflow n ∈ rest) →
        exec .frameSent s =
          .next { s with port := [], link := { s.link with tx := .report q, slot := none, queue := rest } }) ∧
      (∀ q rest, s.link.queue = q :: rest → s.resets.starting = false → 0 < s.link.lost →
        (∀ n, Report.overflow n ∉ rest) →
        exec .frameSent s =
          .next { s with port := [], link := { s.link with
            tx := .report q, slot := none, queue := rest ++ [.overflow s.link.lost], lost := 0 } })) ∧
    (∀ q, s.link.tx = .report q →
      (∀ r, s.link.slot = some r → r.begun = false →
        exec .frameSent s = .next { s with port := [], link := { s.link with
          tx := .reply { r with begun := true }, slot := some { r with begun := true } } }) ∧
      (s.link.slot = none →
        (s.link.queue = [] ∨ s.resets.starting = true →
          exec .frameSent s = .next { s with port := [], link := { s.link with tx := .idle } }) ∧
        (∀ q rest, s.link.queue = q :: rest → s.resets.starting = false →
          (s.link.lost = 0 ∨ (∃ n, Report.overflow n ∈ rest) →
            exec .frameSent s = .next { s with port := [], link := { s.link with tx := .report q, queue := rest } }) ∧
          (0 < s.link.lost → (∀ n, Report.overflow n ∉ rest) →
            exec .frameSent s = .next { s with port := [], link := { s.link with
              tx := .report q, queue := rest ++ [.overflow s.link.lost], lost := 0 } }))))

/-! ## Resets, the starting phase and the supply -/

/-- RESET asserted holds every block at its reset values, but for the battery-backed store, the supply-fall mark, the pins and the
clock; with no line on a bus nothing else is left, and the exchange cut of a CONNECTED or PARKED line stays open, with its group's
selector, for the restore interval of its group (R59). That no configure stands at a head after the reset is the model's choice
(DESIGN CHOICE, log 41). -/
def Obligations.ResetPinClearsThePart : Prop :=
  ∀ (s : State) (held : List DropEntry → Access → State), s.pins.reset = false → s.resets.active = false →
    (∀ drop a, held drop a =
      { pending := s.pending, now := s.now, port := [], pins := { s.pins with reset := true }
        resets := ⟨true, .pin, false, drop, false⟩, link := { Link.initial with supplyFall := s.link.supplyFall }
        store := Store.initial, access := a, watches := Watches.initial, hazards := Hazards.initial, sched := Sched.initial
        sweep := Sweep.initial, engine := Engine.initial, lines := []
        tickets := { Tickets.initial with table := s.tickets.table, next := s.tickets.next, valid := s.tickets.valid } }) →
    ((∀ b, (s.busRec b).line = none) → exec .resetPinAssert s = .next (held [] Access.initial)) ∧
    (∀ (b : Bus) (line d : Nat), (s.busRec b).line = some line → (∀ b', b' ≠ b → (s.busRec b').line = none) →
      (s.busRec b).access = .connected ∨ (s.busRec b).access = .parked → s.groupSelOf (line / 64) = some b →
      d = (s.intervalOf (s.route (line / 64)).restore).duration →
      exec .resetPinAssert s = .next (held [⟨line, s.now + d⟩]
        ⟨[], [(line, ⟨true, false, false⟩)], [(line / 64, some b)], [], []⟩))

/-- While RESET is held, a cut of the reset drop whose restore interval runs out is closed and leaves the drop, and its group's
selector releases with the group's last cut. RESET released ends a reset whose drop is complete: the rate and the presence inputs are
read and the starting phase begins with an empty queue; here no hazard input is active and the store is valid. While a cut of the drop
is open the reset goes on (R1, R18, R59, R133). The next advance of the time counter one second after the reset is the model's choice
(log 8), and so are that no configure stands at a head after it (DESIGN CHOICE, log 41) and that RESET holds every reset under way, a
power reset too (DESIGN CHOICE, log 9). -/
def Obligations.ResetDropEndsBeforeTheStartingPhase : Prop :=
  (∀ (s : State) (line : Nat) (d : DropEntry) (rest : List DropEntry),
     s.resets.active = true → s.pins.reset = true → d.line = line → s.resets.drop = d :: rest →
     (∀ e ∈ rest, e.line ≠ line) →
     ((∀ e ∈ rest, e.line / 64 ≠ line / 64) →
       exec (.resetDropIntervalExpiry line) s =
         .next (({ s with now := max s.now d.runsOut, port := [], resets := { s.resets with drop := rest } }.setRelays line
           ⟨false, false, false⟩).setGroupSel (line / 64) none)) ∧
     ((∃ e ∈ rest, e.line / 64 = line / 64) →
       exec (.resetDropIntervalExpiry line) s =
         .next ({ s with now := max s.now d.runsOut, port := [], resets := { s.resets with drop := rest } }.setRelays line
           ⟨false, false, false⟩))) ∧
  (∀ s : State, s.resets.active = true →
     (s.resets.drop ≠ [] →
       exec .resetPinRelease s = .next { s with port := [], pins := { s.pins with reset := false } }) ∧
     (s.resets.drop = [] → s.pins.hazards = [] → s.tickets.valid = true →
       ∃ t, exec .resetPinRelease s = .next t ∧
         t.resets = { s.resets with active := false, starting := true } ∧ t.pins = { s.pins with reset := false } ∧
         t.link = ({ s with
           resets := { s.resets with active := false, starting := true }
           link := { s.link with
             rate := s.pins.rate, nextSecond := s.now + 8000, queue := [], lost := 0 } } : State).pump.link ∧
         (∀ h : Head, t.headRec h = { HeadRecord.initial with
           state := if Table.get true s.pins.heads h.val then .idle else .absent }) ∧
         t.port = [] ∧
         { t with port := s.port, resets := s.resets, pins := s.pins, link := s.link
                  engine := { t.engine with heads := s.engine.heads } } = s))

/-- The starting phase ends: START joins at the head of the queue in the place held for it, naming the cause of the reset and the
number of tickets, with time-set no, and every line's open ticket field names its non-closed line ticket, or none where the store
was lost (R18, R171, R186). -/
def Obligations.StartingPhaseEndsWithStart : Prop :=
  ∀ s : State, s.resets.starting = true → TicketLaw s →
    ∃ t, exec .startingPhaseEnd s = .next t ∧ t.resets = { s.resets with starting := false } ∧
      (∀ l, t.lineStatus l = { s.lineStatus l with
        ticket := if s.resets.storeLost then none else (s.lineTicket? l).map Ticket.number }) ∧
      t.link = ({ s with
        resets := { s.resets with starting := false }
        link := { s.link with
          queue := .start s.resets.cause s.resets.storeLost (if s.resets.storeLost then 0 else s.tickets.table.length)
            false s.link.rate :: s.link.queue } } : State).pump.link ∧
      t.port = [] ∧ { t with port := s.port, resets := s.resets, link := s.link, lines := s.lines } = s

/-- SUPPLY-GOOD falls: every job leaves the table, every relay is released and every bus record and watch record holds its reset
values, the heads in use become IDLE, the supply-fall mark is set and a request reset is dropped; the tickets, the settings and
the line records stand, and a job without a head is reported removed with SUPPLY (R16, R60, R117, R150). SUPPLY-GOOD rises: a power
reset, which with RESET released, no hazard input active and a valid store ends at once in the starting phase, every block at its
reset values and the ticket table, its counter and the supply-fall mark kept (R19, R59, R172). The empty bus table of a low supply
is R60's, and the law SupplyLaw says so. The next advance of the time counter one second after the reset is the model's choice
(log 8), and so is that no configure stands at a head after it (DESIGN CHOICE, log 41). -/
def Obligations.SupplyFallEmptiesAndSupplyRiseResets : Prop :=
  (∀ s : State, s.pins.supplyGood = true → s.resets.active = false → (∀ b, (s.hazardRec b).exit = none) →
     (∃ t, exec .supplyGoodFall s = .next t ∧
       t.sched = { s.sched with jobs := [] } ∧ t.access = Access.initial ∧ t.watches = { s.watches with records := [] } ∧
       t.pins = { s.pins with supplyGood := false } ∧ t.resets = { s.resets with drop := [] } ∧
       t.link.supplyFall = true ∧ t.link.requestReset = false ∧
       (∀ h, (t.headRec h).state = if (s.headRec h).state = .attached ∨ (s.headRec h).state = .reserved then .idle
         else (s.headRec h).state) ∧
       t.port = [] ∧
       { t with port := s.port, pins := s.pins, resets := s.resets, link := s.link, access := s.access, watches := s.watches
                sched := s.sched, sweep := { t.sweep with notes := s.sweep.notes }
                engine := { t.engine with heads := s.engine.heads } } = s) ∧
     (∀ j : Job, s.sched.jobs = [j] → j.head = none →
       ∃ t, exec .supplyGoodFall s = .next t ∧
         t.link = ({ s with link := { s.link with supplyFall := true, requestReset := false } }.tells
           [.jobResult ⟨j.id, .supply, j.source, j.line, s.link.time, j.verification, none, j.results⟩]).link)) ∧
  (∀ s : State, SupplyLaw s → s.pins.supplyGood = false → s.resets.active = false → s.pins.reset = false →
     s.pins.hazards = [] → s.tickets.valid = true →
     ∃ t, exec .supplyGoodRise s = .next t ∧
       t.resets = ⟨false, .power, true, [], false⟩ ∧ t.pending = s.pending ∧ t.now = s.now ∧ t.port = [] ∧
       t.pins = { s.pins with supplyGood := true } ∧
       t.link = { Link.initial with
         rate := s.pins.rate, nextSecond := s.now + 8000, supplyFall := s.link.supplyFall } ∧
       t.store = Store.initial ∧ t.access = Access.initial ∧ t.watches = Watches.initial ∧ t.hazards = Hazards.initial ∧
       t.sched = Sched.initial ∧ t.sweep = Sweep.initial ∧ t.lines = [] ∧ t.engine.steps = StepTable.initial ∧
       (∀ h : Head, t.headRec h = { HeadRecord.initial with
         state := if Table.get true s.pins.heads h.val then .idle else .absent }) ∧
       t.tickets = { Tickets.initial with table := s.tickets.table, next := s.tickets.next })

/-! ## The intervals of a bus -/

/-- A guard window that runs out with the loop absent judges IDLE-LINE: the bridge releases and the cut opens, and the access
enters CUTTING with its connect interval taken now; its job stays ACCESSING and is reported. A connect interval that runs out
connects the test path, in function HOLD, and a job with a step left enters WAIT-HEAD; under a park mark the access becomes PARKED
with the path open. Here the mode is not a level one, no head is IDLE, the job is not URGENT and no takeover mark names it (R43, R47,
R62, R65, R101, R102). -/
def Obligations.GuardedAccessCutsThenConnects : Prop :=
  (∀ (s : State) (b : Bus) (m n : Moment) (id line d : Nat) (j : Job) (r : BusRecord),
     Calm s → r = s.busRec b → r.access = .guard → r.line = some line → r.owner = some id → s.job? id = some j →
     (s.watchRec b).guard = some m → (s.watchRec b).loop = .absent → n = max s.now m →
     d = (s.intervalOf (s.route (line / 64)).connect).duration → j.state ≠ .held →
     exec (.guardWindowExpiry b) s =
       .next (((({ s with now := n }.setRelays line { s.relaysOf line with bridge := false, cutOpen := true }).setBusRec b
           { r with access := .cutting, interval := some ⟨.connect, d, n + d⟩ }).setWatchRec b
           { s.watchRec b with timer := none, guard := none }).tells
         [.jobState ⟨id, j.source, j.line, j.state, j.bus, j.head, j.step, .none, j.losses, none, s.link.time⟩])) ∧
  (∀ (s : State) (b : Bus) (i : HeldInterval) (n : Moment) (r : BusRecord) (w : WatchRecord),
     Calm s → r = s.busRec b → r.access = .cutting → r.interval = some i → n = max s.now i.runsOut → w = s.watchRec b →
     (r.parkMark = true →
       exec (.connectIntervalExpiry b) s =
         .next ((({ s with now := n }.setBusRec b
           { r with access := .parked, func := .none, interval := none, parkMark := false }).setWatchRec b
           { w with guard := none }).tells [])) ∧
     (∀ (line id : Nat) (j : Job) (timer : Option DebounceTimer),
       timer = (if LoopState.ofRaw (s.rawLoop b) = w.loop then none
         else some ⟨w.settings.debounce, LoopState.ofRaw (s.rawLoop b), n + w.settings.debounce⟩) →
       r.parkMark = false → r.line = some line → r.owner = some id → s.job? id = some j → j.state = .accessing →
       j.step < j.recipe.length → j.priority ≠ .urgent → (∀ k ∈ s.sched.jobs, k.takeover ≠ some id) →
       (∀ h, (s.headRec h).state ≠ .idle) → w.settings.mode ≠ .loopPresent → w.settings.mode ≠ .loopAbsent →
       exec (.connectIntervalExpiry b) s =
         .next (((((({ s with now := n, sched := { s.sched with nextWait := s.sched.nextWait + 1 } }.updJob id fun k =>
             { k with state := .waitHead, waitOrder := s.sched.nextWait, waitTime := s.link.time
                      holdLimit := none, hazardHold := none }).setRelays line
             { s.relaysOf line with testPath := true }).setBusRec b
             { r with access := .connected, func := .hold, interval := none }).setWatchRec b
             { w with timer := timer, guard := none })).tells
           [.jobState ⟨id, j.source, j.line, .waitHead, j.bus, j.head, j.step, .none, j.losses, none, s.link.time⟩])))

/-- A restore interval that runs out closes the exchange cut, releases the group's selector and clears the bus, and a RELEASING
owner leaves the table with its outcome to be, in a JOB-RESULT; here nothing waits for the bus (R21, R51, R94). -/
def Obligations.RestoreIntervalReturnsTheLine : Prop :=
  ∀ (s : State) (b : Bus) (i : HeldInterval) (id line p : Nat) (j : Job) (o : JobOutcome) (r : BusRecord),
    Settled s → r = s.busRec b → r.access = .releasing → r.interval = some i → r.line = some line → r.owner = some id →
    r.reserveMark = false → s.job? id = some j → j.state = .releasing → j.outcome = some o → j.head = none →
    j.source = .desk p → (∀ k ∈ s.sched.jobs, k.takeover ≠ some id ∧ k.claim ≠ some id) →
    exec (.restoreIntervalExpiry b) s =
      .next (((((({ s with now := max s.now i.runsOut }.setJobs (s.sched.jobs.filter fun k => k.id != id)).setRelays line
          { s.relaysOf line with cutOpen := false }).setGroupSel (line / 64) none).setBusRec b BusRecord.initial).setWatchRec b
          WatchRecord.initial).tells
        [.jobResult ⟨id, o, .desk p, j.line, s.link.time, j.verification, if o = JobOutcome.complete then j.due else none, j.results⟩])

/-- A change of the raw loop sense starts a debounce timer where it differs from the debounced state and none runs, drops the timer
where it returns to that state, and lets a running timer stand; with no sense path only the input changes. A debounce timer that runs
out gives the debounced state its value: in MONITOR and CONNECTED pending rises on the edge or level of the mode, once, with a
WATCH-EVENT under the action REPORT; under YIELD a MONITORING desk job leaves its line and the table with YIELDED, and the WATCH-EVENT
shows the debounced state after the event, ABSENT; in GUARD a loop PRESENT is BUSY, the line is left and the job leaves the table (R43,
R53, R61 to R63, R65 to R70, R101, R111). -/
def Obligations.LoopIsDebouncedAndActedOn : Prop :=
  (∀ (s : State) (b : Bus) (v : Bool) (w : WatchRecord) (d : Nat) (s' : State), w = s.watchRec b →
     d = 2 ^ w.settings.n * (if w.settings.base = .four then 32 else 2) →
     s' = { s with pins := { s.pins with loops := Table.set false s.pins.loops b.val v } } →
     ((s.busRec b).access = .idle ∨ (s.busRec b).access = .cutting ∨ (s.busRec b).access = .parked ∨
         (s.busRec b).access = .releasing →
       exec (.loopSenseChange b v) s = .next (s'.tells [])) ∧
     ((s.busRec b).access = .guard ∨ (s.busRec b).access = .monitor ∨ (s.busRec b).access = .connected →
       (LoopState.ofRaw v = w.loop →
         exec (.loopSenseChange b v) s = .next ((s'.setWatchRec b { w with timer := none }).tells [])) ∧
       (LoopState.ofRaw v ≠ w.loop → w.timer = none →
         exec (.loopSenseChange b v) s = .next ((s'.setWatchRec b { w with
           timer := some ⟨d, LoopState.ofRaw v, s.now + d⟩ }).tells [])) ∧
       (LoopState.ofRaw v ≠ w.loop → w.timer.isSome →
         exec (.loopSenseChange b v) s = .next ((s'.setWatchRec b w).tells [])))) ∧
  (∀ (s : State) (b : Bus) (t : DebounceTimer) (w : WatchRecord) (r : BusRecord) (n : Moment),
     w = s.watchRec b → w.timer = some t → r = s.busRec b → n = max s.now t.runsOut → w.settings.action = .report →
     (r.access = .monitor ∨ r.access = .connected → Calm s →
       (∀ k, (edgeCause w.settings.mode t.aim).or (levelCause w.settings.mode t.aim) = some k → w.pending = false →
         exec (.debounceTimerExpiry b) s =
           .next (({ s with now := n }.setWatchRec b { w with loop := t.aim, timer := none, pending := true }).tells
             [.watch ⟨b, r.line, r.owner, k, t.aim, w.settings.mode, .report, s.link.time⟩])) ∧
       ((edgeCause w.settings.mode t.aim).or (levelCause w.settings.mode t.aim) = none ∨ w.pending = true →
         exec (.debounceTimerExpiry b) s =
           .next (({ s with now := n }.setWatchRec b { w with loop := t.aim, timer := none }).tells []))) ∧
     (∀ (id line p : Nat) (j : Job), r.access = .guard → t.aim = .present → Settled s → r.line = some line →
       r.owner = some id → s.job? id = some j → j.head = none → j.source = .desk p →
       (∀ k ∈ s.sched.jobs, k.takeover ≠ some id ∧ k.claim ≠ some id) →
       exec (.debounceTimerExpiry b) s =
         .next (((((({ s with now := n }.setJobs (s.sched.jobs.filter fun k => k.id != id)).setRelays line
             { s.relaysOf line with bridge := false }).setGroupSel (line / 64) none).setBusRec b BusRecord.initial).setWatchRec b
             WatchRecord.initial).tells
           [.jobResult ⟨id, .busy, .desk p, j.line, s.link.time, j.verification, none, j.results⟩]))) ∧
  (∀ (s : State) (b : Bus) (t : DebounceTimer) (w : WatchRecord) (r : BusRecord) (k : WatchCause) (id line p : Nat) (j : Job),
     w = s.watchRec b → w.timer = some t → r = s.busRec b → w.settings.action = .yield → w.pending = false →
     (edgeCause w.settings.mode t.aim).or (levelCause w.settings.mode t.aim) = some k → Settled s → r.access = .monitor →
     r.line = some line → r.owner = some id → r.speech = none → s.job? id = some j → j.state = .monitoring → j.bus = some b →
     j.head = none → j.source = .desk p → (∀ m ∈ s.sched.jobs, m.takeover ≠ some id ∧ m.claim ≠ some id) →
     exec (.debounceTimerExpiry b) s =
       .next (((((({ s with now := max s.now t.runsOut }.setJobs (s.sched.jobs.filter fun m => m.id != id)).setRelays line
           { s.relaysOf line with bridge := false }).setGroupSel (line / 64) none).setBusRec b BusRecord.initial).setWatchRec b
           WatchRecord.initial).tells
         [.watch ⟨b, some line, some id, k, .absent, w.settings.mode, .yield, s.link.time⟩,
          .jobResult ⟨id, .yielded, .desk p, j.line, s.link.time, j.verification, none, j.results⟩]))

/-! ## Hazards -/

/-- An onset of hazard A puts its condition in effect and reports it; a CONNECTED bus in its enable set, with the action PARK, is
parked with its test path open, its line's OPEN ticket is repeated as CROSS, and its HELD desk job becomes SUSPENDED under a hold
deadline; a bus without a job only enters the hazard state. An input still FILTERING is reasserted without a report (R55, R75, R78,
R80 to R82, R84, R90, R175, R176). -/
def Obligations.HazardOnsetParksTheBus : Prop :=
  ∀ (s : State) (b : Bus) (s' : State), s.resets.active = false → Calm s →
    s' = { s with pins := { s.pins with hazards := Table.set false s.pins.hazards b.val true } } →
    (∀ m, (s.hazardRec b).a.input = .filtering m →
      exec (.hazardInputActive (.a b)) s = .next ((s'.setHazardRec b
        { s.hazardRec b with a := { (s.hazardRec b).a with input := .asserted, clearTaken := false } }).tells [])) ∧
    ((s.hazardRec b).a.input = .gone → (s.hazardRec b).state = .none → inSet s.hazards.settingsA.enable b = true →
      inSet s.hazards.settingsA.isolate b = false →
      ((s.busRec b).access = .idle → (s.busRec b).owner = none → (s.busRec b).speech = none →
        exec (.hazardInputActive (.a b)) s = .next ((s'.setHazardRec b ⟨⟨.asserted, true, false⟩, .a, none⟩).tells
          [.hazard ⟨.onset, .a, some b, true, busBit b, none, none, s.link.time⟩])) ∧
      (∀ (id line p : Nat) (j : Job) (r : BusRecord) (x : Ticket), r = s.busRec b → r.access = .connected →
        r.line = some line → r.owner = some id → r.speech = none → r.head = none → s.job? id = some j →
        (∀ k ∈ s.sched.jobs, k.id = id → k = j) → j.state = .held → j.head = none → j.source = .desk p →
        s.lineTicket? line = some x → x.state = .opened → (∀ t ∈ s.tickets.table, t.number = x.number → t = x) →
        exec (.hazardInputActive (.a b)) s =
          .next ((((((((s'.setHazardRec b ⟨⟨.asserted, true, false⟩, .a, none⟩).setRelays line
              { s.relaysOf line with testPath := false }).setBusRec b { r with access := .parked, func := .none }).setWatchRec b
              { s.watchRec b with timer := none, guard := none }).updTicket x.number fun _ =>
              { x with repeats := min 255 (x.repeats + 1), lastSeen := s.link.time, cls := .cross
                       lastChange := if x.cls = .cross then x.lastChange else s.link.time }).setLineStatus line
              { s.lineStatus line with unticketed := false }).updJob id fun _ =>
              { j with state := .suspended, suspendedFrom := some .held, holdLimit := none
                       hazardHold := some (s.now + s.hazards.holdTime * 8000) }).tells
            [.hazard ⟨.onset, .a, some b, true, busBit b, none, some line, s.link.time⟩,
             .jobState ⟨id, .desk p, j.line, .suspended, j.bus, none, j.step, .suspendedA, j.losses, none, s.link.time⟩])))

/-- An input that becomes inactive is FILTERING for 50 ms; at the end of the filter it is GONE, which is reported, and its condition
stays in effect under LATCHED without a clear, and ends under FOLLOW: the exit of a bus in hazard is then made at once, reported
after it, where no head is reserved for the bus (R75, R78, R85, R90). That the GONE report's mask is empty though the exit of the
same event changes the bus's hazard state is the model's reading (log 17). -/
def Obligations.HazardReleaseEndsAFollowedCondition : Prop :=
  ∀ (s : State) (b : Bus) (k : Condition), k = (s.hazardRec b).a →
    (s.resets.active = false → k.input = .asserted →
      exec (.hazardInputInactive (.a b)) s =
        .next (({ s with pins := { s.pins with hazards := Table.set false s.pins.hazards b.val false } }.setHazardRec b
          { s.hazardRec b with a := { k with input := .filtering (s.now + 400) } }).tells [])) ∧
    (∀ m, Settled s → k.input = .filtering m → k.inEffect = true →
      (s.hazards.settingsA.mode = .latched → k.clearTaken = false →
        exec (.hazardReleaseTimerExpiry (.a b)) s =
          .next (({ s with now := max s.now m }.setHazardRec b { s.hazardRec b with a := { k with input := .gone } }).tells
            [.hazard ⟨.gone, .a, some b, true, 0#6, none, none, s.link.time⟩])) ∧
      (s.hazards.settingsA.mode = .follow → inSet s.hazards.settingsA.enable b = true → (s.hazardRec b).state = .a →
        inSet s.hazards.settingsB.enable b = false → (s.busRec b).owner = none →
        (∀ h, (s.headRec h).state = .reserved → (s.headRec h).bus ≠ some b) →
        exec (.hazardReleaseTimerExpiry (.a b)) s =
          .next (({ s with now := max s.now m }.setHazardRec b ⟨⟨.gone, false, false⟩, .none, none⟩).tells
            [.hazard ⟨.gone, .a, some b, false, 0#6, none, none, s.link.time⟩,
             .hazard ⟨.exit, .a, some b, false, busBit b, some .none, none, s.link.time⟩])))

/-! ## The arithmetic of a result and of a verdict -/

/-- The DC voltage is 5 × Σv / K rounded half away from zero, and the AC peak half the spread of the samples, rounded down, in
millivolts; CLIP is set exactly under the clipped mark (R154, R155). -/
def Obligations.ForeignVoltageIsRounded : Prop :=
  ∀ (st : StepInHand) (k : Nat) (x : StepResult),
    st.kind = .fv → k = st.snapshot.samples → 1 ≤ k → st.acc.vMin ≤ st.acc.vMax → x = computeResult st →
    x.value1.natAbs = (10 * st.acc.sumV.natAbs + k) / (2 * k) ∧
    (0 < x.value1 → 0 < st.acc.sumV) ∧ (x.value1 < 0 → st.acc.sumV < 0) ∧
    (2 * (k * x.value1) - 10 * st.acc.sumV ≤ k ∧ 10 * st.acc.sumV - 2 * (k * x.value1) ≤ k) ∧
    2 * (x.value2 : Int) ≤ 5 * (st.acc.vMax - st.acc.vMin) ∧ 5 * (st.acc.vMax - st.acc.vMin) < 2 * (x.value2 : Int) + 2 ∧
    x.flags = { clip := st.acc.vClip.isSome } ∧ x.kind = .fv ∧ x.leg = st.leg

/-- The resistance by the first case that holds: 50,000,000 with OVER where both sums are 0 or the current is below 4 counts on the
average, FOREIGN where the sums disagree in sign, UNDER beyond the scale of HI, and else N × |Σv| / |Σi| to the nearest ohm, capped at
50,000,000 with OVER; CLIP joins each case under the clipped mark (R156, R157). -/
def Obligations.ResistanceByCases : Prop :=
  ∀ (st : StepInHand) (k n : Nat) (v i : Int) (c : Bool) (x : StepResult),
    st.kind = .ir ∨ st.kind = .lr → k = st.snapshot.samples → 1 ≤ k → v = st.acc.sumV → i = st.acc.sumI →
    c = st.acc.vClip.isSome → n = (if st.range = .lo then 500000 else 5000) → x = computeResult st →
    (v = 0 → i = 0 → x.value1 = 50000000 ∧ x.flags = { overRange := true, clip := c }) ∧
    (v * i < 0 ∨ (v = 0 ∧ i ≠ 0) → x.value1 = 0 ∧ x.flags = { foreign := true, clip := c }) ∧
    (v ≠ 0 → 0 ≤ v * i → i.natAbs < 4 * k → x.value1 = 50000000 ∧ x.flags = { overRange := true, clip := c }) ∧
    (0 < v * i → 4 * k ≤ i.natAbs →
      (st.range = .hi → st.acc.iClip = true → x.value1 = 0 ∧ x.flags = { underRange := true, clip := c }) ∧
      (st.range = .lo ∨ st.acc.iClip = false →
        ∃ r : Nat, 2 * (r * i.natAbs) ≤ 2 * (n * v.natAbs) + i.natAbs ∧
          2 * (n * v.natAbs) + i.natAbs < 2 * ((r + 1) * i.natAbs) ∧
          (r ≤ 50000000 → x.value1 = r ∧ x.flags = { clip := c }) ∧
          (50000000 < r → x.value1 = 50000000 ∧ x.flags = { overRange := true, clip := c }))) ∧
    x.range = some st.range ∧ x.value2 = 0

/-- The capacitance of a CAP step whose v never clipped, and of one clipped from sample K_eff on, its first accumulated sample
included, by the cases of R158; and the distance to an open, to the nearest metre and at most 65,535 (R158, R159). -/
def Obligations.CapacitanceByCases : Prop :=
  (∀ (st : StepInHand) (k keff t : Nat) (dv : Int) (c : Bool) (x : StepResult),
    st.kind = .cap → k = st.snapshot.samples → 2 ≤ k → t = st.snapshot.post * st.snapshot.period * 125 →
    (st.acc.vClip = none ∧ keff = k ∧ dv = st.acc.vLast - st.acc.vFirst ∧ c = false ∨
      (st.acc.vClip = some keff ∧ c = true ∧ (keff = 0 ∨ ∃ y, st.acc.vBefore = some y ∧ dv = y - st.acc.vFirst))) →
    x = computeResult st →
    (keff < 2 → x.value1 = 0 ∧ x.flags = { underRange := true, clip := true }) ∧
    (2 ≤ keff → dv ≤ 4 → x.value1 = 65535 ∧ x.flags = { overRange := true, clip := c }) ∧
    (2 ≤ keff → 4 < dv →
      ∃ q : Nat, q = (20 * st.acc.sumI.natAbs * (keff - 1) * t + 500 * k * dv.toNat) / (1000 * k * dv.toNat) ∧
        (q ≤ 65535 → x.value1 = q ∧ x.flags = { clip := c }) ∧
        (65535 < q → x.value1 = 65535 ∧ x.flags = { overRange := true, clip := c }))) ∧
  (∀ c m : Nat, 1 ≤ m →
    openDistance c m ≤ 65535 ∧
    (openDistance c m < 65535 → 2 * (openDistance c m * m) ≤ 200 * c + m ∧ 200 * c + m < 2 * ((openDistance c m + 1) * m)) ∧
    (openDistance c m = 65535 → 2 * (65535 * m) ≤ 200 * c + m))

/-- The verdict of five findings is the first row of the table that holds (R167). -/
def Obligations.VerdictIsTheFirstRowThatHolds : Prop :=
  ∀ f : Findings,
    (f.voltage = true → verdictOf f = .cross) ∧
    (f.voltage = false → f.ab = .short → verdictOf f = .short) ∧
    (f.voltage = false → f.ab ≠ .short →
      (f.ae = .earth → f.be = .earth → verdictOf f = .earthBoth) ∧
      (f.ae = .earth → f.be ≠ .earth → verdictOf f = .earthA) ∧
      (f.ae ≠ .earth → f.be = .earth → verdictOf f = .earthB) ∧
      (f.ae ≠ .earth → f.be ≠ .earth →
        (f.ab = .low → verdictOf f = .lowIr) ∧
        (f.ab ≠ .low → f.cap = true → verdictOf f = .openPair) ∧
        (f.ab ≠ .low → f.cap = false → (f.ab = .marg ∨ f.ae = .marg ∨ f.be = .marg) → verdictOf f = .marginal) ∧
        (f.ab ≠ .low → f.cap = false → f.ab ≠ .marg → f.ae ≠ .marg → f.be ≠ .marg → verdictOf f = .ok)))

/-- The end of a recipe writes the line's record: the verdict of its findings, the findings, the streak, the test time and the pass
number; the streak rises by one under MARGINAL, stopping at 7, and any other verdict sets it to 0 (R161, R168, R170). The last pair of
the last step, an FV or CAP one, ends the recipe: the head is detached and IDLE, the verdict of the results is formed, and a job with
keep is HELD with the verdict held, its bus CONNECTED in HOLD, while one without keep is RELEASING, its bus too, to end COMPLETE with
the verdict; here no job waits for a head (R103, R110). -/
def Obligations.RecipeEndWritesTheLineRecord : Prop :=
  (∀ (c : Ctx) (j : Job) (p : Profile) (f : Findings) (l : LineStatus),
    f = findingsOf p (c.s.standingFindings j.line) j.results → l = (c.formVerdict j p).1.s.lineStatus j.line →
    l.verdict = some (verdictOf f) ∧ l.findings = f ∧ l.testTime = c.s.link.time ∧ l.pass = c.s.sweep.pass ∧
    (verdictOf f = .marginal → l.streak = min 7 ((c.s.lineStatus j.line).streak + 1)) ∧
    (verdictOf f ≠ .marginal → l.streak = 0) ∧
    (c.formVerdict j p).2.verdict = verdictOf f ∧ (c.formVerdict j p).2.findings = f) ∧
  (∀ (s : State) (h : Head) (v i : BitVec 16) (r : HeadRecord) (st : StepInHand) (j : Job) (b : Bus) (line : Nat) (x : StepResult)
     (f : Findings),
     Calm s → r = s.headRec h → r.state = .attached → r.step = some st → r.outstanding = true →
     st.snapshot.discard ≤ st.discards → st.kind = .fv ∨ st.kind = .cap → st.snapshot.samples = st.acc.count + 1 →
     s.job? st.job = some j → (∀ k ∈ s.sched.jobs, k.id = st.job → k = j) → j.state = .measuring → j.head = some ⟨h, false⟩ →
     j.recipe.length = j.step + 1 → j.bus = some b → (s.busRec b).access = .connected → (s.busRec b).owner = some st.job →
     (s.busRec b).line = some line → (s.busRec b).head = some h → (s.busRec b).func = .measure → (s.busRec b).speech = none →
     x = computeResult { st with acc := st.acc.add v i } →
     f = findingsOf j.limits (s.standingFindings j.line) (j.results ++ [x]) →
     ∃ (t : State) (k : Job) (w : VerdictHeld), exec (.samplePair h v i) s = .next t ∧ t.job? st.job = some k ∧
       k.results = j.results ++ [x] ∧ k.step = j.step + 1 ∧ k.head = none ∧ w.verdict = verdictOf f ∧ w.findings = f ∧
       (t.lineStatus j.line).verdict = some (verdictOf f) ∧ (t.headRec h).state = .idle ∧ (t.headRec h).step = none ∧
       (t.busRec b).head = none ∧
       (j.keep = true → k.state = .held ∧ k.verdict = some w ∧ (t.busRec b).access = .connected ∧ (t.busRec b).func = .hold ∧
         ∀ p, j.source = .desk p → k.holdLimit = some (s.now + s.holdLimitOf p * 480000)) ∧
       (j.keep = false → k.state = .releasing ∧ k.outcome = some .complete ∧ k.due = some w ∧
         (t.busRec b).access = .releasing))
end

