-- ==== Sys2Proof/Laws/State.lean ====
section
/-! SUPPORT. One lemma for each field and each named update of State: what an update leaves as it was, and what the written
field reads. -/

namespace Sys2Proof.Machine

variable (s : State)

/-! ## setBusRec -/

@[simp] theorem State.setBusRec_pending (b : Bus) (r : BusRecord) : (s.setBusRec b r).pending = s.pending := rfl
@[simp] theorem State.setBusRec_now (b : Bus) (r : BusRecord) : (s.setBusRec b r).now = s.now := rfl
@[simp] theorem State.setBusRec_port (b : Bus) (r : BusRecord) : (s.setBusRec b r).port = s.port := rfl
@[simp] theorem State.setBusRec_pins (b : Bus) (r : BusRecord) : (s.setBusRec b r).pins = s.pins := rfl
@[simp] theorem State.setBusRec_resets (b : Bus) (r : BusRecord) : (s.setBusRec b r).resets = s.resets := rfl
@[simp] theorem State.setBusRec_link (b : Bus) (r : BusRecord) : (s.setBusRec b r).link = s.link := rfl
@[simp] theorem State.setBusRec_store (b : Bus) (r : BusRecord) : (s.setBusRec b r).store = s.store := rfl
@[simp] theorem State.setBusRec_watches (b : Bus) (r : BusRecord) : (s.setBusRec b r).watches = s.watches := rfl
@[simp] theorem State.setBusRec_hazards (b : Bus) (r : BusRecord) : (s.setBusRec b r).hazards = s.hazards := rfl
@[simp] theorem State.setBusRec_sched (b : Bus) (r : BusRecord) : (s.setBusRec b r).sched = s.sched := rfl
@[simp] theorem State.setBusRec_sweep (b : Bus) (r : BusRecord) : (s.setBusRec b r).sweep = s.sweep := rfl
@[simp] theorem State.setBusRec_engine (b : Bus) (r : BusRecord) : (s.setBusRec b r).engine = s.engine := rfl
@[simp] theorem State.setBusRec_lines (b : Bus) (r : BusRecord) : (s.setBusRec b r).lines = s.lines := rfl
@[simp] theorem State.setBusRec_tickets (b : Bus) (r : BusRecord) : (s.setBusRec b r).tickets = s.tickets := rfl

/-! ## setRelays -/

@[simp] theorem State.setRelays_pending (l : Nat) (r : LineRelays) : (s.setRelays l r).pending = s.pending := rfl
@[simp] theorem State.setRelays_now (l : Nat) (r : LineRelays) : (s.setRelays l r).now = s.now := rfl
@[simp] theorem State.setRelays_port (l : Nat) (r : LineRelays) : (s.setRelays l r).port = s.port := rfl
@[simp] theorem State.setRelays_pins (l : Nat) (r : LineRelays) : (s.setRelays l r).pins = s.pins := rfl
@[simp] theorem State.setRelays_resets (l : Nat) (r : LineRelays) : (s.setRelays l r).resets = s.resets := rfl
@[simp] theorem State.setRelays_link (l : Nat) (r : LineRelays) : (s.setRelays l r).link = s.link := rfl
@[simp] theorem State.setRelays_store (l : Nat) (r : LineRelays) : (s.setRelays l r).store = s.store := rfl
@[simp] theorem State.setRelays_watches (l : Nat) (r : LineRelays) : (s.setRelays l r).watches = s.watches := rfl
@[simp] theorem State.setRelays_hazards (l : Nat) (r : LineRelays) : (s.setRelays l r).hazards = s.hazards := rfl
@[simp] theorem State.setRelays_sched (l : Nat) (r : LineRelays) : (s.setRelays l r).sched = s.sched := rfl
@[simp] theorem State.setRelays_sweep (l : Nat) (r : LineRelays) : (s.setRelays l r).sweep = s.sweep := rfl
@[simp] theorem State.setRelays_engine (l : Nat) (r : LineRelays) : (s.setRelays l r).engine = s.engine := rfl
@[simp] theorem State.setRelays_lines (l : Nat) (r : LineRelays) : (s.setRelays l r).lines = s.lines := rfl
@[simp] theorem State.setRelays_tickets (l : Nat) (r : LineRelays) : (s.setRelays l r).tickets = s.tickets := rfl

/-! ## setGroupSel -/

@[simp] theorem State.setGroupSel_pending (g : Nat) (b : Option Bus) : (s.setGroupSel g b).pending = s.pending := rfl
@[simp] theorem State.setGroupSel_now (g : Nat) (b : Option Bus) : (s.setGroupSel g b).now = s.now := rfl
@[simp] theorem State.setGroupSel_port (g : Nat) (b : Option Bus) : (s.setGroupSel g b).port = s.port := rfl
@[simp] theorem State.setGroupSel_pins (g : Nat) (b : Option Bus) : (s.setGroupSel g b).pins = s.pins := rfl
@[simp] theorem State.setGroupSel_resets (g : Nat) (b : Option Bus) : (s.setGroupSel g b).resets = s.resets := rfl
@[simp] theorem State.setGroupSel_link (g : Nat) (b : Option Bus) : (s.setGroupSel g b).link = s.link := rfl
@[simp] theorem State.setGroupSel_store (g : Nat) (b : Option Bus) : (s.setGroupSel g b).store = s.store := rfl
@[simp] theorem State.setGroupSel_watches (g : Nat) (b : Option Bus) : (s.setGroupSel g b).watches = s.watches := rfl
@[simp] theorem State.setGroupSel_hazards (g : Nat) (b : Option Bus) : (s.setGroupSel g b).hazards = s.hazards := rfl
@[simp] theorem State.setGroupSel_sched (g : Nat) (b : Option Bus) : (s.setGroupSel g b).sched = s.sched := rfl
@[simp] theorem State.setGroupSel_sweep (g : Nat) (b : Option Bus) : (s.setGroupSel g b).sweep = s.sweep := rfl
@[simp] theorem State.setGroupSel_engine (g : Nat) (b : Option Bus) : (s.setGroupSel g b).engine = s.engine := rfl
@[simp] theorem State.setGroupSel_lines (g : Nat) (b : Option Bus) : (s.setGroupSel g b).lines = s.lines := rfl
@[simp] theorem State.setGroupSel_tickets (g : Nat) (b : Option Bus) : (s.setGroupSel g b).tickets = s.tickets := rfl

/-! ## setHeadSel -/

@[simp] theorem State.setHeadSel_pending (b : Bus) (h : Option Head) : (s.setHeadSel b h).pending = s.pending := rfl
@[simp] theorem State.setHeadSel_now (b : Bus) (h : Option Head) : (s.setHeadSel b h).now = s.now := rfl
@[simp] theorem State.setHeadSel_port (b : Bus) (h : Option Head) : (s.setHeadSel b h).port = s.port := rfl
@[simp] theorem State.setHeadSel_pins (b : Bus) (h : Option Head) : (s.setHeadSel b h).pins = s.pins := rfl
@[simp] theorem State.setHeadSel_resets (b : Bus) (h : Option Head) : (s.setHeadSel b h).resets = s.resets := rfl
@[simp] theorem State.setHeadSel_link (b : Bus) (h : Option Head) : (s.setHeadSel b h).link = s.link := rfl
@[simp] theorem State.setHeadSel_store (b : Bus) (h : Option Head) : (s.setHeadSel b h).store = s.store := rfl
@[simp] theorem State.setHeadSel_watches (b : Bus) (h : Option Head) : (s.setHeadSel b h).watches = s.watches := rfl
@[simp] theorem State.setHeadSel_hazards (b : Bus) (h : Option Head) : (s.setHeadSel b h).hazards = s.hazards := rfl
@[simp] theorem State.setHeadSel_sched (b : Bus) (h : Option Head) : (s.setHeadSel b h).sched = s.sched := rfl
@[simp] theorem State.setHeadSel_sweep (b : Bus) (h : Option Head) : (s.setHeadSel b h).sweep = s.sweep := rfl
@[simp] theorem State.setHeadSel_engine (b : Bus) (h : Option Head) : (s.setHeadSel b h).engine = s.engine := rfl
@[simp] theorem State.setHeadSel_lines (b : Bus) (h : Option Head) : (s.setHeadSel b h).lines = s.lines := rfl
@[simp] theorem State.setHeadSel_tickets (b : Bus) (h : Option Head) : (s.setHeadSel b h).tickets = s.tickets := rfl

/-! ## setSpeechSel -/

@[simp] theorem State.setSpeechSel_pending (b : Bus) (p : Option Speech) : (s.setSpeechSel b p).pending = s.pending := rfl
@[simp] theorem State.setSpeechSel_now (b : Bus) (p : Option Speech) : (s.setSpeechSel b p).now = s.now := rfl
@[simp] theorem State.setSpeechSel_port (b : Bus) (p : Option Speech) : (s.setSpeechSel b p).port = s.port := rfl
@[simp] theorem State.setSpeechSel_pins (b : Bus) (p : Option Speech) : (s.setSpeechSel b p).pins = s.pins := rfl
@[simp] theorem State.setSpeechSel_resets (b : Bus) (p : Option Speech) : (s.setSpeechSel b p).resets = s.resets := rfl
@[simp] theorem State.setSpeechSel_link (b : Bus) (p : Option Speech) : (s.setSpeechSel b p).link = s.link := rfl
@[simp] theorem State.setSpeechSel_store (b : Bus) (p : Option Speech) : (s.setSpeechSel b p).store = s.store := rfl
@[simp] theorem State.setSpeechSel_watches (b : Bus) (p : Option Speech) : (s.setSpeechSel b p).watches = s.watches := rfl
@[simp] theorem State.setSpeechSel_hazards (b : Bus) (p : Option Speech) : (s.setSpeechSel b p).hazards = s.hazards := rfl
@[simp] theorem State.setSpeechSel_sched (b : Bus) (p : Option Speech) : (s.setSpeechSel b p).sched = s.sched := rfl
@[simp] theorem State.setSpeechSel_sweep (b : Bus) (p : Option Speech) : (s.setSpeechSel b p).sweep = s.sweep := rfl
@[simp] theorem State.setSpeechSel_engine (b : Bus) (p : Option Speech) : (s.setSpeechSel b p).engine = s.engine := rfl
@[simp] theorem State.setSpeechSel_lines (b : Bus) (p : Option Speech) : (s.setSpeechSel b p).lines = s.lines := rfl
@[simp] theorem State.setSpeechSel_tickets (b : Bus) (p : Option Speech) : (s.setSpeechSel b p).tickets = s.tickets := rfl

/-! ## setWatchRec -/

@[simp] theorem State.setWatchRec_pending (b : Bus) (r : WatchRecord) : (s.setWatchRec b r).pending = s.pending := rfl
@[simp] theorem State.setWatchRec_now (b : Bus) (r : WatchRecord) : (s.setWatchRec b r).now = s.now := rfl
@[simp] theorem State.setWatchRec_port (b : Bus) (r : WatchRecord) : (s.setWatchRec b r).port = s.port := rfl
@[simp] theorem State.setWatchRec_pins (b : Bus) (r : WatchRecord) : (s.setWatchRec b r).pins = s.pins := rfl
@[simp] theorem State.setWatchRec_resets (b : Bus) (r : WatchRecord) : (s.setWatchRec b r).resets = s.resets := rfl
@[simp] theorem State.setWatchRec_link (b : Bus) (r : WatchRecord) : (s.setWatchRec b r).link = s.link := rfl
@[simp] theorem State.setWatchRec_store (b : Bus) (r : WatchRecord) : (s.setWatchRec b r).store = s.store := rfl
@[simp] theorem State.setWatchRec_access (b : Bus) (r : WatchRecord) : (s.setWatchRec b r).access = s.access := rfl
@[simp] theorem State.setWatchRec_hazards (b : Bus) (r : WatchRecord) : (s.setWatchRec b r).hazards = s.hazards := rfl
@[simp] theorem State.setWatchRec_sched (b : Bus) (r : WatchRecord) : (s.setWatchRec b r).sched = s.sched := rfl
@[simp] theorem State.setWatchRec_sweep (b : Bus) (r : WatchRecord) : (s.setWatchRec b r).sweep = s.sweep := rfl
@[simp] theorem State.setWatchRec_engine (b : Bus) (r : WatchRecord) : (s.setWatchRec b r).engine = s.engine := rfl
@[simp] theorem State.setWatchRec_lines (b : Bus) (r : WatchRecord) : (s.setWatchRec b r).lines = s.lines := rfl
@[simp] theorem State.setWatchRec_tickets (b : Bus) (r : WatchRecord) : (s.setWatchRec b r).tickets = s.tickets := rfl

/-! ## setHazardRec -/

@[simp] theorem State.setHazardRec_pending (b : Bus) (r : HazardRecord) : (s.setHazardRec b r).pending = s.pending := rfl
@[simp] theorem State.setHazardRec_now (b : Bus) (r : HazardRecord) : (s.setHazardRec b r).now = s.now := rfl
@[simp] theorem State.setHazardRec_port (b : Bus) (r : HazardRecord) : (s.setHazardRec b r).port = s.port := rfl
@[simp] theorem State.setHazardRec_pins (b : Bus) (r : HazardRecord) : (s.setHazardRec b r).pins = s.pins := rfl
@[simp] theorem State.setHazardRec_resets (b : Bus) (r : HazardRecord) : (s.setHazardRec b r).resets = s.resets := rfl
@[simp] theorem State.setHazardRec_link (b : Bus) (r : HazardRecord) : (s.setHazardRec b r).link = s.link := rfl
@[simp] theorem State.setHazardRec_store (b : Bus) (r : HazardRecord) : (s.setHazardRec b r).store = s.store := rfl
@[simp] theorem State.setHazardRec_access (b : Bus) (r : HazardRecord) : (s.setHazardRec b r).access = s.access := rfl
@[simp] theorem State.setHazardRec_watches (b : Bus) (r : HazardRecord) : (s.setHazardRec b r).watches = s.watches := rfl
@[simp] theorem State.setHazardRec_sched (b : Bus) (r : HazardRecord) : (s.setHazardRec b r).sched = s.sched := rfl
@[simp] theorem State.setHazardRec_sweep (b : Bus) (r : HazardRecord) : (s.setHazardRec b r).sweep = s.sweep := rfl
@[simp] theorem State.setHazardRec_engine (b : Bus) (r : HazardRecord) : (s.setHazardRec b r).engine = s.engine := rfl
@[simp] theorem State.setHazardRec_lines (b : Bus) (r : HazardRecord) : (s.setHazardRec b r).lines = s.lines := rfl
@[simp] theorem State.setHazardRec_tickets (b : Bus) (r : HazardRecord) : (s.setHazardRec b r).tickets = s.tickets := rfl

/-! ## setHeadRec -/

@[simp] theorem State.setHeadRec_pending (h : Head) (r : HeadRecord) : (s.setHeadRec h r).pending = s.pending := rfl
@[simp] theorem State.setHeadRec_now (h : Head) (r : HeadRecord) : (s.setHeadRec h r).now = s.now := rfl
@[simp] theorem State.setHeadRec_port (h : Head) (r : HeadRecord) : (s.setHeadRec h r).port = s.port := rfl
@[simp] theorem State.setHeadRec_pins (h : Head) (r : HeadRecord) : (s.setHeadRec h r).pins = s.pins := rfl
@[simp] theorem State.setHeadRec_resets (h : Head) (r : HeadRecord) : (s.setHeadRec h r).resets = s.resets := rfl
@[simp] theorem State.setHeadRec_link (h : Head) (r : HeadRecord) : (s.setHeadRec h r).link = s.link := rfl
@[simp] theorem State.setHeadRec_store (h : Head) (r : HeadRecord) : (s.setHeadRec h r).store = s.store := rfl
@[simp] theorem State.setHeadRec_access (h : Head) (r : HeadRecord) : (s.setHeadRec h r).access = s.access := rfl
@[simp] theorem State.setHeadRec_watches (h : Head) (r : HeadRecord) : (s.setHeadRec h r).watches = s.watches := rfl
@[simp] theorem State.setHeadRec_hazards (h : Head) (r : HeadRecord) : (s.setHeadRec h r).hazards = s.hazards := rfl
@[simp] theorem State.setHeadRec_sched (h : Head) (r : HeadRecord) : (s.setHeadRec h r).sched = s.sched := rfl
@[simp] theorem State.setHeadRec_sweep (h : Head) (r : HeadRecord) : (s.setHeadRec h r).sweep = s.sweep := rfl
@[simp] theorem State.setHeadRec_lines (h : Head) (r : HeadRecord) : (s.setHeadRec h r).lines = s.lines := rfl
@[simp] theorem State.setHeadRec_tickets (h : Head) (r : HeadRecord) : (s.setHeadRec h r).tickets = s.tickets := rfl

/-! ## setDirEntry -/

@[simp] theorem State.setDirEntry_pending (l : Nat) (e : DirEntry) : (s.setDirEntry l e).pending = s.pending := rfl
@[simp] theorem State.setDirEntry_now (l : Nat) (e : DirEntry) : (s.setDirEntry l e).now = s.now := rfl
@[simp] theorem State.setDirEntry_port (l : Nat) (e : DirEntry) : (s.setDirEntry l e).port = s.port := rfl
@[simp] theorem State.setDirEntry_pins (l : Nat) (e : DirEntry) : (s.setDirEntry l e).pins = s.pins := rfl
@[simp] theorem State.setDirEntry_resets (l : Nat) (e : DirEntry) : (s.setDirEntry l e).resets = s.resets := rfl
@[simp] theorem State.setDirEntry_link (l : Nat) (e : DirEntry) : (s.setDirEntry l e).link = s.link := rfl
@[simp] theorem State.setDirEntry_access (l : Nat) (e : DirEntry) : (s.setDirEntry l e).access = s.access := rfl
@[simp] theorem State.setDirEntry_watches (l : Nat) (e : DirEntry) : (s.setDirEntry l e).watches = s.watches := rfl
@[simp] theorem State.setDirEntry_hazards (l : Nat) (e : DirEntry) : (s.setDirEntry l e).hazards = s.hazards := rfl
@[simp] theorem State.setDirEntry_sched (l : Nat) (e : DirEntry) : (s.setDirEntry l e).sched = s.sched := rfl
@[simp] theorem State.setDirEntry_sweep (l : Nat) (e : DirEntry) : (s.setDirEntry l e).sweep = s.sweep := rfl
@[simp] theorem State.setDirEntry_engine (l : Nat) (e : DirEntry) : (s.setDirEntry l e).engine = s.engine := rfl
@[simp] theorem State.setDirEntry_lines (l : Nat) (e : DirEntry) : (s.setDirEntry l e).lines = s.lines := rfl
@[simp] theorem State.setDirEntry_tickets (l : Nat) (e : DirEntry) : (s.setDirEntry l e).tickets = s.tickets := rfl

/-! ## setProfile -/

@[simp] theorem State.setProfile_pending (k : Nat) (p : Profile) : (s.setProfile k p).pending = s.pending := rfl
@[simp] theorem State.setProfile_now (k : Nat) (p : Profile) : (s.setProfile k p).now = s.now := rfl
@[simp] theorem State.setProfile_port (k : Nat) (p : Profile) : (s.setProfile k p).port = s.port := rfl
@[simp] theorem State.setProfile_pins (k : Nat) (p : Profile) : (s.setProfile k p).pins = s.pins := rfl
@[simp] theorem State.setProfile_resets (k : Nat) (p : Profile) : (s.setProfile k p).resets = s.resets := rfl
@[simp] theorem State.setProfile_link (k : Nat) (p : Profile) : (s.setProfile k p).link = s.link := rfl
@[simp] theorem State.setProfile_access (k : Nat) (p : Profile) : (s.setProfile k p).access = s.access := rfl
@[simp] theorem State.setProfile_watches (k : Nat) (p : Profile) : (s.setProfile k p).watches = s.watches := rfl
@[simp] theorem State.setProfile_hazards (k : Nat) (p : Profile) : (s.setProfile k p).hazards = s.hazards := rfl
@[simp] theorem State.setProfile_sched (k : Nat) (p : Profile) : (s.setProfile k p).sched = s.sched := rfl
@[simp] theorem State.setProfile_sweep (k : Nat) (p : Profile) : (s.setProfile k p).sweep = s.sweep := rfl
@[simp] theorem State.setProfile_engine (k : Nat) (p : Profile) : (s.setProfile k p).engine = s.engine := rfl
@[simp] theorem State.setProfile_lines (k : Nat) (p : Profile) : (s.setProfile k p).lines = s.lines := rfl
@[simp] theorem State.setProfile_tickets (k : Nat) (p : Profile) : (s.setProfile k p).tickets = s.tickets := rfl

/-! ## setRoute -/

@[simp] theorem State.setRoute_pending (g : Nat) (r : Route) : (s.setRoute g r).pending = s.pending := rfl
@[simp] theorem State.setRoute_now (g : Nat) (r : Route) : (s.setRoute g r).now = s.now := rfl
@[simp] theorem State.setRoute_port (g : Nat) (r : Route) : (s.setRoute g r).port = s.port := rfl
@[simp] theorem State.setRoute_pins (g : Nat) (r : Route) : (s.setRoute g r).pins = s.pins := rfl
@[simp] theorem State.setRoute_resets (g : Nat) (r : Route) : (s.setRoute g r).resets = s.resets := rfl
@[simp] theorem State.setRoute_link (g : Nat) (r : Route) : (s.setRoute g r).link = s.link := rfl
@[simp] theorem State.setRoute_access (g : Nat) (r : Route) : (s.setRoute g r).access = s.access := rfl
@[simp] theorem State.setRoute_watches (g : Nat) (r : Route) : (s.setRoute g r).watches = s.watches := rfl
@[simp] theorem State.setRoute_hazards (g : Nat) (r : Route) : (s.setRoute g r).hazards = s.hazards := rfl
@[simp] theorem State.setRoute_sched (g : Nat) (r : Route) : (s.setRoute g r).sched = s.sched := rfl
@[simp] theorem State.setRoute_sweep (g : Nat) (r : Route) : (s.setRoute g r).sweep = s.sweep := rfl
@[simp] theorem State.setRoute_engine (g : Nat) (r : Route) : (s.setRoute g r).engine = s.engine := rfl
@[simp] theorem State.setRoute_lines (g : Nat) (r : Route) : (s.setRoute g r).lines = s.lines := rfl
@[simp] theorem State.setRoute_tickets (g : Nat) (r : Route) : (s.setRoute g r).tickets = s.tickets := rfl

/-! ## setLineStatus -/

@[simp] theorem State.setLineStatus_pending (l : Nat) (r : LineStatus) : (s.setLineStatus l r).pending = s.pending := rfl
@[simp] theorem State.setLineStatus_now (l : Nat) (r : LineStatus) : (s.setLineStatus l r).now = s.now := rfl
@[simp] theorem State.setLineStatus_port (l : Nat) (r : LineStatus) : (s.setLineStatus l r).port = s.port := rfl
@[simp] theorem State.setLineStatus_pins (l : Nat) (r : LineStatus) : (s.setLineStatus l r).pins = s.pins := rfl
@[simp] theorem State.setLineStatus_resets (l : Nat) (r : LineStatus) : (s.setLineStatus l r).resets = s.resets := rfl
@[simp] theorem State.setLineStatus_link (l : Nat) (r : LineStatus) : (s.setLineStatus l r).link = s.link := rfl
@[simp] theorem State.setLineStatus_store (l : Nat) (r : LineStatus) : (s.setLineStatus l r).store = s.store := rfl
@[simp] theorem State.setLineStatus_access (l : Nat) (r : LineStatus) : (s.setLineStatus l r).access = s.access := rfl
@[simp] theorem State.setLineStatus_watches (l : Nat) (r : LineStatus) : (s.setLineStatus l r).watches = s.watches := rfl
@[simp] theorem State.setLineStatus_hazards (l : Nat) (r : LineStatus) : (s.setLineStatus l r).hazards = s.hazards := rfl
@[simp] theorem State.setLineStatus_sched (l : Nat) (r : LineStatus) : (s.setLineStatus l r).sched = s.sched := rfl
@[simp] theorem State.setLineStatus_sweep (l : Nat) (r : LineStatus) : (s.setLineStatus l r).sweep = s.sweep := rfl
@[simp] theorem State.setLineStatus_engine (l : Nat) (r : LineStatus) : (s.setLineStatus l r).engine = s.engine := rfl
@[simp] theorem State.setLineStatus_tickets (l : Nat) (r : LineStatus) : (s.setLineStatus l r).tickets = s.tickets := rfl

/-! ## setJobs -/

@[simp] theorem State.setJobs_pending (js : List Job) : (s.setJobs js).pending = s.pending := rfl
@[simp] theorem State.setJobs_now (js : List Job) : (s.setJobs js).now = s.now := rfl
@[simp] theorem State.setJobs_port (js : List Job) : (s.setJobs js).port = s.port := rfl
@[simp] theorem State.setJobs_pins (js : List Job) : (s.setJobs js).pins = s.pins := rfl
@[simp] theorem State.setJobs_resets (js : List Job) : (s.setJobs js).resets = s.resets := rfl
@[simp] theorem State.setJobs_link (js : List Job) : (s.setJobs js).link = s.link := rfl
@[simp] theorem State.setJobs_store (js : List Job) : (s.setJobs js).store = s.store := rfl
@[simp] theorem State.setJobs_access (js : List Job) : (s.setJobs js).access = s.access := rfl
@[simp] theorem State.setJobs_watches (js : List Job) : (s.setJobs js).watches = s.watches := rfl
@[simp] theorem State.setJobs_hazards (js : List Job) : (s.setJobs js).hazards = s.hazards := rfl
@[simp] theorem State.setJobs_sched (js : List Job) : (s.setJobs js).sched = { s.sched with jobs := js } := rfl
@[simp] theorem State.setJobs_sweep (js : List Job) : (s.setJobs js).sweep = s.sweep := rfl
@[simp] theorem State.setJobs_engine (js : List Job) : (s.setJobs js).engine = s.engine := rfl
@[simp] theorem State.setJobs_lines (js : List Job) : (s.setJobs js).lines = s.lines := rfl
@[simp] theorem State.setJobs_tickets (js : List Job) : (s.setJobs js).tickets = s.tickets := rfl

/-! ## updJob -/

@[simp] theorem State.updJob_pending (n : Nat) (f : Job → Job) : (s.updJob n f).pending = s.pending := rfl
@[simp] theorem State.updJob_now (n : Nat) (f : Job → Job) : (s.updJob n f).now = s.now := rfl
@[simp] theorem State.updJob_port (n : Nat) (f : Job → Job) : (s.updJob n f).port = s.port := rfl
@[simp] theorem State.updJob_pins (n : Nat) (f : Job → Job) : (s.updJob n f).pins = s.pins := rfl
@[simp] theorem State.updJob_resets (n : Nat) (f : Job → Job) : (s.updJob n f).resets = s.resets := rfl
@[simp] theorem State.updJob_link (n : Nat) (f : Job → Job) : (s.updJob n f).link = s.link := rfl
@[simp] theorem State.updJob_store (n : Nat) (f : Job → Job) : (s.updJob n f).store = s.store := rfl
@[simp] theorem State.updJob_access (n : Nat) (f : Job → Job) : (s.updJob n f).access = s.access := rfl
@[simp] theorem State.updJob_watches (n : Nat) (f : Job → Job) : (s.updJob n f).watches = s.watches := rfl
@[simp] theorem State.updJob_hazards (n : Nat) (f : Job → Job) : (s.updJob n f).hazards = s.hazards := rfl
@[simp] theorem State.updJob_sweep (n : Nat) (f : Job → Job) : (s.updJob n f).sweep = s.sweep := rfl
@[simp] theorem State.updJob_engine (n : Nat) (f : Job → Job) : (s.updJob n f).engine = s.engine := rfl
@[simp] theorem State.updJob_lines (n : Nat) (f : Job → Job) : (s.updJob n f).lines = s.lines := rfl
@[simp] theorem State.updJob_tickets (n : Nat) (f : Job → Job) : (s.updJob n f).tickets = s.tickets := rfl

/-! ## reach -/

@[simp] theorem State.reach_pending (m : Moment) : (s.reach m).pending = s.pending := rfl
@[simp] theorem State.reach_now (m : Moment) : (s.reach m).now = max s.now m := rfl
@[simp] theorem State.reach_port (m : Moment) : (s.reach m).port = s.port := rfl
@[simp] theorem State.reach_pins (m : Moment) : (s.reach m).pins = s.pins := rfl
@[simp] theorem State.reach_resets (m : Moment) : (s.reach m).resets = s.resets := rfl
@[simp] theorem State.reach_link (m : Moment) : (s.reach m).link = s.link := rfl
@[simp] theorem State.reach_store (m : Moment) : (s.reach m).store = s.store := rfl
@[simp] theorem State.reach_access (m : Moment) : (s.reach m).access = s.access := rfl
@[simp] theorem State.reach_watches (m : Moment) : (s.reach m).watches = s.watches := rfl
@[simp] theorem State.reach_hazards (m : Moment) : (s.reach m).hazards = s.hazards := rfl
@[simp] theorem State.reach_sched (m : Moment) : (s.reach m).sched = s.sched := rfl
@[simp] theorem State.reach_sweep (m : Moment) : (s.reach m).sweep = s.sweep := rfl
@[simp] theorem State.reach_engine (m : Moment) : (s.reach m).engine = s.engine := rfl
@[simp] theorem State.reach_lines (m : Moment) : (s.reach m).lines = s.lines := rfl
@[simp] theorem State.reach_tickets (m : Moment) : (s.reach m).tickets = s.tickets := rfl

/-! ## setSweep -/

@[simp] theorem State.setSweep_pending (w : Sweep) : (s.setSweep w).pending = s.pending := rfl
@[simp] theorem State.setSweep_now (w : Sweep) : (s.setSweep w).now = s.now := rfl
@[simp] theorem State.setSweep_port (w : Sweep) : (s.setSweep w).port = s.port := rfl
@[simp] theorem State.setSweep_pins (w : Sweep) : (s.setSweep w).pins = s.pins := rfl
@[simp] theorem State.setSweep_resets (w : Sweep) : (s.setSweep w).resets = s.resets := rfl
@[simp] theorem State.setSweep_link (w : Sweep) : (s.setSweep w).link = s.link := rfl
@[simp] theorem State.setSweep_store (w : Sweep) : (s.setSweep w).store = s.store := rfl
@[simp] theorem State.setSweep_access (w : Sweep) : (s.setSweep w).access = s.access := rfl
@[simp] theorem State.setSweep_watches (w : Sweep) : (s.setSweep w).watches = s.watches := rfl
@[simp] theorem State.setSweep_hazards (w : Sweep) : (s.setSweep w).hazards = s.hazards := rfl
@[simp] theorem State.setSweep_sched (w : Sweep) : (s.setSweep w).sched = s.sched := rfl
@[simp] theorem State.setSweep_sweep (w : Sweep) : (s.setSweep w).sweep = w := rfl
@[simp] theorem State.setSweep_engine (w : Sweep) : (s.setSweep w).engine = s.engine := rfl
@[simp] theorem State.setSweep_lines (w : Sweep) : (s.setSweep w).lines = s.lines := rfl
@[simp] theorem State.setSweep_tickets (w : Sweep) : (s.setSweep w).tickets = s.tickets := rfl

/-! ## setTickets -/

@[simp] theorem State.setTickets_pending (ts : List Ticket) : (s.setTickets ts).pending = s.pending := rfl
@[simp] theorem State.setTickets_now (ts : List Ticket) : (s.setTickets ts).now = s.now := rfl
@[simp] theorem State.setTickets_port (ts : List Ticket) : (s.setTickets ts).port = s.port := rfl
@[simp] theorem State.setTickets_pins (ts : List Ticket) : (s.setTickets ts).pins = s.pins := rfl
@[simp] theorem State.setTickets_resets (ts : List Ticket) : (s.setTickets ts).resets = s.resets := rfl
@[simp] theorem State.setTickets_link (ts : List Ticket) : (s.setTickets ts).link = s.link := rfl
@[simp] theorem State.setTickets_store (ts : List Ticket) : (s.setTickets ts).store = s.store := rfl
@[simp] theorem State.setTickets_access (ts : List Ticket) : (s.setTickets ts).access = s.access := rfl
@[simp] theorem State.setTickets_watches (ts : List Ticket) : (s.setTickets ts).watches = s.watches := rfl
@[simp] theorem State.setTickets_hazards (ts : List Ticket) : (s.setTickets ts).hazards = s.hazards := rfl
@[simp] theorem State.setTickets_sched (ts : List Ticket) : (s.setTickets ts).sched = s.sched := rfl
@[simp] theorem State.setTickets_sweep (ts : List Ticket) : (s.setTickets ts).sweep = s.sweep := rfl
@[simp] theorem State.setTickets_engine (ts : List Ticket) : (s.setTickets ts).engine = s.engine := rfl
@[simp] theorem State.setTickets_lines (ts : List Ticket) : (s.setTickets ts).lines = s.lines := rfl
@[simp] theorem State.setTickets_tickets (ts : List Ticket) : (s.setTickets ts).tickets = { s.tickets with table := ts } := rfl

/-! ## updTicket -/

@[simp] theorem State.updTicket_pending (n : Nat) (f : Ticket → Ticket) : (s.updTicket n f).pending = s.pending := rfl
@[simp] theorem State.updTicket_now (n : Nat) (f : Ticket → Ticket) : (s.updTicket n f).now = s.now := rfl
@[simp] theorem State.updTicket_port (n : Nat) (f : Ticket → Ticket) : (s.updTicket n f).port = s.port := rfl
@[simp] theorem State.updTicket_pins (n : Nat) (f : Ticket → Ticket) : (s.updTicket n f).pins = s.pins := rfl
@[simp] theorem State.updTicket_resets (n : Nat) (f : Ticket → Ticket) : (s.updTicket n f).resets = s.resets := rfl
@[simp] theorem State.updTicket_link (n : Nat) (f : Ticket → Ticket) : (s.updTicket n f).link = s.link := rfl
@[simp] theorem State.updTicket_store (n : Nat) (f : Ticket → Ticket) : (s.updTicket n f).store = s.store := rfl
@[simp] theorem State.updTicket_access (n : Nat) (f : Ticket → Ticket) : (s.updTicket n f).access = s.access := rfl
@[simp] theorem State.updTicket_watches (n : Nat) (f : Ticket → Ticket) : (s.updTicket n f).watches = s.watches := rfl
@[simp] theorem State.updTicket_hazards (n : Nat) (f : Ticket → Ticket) : (s.updTicket n f).hazards = s.hazards := rfl
@[simp] theorem State.updTicket_sched (n : Nat) (f : Ticket → Ticket) : (s.updTicket n f).sched = s.sched := rfl
@[simp] theorem State.updTicket_sweep (n : Nat) (f : Ticket → Ticket) : (s.updTicket n f).sweep = s.sweep := rfl
@[simp] theorem State.updTicket_engine (n : Nat) (f : Ticket → Ticket) : (s.updTicket n f).engine = s.engine := rfl
@[simp] theorem State.updTicket_lines (n : Nat) (f : Ticket → Ticket) : (s.updTicket n f).lines = s.lines := rfl

/-! ## reply -/

@[simp] theorem State.reply_pending (k t : Byte) (x : ReplyContent) : (s.reply k t x).pending = s.pending := rfl
@[simp] theorem State.reply_now (k t : Byte) (x : ReplyContent) : (s.reply k t x).now = s.now := rfl
@[simp] theorem State.reply_port (k t : Byte) (x : ReplyContent) : (s.reply k t x).port = s.port := rfl
@[simp] theorem State.reply_pins (k t : Byte) (x : ReplyContent) : (s.reply k t x).pins = s.pins := rfl
@[simp] theorem State.reply_resets (k t : Byte) (x : ReplyContent) : (s.reply k t x).resets = s.resets := rfl
@[simp] theorem State.reply_store (k t : Byte) (x : ReplyContent) : (s.reply k t x).store = s.store := rfl
@[simp] theorem State.reply_access (k t : Byte) (x : ReplyContent) : (s.reply k t x).access = s.access := rfl
@[simp] theorem State.reply_watches (k t : Byte) (x : ReplyContent) : (s.reply k t x).watches = s.watches := rfl
@[simp] theorem State.reply_hazards (k t : Byte) (x : ReplyContent) : (s.reply k t x).hazards = s.hazards := rfl
@[simp] theorem State.reply_sched (k t : Byte) (x : ReplyContent) : (s.reply k t x).sched = s.sched := rfl
@[simp] theorem State.reply_sweep (k t : Byte) (x : ReplyContent) : (s.reply k t x).sweep = s.sweep := rfl
@[simp] theorem State.reply_engine (k t : Byte) (x : ReplyContent) : (s.reply k t x).engine = s.engine := rfl
@[simp] theorem State.reply_lines (k t : Byte) (x : ReplyContent) : (s.reply k t x).lines = s.lines := rfl
@[simp] theorem State.reply_tickets (k t : Byte) (x : ReplyContent) : (s.reply k t x).tickets = s.tickets := rfl

/-! ## hunt -/

@[simp] theorem State.hunt_pending : (s.hunt).pending = s.pending := rfl
@[simp] theorem State.hunt_now : (s.hunt).now = s.now := rfl
@[simp] theorem State.hunt_port : (s.hunt).port = s.port := rfl
@[simp] theorem State.hunt_pins : (s.hunt).pins = s.pins := rfl
@[simp] theorem State.hunt_resets : (s.hunt).resets = s.resets := rfl
@[simp] theorem State.hunt_store : (s.hunt).store = s.store := rfl
@[simp] theorem State.hunt_access : (s.hunt).access = s.access := rfl
@[simp] theorem State.hunt_watches : (s.hunt).watches = s.watches := rfl
@[simp] theorem State.hunt_hazards : (s.hunt).hazards = s.hazards := rfl
@[simp] theorem State.hunt_sched : (s.hunt).sched = s.sched := rfl
@[simp] theorem State.hunt_sweep : (s.hunt).sweep = s.sweep := rfl
@[simp] theorem State.hunt_engine : (s.hunt).engine = s.engine := rfl
@[simp] theorem State.hunt_lines : (s.hunt).lines = s.lines := rfl
@[simp] theorem State.hunt_tickets : (s.hunt).tickets = s.tickets := rfl

/-! ## receive -/

@[simp] theorem State.receive_pending (x : Receiver) : (s.receive x).pending = s.pending := rfl
@[simp] theorem State.receive_now (x : Receiver) : (s.receive x).now = s.now := rfl
@[simp] theorem State.receive_port (x : Receiver) : (s.receive x).port = s.port := rfl
@[simp] theorem State.receive_pins (x : Receiver) : (s.receive x).pins = s.pins := rfl
@[simp] theorem State.receive_resets (x : Receiver) : (s.receive x).resets = s.resets := rfl
@[simp] theorem State.receive_store (x : Receiver) : (s.receive x).store = s.store := rfl
@[simp] theorem State.receive_access (x : Receiver) : (s.receive x).access = s.access := rfl
@[simp] theorem State.receive_watches (x : Receiver) : (s.receive x).watches = s.watches := rfl
@[simp] theorem State.receive_hazards (x : Receiver) : (s.receive x).hazards = s.hazards := rfl
@[simp] theorem State.receive_sched (x : Receiver) : (s.receive x).sched = s.sched := rfl
@[simp] theorem State.receive_sweep (x : Receiver) : (s.receive x).sweep = s.sweep := rfl
@[simp] theorem State.receive_engine (x : Receiver) : (s.receive x).engine = s.engine := rfl
@[simp] theorem State.receive_lines (x : Receiver) : (s.receive x).lines = s.lines := rfl
@[simp] theorem State.receive_tickets (x : Receiver) : (s.receive x).tickets = s.tickets := rfl

/-! ## The context of an event -/

@[simp] theorem Ctx.upd_s (c : Ctx) (f : State → State) : (c.upd f).s = f c.s := rfl
@[simp] theorem Ctx.upd_out (c : Ctx) (f : State → State) : (c.upd f).out = c.out := rfl
@[simp] theorem Ctx.upd_walkDue (c : Ctx) (f : State → State) : (c.upd f).walkDue = c.walkDue := rfl
@[simp] theorem Ctx.upd_issueDue (c : Ctx) (f : State → State) : (c.upd f).issueDue = c.issueDue := rfl
@[simp] theorem Ctx.put_s (c : Ctx) (i : OutItem) : (c.put i).s = c.s := rfl
@[simp] theorem Ctx.put_out (c : Ctx) (i : OutItem) : (c.put i).out = c.out ++ [i] := rfl
@[simp] theorem Ctx.put_walkDue (c : Ctx) (i : OutItem) : (c.put i).walkDue = c.walkDue := rfl
@[simp] theorem Ctx.put_issueDue (c : Ctx) (i : OutItem) : (c.put i).issueDue = c.issueDue := rfl
@[simp] theorem Ctx.walk_s (c : Ctx) : (c.walk).s = c.s := rfl
@[simp] theorem Ctx.walk_out (c : Ctx) : (c.walk).out = c.out := rfl
@[simp] theorem Ctx.walk_walkDue (c : Ctx) : (c.walk).walkDue = true := rfl
@[simp] theorem Ctx.walk_issueDue (c : Ctx) : (c.walk).issueDue = c.issueDue := rfl
@[simp] theorem Ctx.issue_s (c : Ctx) : (c.issue).s = c.s := rfl
@[simp] theorem Ctx.issue_out (c : Ctx) : (c.issue).out = c.out := rfl
@[simp] theorem Ctx.issue_walkDue (c : Ctx) : (c.issue).walkDue = c.walkDue := rfl
@[simp] theorem Ctx.issue_issueDue (c : Ctx) : (c.issue).issueDue = true := rfl
@[simp] theorem Ctx.send_s (c : Ctx) (m : PortMessage) : (c.send m).s = { c.s with port := c.s.port ++ [m] } := rfl
@[simp] theorem Ctx.send_out (c : Ctx) (m : PortMessage) : (c.send m).out = c.out := rfl
@[simp] theorem Ctx.send_walkDue (c : Ctx) (m : PortMessage) : (c.send m).walkDue = c.walkDue := rfl
@[simp] theorem Ctx.send_issueDue (c : Ctx) (m : PortMessage) : (c.send m).issueDue = c.issueDue := rfl
@[simp] theorem Ctx.jobChanged_s (c : Ctx) (n : Nat) (k : JobNote) (e : Bool) : (c.jobChanged n k e).s = c.s := rfl
@[simp] theorem Ctx.jobChanged_walkDue (c : Ctx) (n : Nat) (k : JobNote) (e : Bool) : (c.jobChanged n k e).walkDue = c.walkDue := rfl
@[simp] theorem Ctx.jobChanged_issueDue (c : Ctx) (n : Nat) (k : JobNote) (e : Bool) : (c.jobChanged n k e).issueDue = c.issueDue := rfl
@[simp] theorem Ctx.jobGone_s (c : Ctx) (n : Nat) : (c.jobGone n).s = c.s := rfl
@[simp] theorem Ctx.jobGone_out (c : Ctx) (n : Nat) : (c.jobGone n).out = c.out.filter (fun i => !i.isStateOf n) := rfl
@[simp] theorem Ctx.jobGone_walkDue (c : Ctx) (n : Nat) : (c.jobGone n).walkDue = c.walkDue := rfl
@[simp] theorem Ctx.jobGone_issueDue (c : Ctx) (n : Nat) : (c.jobGone n).issueDue = c.issueDue := rfl

end Sys2Proof.Machine
end

