-- ==== Sys2Proof/Laws/Table.lean ====
section
/-! SUPPORT. The laws of a sparse table: a read after a write, and the canonical form that every write keeps. -/

namespace Sys2Proof

variable {α : Type}

theorem Table.get_erase_same (d : α) (t : Table α) (k : Nat) : Table.get d (Table.erase t k) k = d := by
  induction t with
  | nil => rfl
  | cons p t ih =>
    obtain ⟨k', v⟩ := p
    by_cases h : k' = k
    · simpa [Table.erase, h] using ih
    · simpa [Table.erase, Table.get, h] using ih

theorem Table.get_erase_other (d : α) (t : Table α) {k j : Nat} (h : j ≠ k) :
    Table.get d (Table.erase t k) j = Table.get d t j := by
  induction t with
  | nil => rfl
  | cons p t ih =>
    obtain ⟨k', v⟩ := p
    by_cases hk : k' = k
    · subst hk
      simpa [Table.erase, Table.get, h.symm] using ih
    · by_cases hj : k' = j
      · subst hj
        simp [Table.erase, Table.get, hk]
      · simpa [Table.erase, Table.get, hk, hj] using ih

theorem Table.get_insert_erase (d : α) (t : Table α) (k : Nat) (v : α) :
    Table.get d (Table.insert (Table.erase t k) k v) k = v := by
  induction t with
  | nil => simp [Table.erase, Table.insert, Table.get]
  | cons p t ih =>
    obtain ⟨k', v'⟩ := p
    by_cases hk : k' = k
    · simpa [Table.erase, hk] using ih
    · by_cases hlt : k < k'
      · simp [Table.erase, hk, Table.insert, hlt, Table.get]
      · simpa [Table.erase, hk, Table.insert, hlt, Table.get] using ih

theorem Table.get_insert_other (d : α) (t : Table α) {k j : Nat} (v : α) (h : j ≠ k) :
    Table.get d (Table.insert t k v) j = Table.get d t j := by
  induction t with
  | nil => simp [Table.insert, Table.get, h.symm]
  | cons p t ih =>
    obtain ⟨k', v'⟩ := p
    by_cases hlt : k < k'
    · simp [Table.insert, hlt, Table.get, h.symm]
    · by_cases hj : k' = j
      · subst hj
        simp [Table.insert, hlt, Table.get]
      · simpa [Table.insert, hlt, Table.get, hj] using ih

/-- A key reads as it was set. -/
@[simp] theorem Table.get_set_same [DecidableEq α] (d : α) (t : Table α) (k : Nat) (v : α) :
    Table.get d (Table.set d t k v) k = v := by
  by_cases h : v = d
  · simp [Table.set, h, Table.get_erase_same]
  · simp [Table.set, h, Table.get_insert_erase]

/-- Every other key reads as before. -/
theorem Table.get_set_other [DecidableEq α] (d : α) (t : Table α) {k j : Nat} (v : α) (h : j ≠ k) :
    Table.get d (Table.set d t k v) j = Table.get d t j := by
  by_cases hv : v = d
  · simp [Table.set, hv, Table.get_erase_other d t h]
  · simp [Table.set, hv, Table.get_insert_other d _ v h, Table.get_erase_other d t h]

/-- Setting a key reads as an update of the function `get`. -/
theorem Table.get_set [DecidableEq α] (d : α) (t : Table α) (k j : Nat) (v : α) :
    Table.get d (Table.set d t k v) j = if j = k then v else Table.get d t j := by
  by_cases h : j = k
  · simp [h]
  · simp [h, Table.get_set_other d t v h]

theorem Table.mem_erase {t : Table α} {k : Nat} {p : Nat × α} : p ∈ Table.erase t k → p ∈ t ∧ p.1 ≠ k := by
  induction t with
  | nil => simp [Table.erase]
  | cons q t ih =>
    obtain ⟨k', v'⟩ := q
    by_cases hk : k' = k
    · intro hp
      rw [Table.erase, if_pos hk] at hp
      exact ⟨.tail _ (ih hp).1, (ih hp).2⟩
    · intro hp
      rw [Table.erase, if_neg hk] at hp
      rcases List.mem_cons.1 hp with rfl | hp
      · exact ⟨.head _, hk⟩
      · exact ⟨.tail _ (ih hp).1, (ih hp).2⟩

theorem Table.mem_insert {t : Table α} {k : Nat} {v : α} {p : Nat × α} :
    p ∈ Table.insert t k v → p = (k, v) ∨ p ∈ t := by
  induction t with
  | nil => simp [Table.insert]
  | cons q t ih =>
    obtain ⟨k', v'⟩ := q
    by_cases hlt : k < k'
    · simp [Table.insert, hlt]
    · intro hp
      rw [Table.insert, if_neg hlt] at hp
      rcases List.mem_cons.1 hp with rfl | hp
      · exact .inr (.head _)
      · exact (ih hp).imp id (.tail _)

theorem Table.wf_erase [DecidableEq α] (d : α) {t : Table α} (k : Nat) (h : Table.wf d t = true) :
    Table.wf d (Table.erase t k) = true := by
  induction t with
  | nil => rfl
  | cons q t ih =>
    obtain ⟨k', v'⟩ := q
    simp only [Table.wf, Bool.and_eq_true, List.all_eq_true, decide_eq_true_eq] at h
    by_cases hk : k' = k
    · simpa [Table.erase, hk] using ih h.2
    · simp only [Table.erase, hk, if_false, Table.wf, Bool.and_eq_true, List.all_eq_true, decide_eq_true_eq]
      exact ⟨⟨h.1.1, fun p hp => h.1.2 p (Table.mem_erase hp).1⟩, ih h.2⟩

theorem Table.wf_insert [DecidableEq α] (d : α) {t : Table α} {k : Nat} {v : α} (hv : v ≠ d)
    (hk : ∀ p ∈ t, p.1 ≠ k) (h : Table.wf d t = true) : Table.wf d (Table.insert t k v) = true := by
  induction t with
  | nil => simp [Table.insert, Table.wf, hv]
  | cons q t ih =>
    obtain ⟨k', v'⟩ := q
    simp only [Table.wf, Bool.and_eq_true, List.all_eq_true, decide_eq_true_eq] at h
    by_cases hlt : k < k'
    · simp only [Table.insert, hlt, if_true, Table.wf, Bool.and_eq_true, List.all_eq_true, decide_eq_true_eq]
      refine ⟨⟨hv, fun p hp => ?_⟩, h⟩
      rcases List.mem_cons.1 hp with rfl | hp
      · exact hlt
      · exact lt_trans hlt (h.1.2 p hp)
    · have hne : k' ≠ k := hk (k', v') (.head _)
      simp only [Table.insert, hlt, if_false, Table.wf, Bool.and_eq_true, List.all_eq_true, decide_eq_true_eq]
      refine ⟨⟨h.1.1, fun p hp => ?_⟩, ih (fun p hp => hk p (.tail _ hp)) h.2⟩
      rcases Table.mem_insert hp with rfl | hp
      · exact lt_of_le_of_ne (not_lt.1 hlt) hne
      · exact h.1.2 p hp

/-- Every write keeps the canonical form. -/
theorem Table.wf_set [DecidableEq α] (d : α) {t : Table α} (k : Nat) (v : α) (h : Table.wf d t = true) :
    Table.wf d (Table.set d t k v) = true := by
  by_cases hv : v = d
  · simpa [Table.set, hv] using Table.wf_erase d k h
  · simpa [Table.set, hv] using
      Table.wf_insert d hv (fun p hp => (Table.mem_erase hp).2) (Table.wf_erase d k h)

/-- The empty table reads as its reset value everywhere. -/
@[simp] theorem Table.get_nil (d : α) (k : Nat) : Table.get d ([] : Table α) k = d := rfl

end Sys2Proof
end

