-- ==== Sys2Proof/Laws/Records.lean ====
section
/-! SUPPORT. What each named reader of one record reads after each named update. -/

namespace Sys2Proof.Machine

variable (s : State)

/-! ## setBusRec -/

theorem State.setBusRec_busRec (b : Bus) (b' : Bus) (r : BusRecord) : (s.setBusRec b' r).busRec b = if b = b' then r else s.busRec b := by
  simp only [State.busRec, State.setBusRec, Table.get_set, Fin.ext_iff]
@[simp] theorem State.setBusRec_busRec_same (b' : Bus) (r : BusRecord) : (s.setBusRec b' r).busRec b' = r := by simp [State.setBusRec_busRec]
@[simp] theorem State.setBusRec_relaysOf (l : Nat) (b' : Bus) (r : BusRecord) : (s.setBusRec b' r).relaysOf l = s.relaysOf l := rfl
@[simp] theorem State.setBusRec_groupSelOf (g : Nat) (b' : Bus) (r : BusRecord) : (s.setBusRec b' r).groupSelOf g = s.groupSelOf g := rfl
@[simp] theorem State.setBusRec_headSelOf (b : Bus) (b' : Bus) (r : BusRecord) : (s.setBusRec b' r).headSelOf b = s.headSelOf b := rfl
@[simp] theorem State.setBusRec_speechSelOf (b : Bus) (b' : Bus) (r : BusRecord) : (s.setBusRec b' r).speechSelOf b = s.speechSelOf b := rfl
@[simp] theorem State.setBusRec_watchRec (b : Bus) (b' : Bus) (r : BusRecord) : (s.setBusRec b' r).watchRec b = s.watchRec b := rfl
@[simp] theorem State.setBusRec_hazardRec (b : Bus) (b' : Bus) (r : BusRecord) : (s.setBusRec b' r).hazardRec b = s.hazardRec b := rfl
@[simp] theorem State.setBusRec_headRec (h : Head) (b' : Bus) (r : BusRecord) : (s.setBusRec b' r).headRec h = s.headRec h := rfl
@[simp] theorem State.setBusRec_dirEntry (l : Nat) (b' : Bus) (r : BusRecord) : (s.setBusRec b' r).dirEntry l = s.dirEntry l := rfl
@[simp] theorem State.setBusRec_profile (k : Nat) (b' : Bus) (r : BusRecord) : (s.setBusRec b' r).profile k = s.profile k := rfl
@[simp] theorem State.setBusRec_route (g : Nat) (b' : Bus) (r : BusRecord) : (s.setBusRec b' r).route g = s.route g := rfl
@[simp] theorem State.setBusRec_lineStatus (l : Nat) (b' : Bus) (r : BusRecord) : (s.setBusRec b' r).lineStatus l = s.lineStatus l := rfl
@[simp] theorem State.setBusRec_rawLoop (b : Bus) (b' : Bus) (r : BusRecord) : (s.setBusRec b' r).rawLoop b = s.rawLoop b := rfl
@[simp] theorem State.setBusRec_holdLimitOf (p : Nat) (b' : Bus) (r : BusRecord) : (s.setBusRec b' r).holdLimitOf p = s.holdLimitOf p := rfl
@[simp] theorem State.setBusRec_jobOf (n : Nat) (b' : Bus) (r : BusRecord) : (s.setBusRec b' r).job? n = s.job? n := rfl
@[simp] theorem State.setBusRec_ticketOf (n : Nat) (b' : Bus) (r : BusRecord) : (s.setBusRec b' r).ticket? n = s.ticket? n := rfl

/-! ## setRelays -/

@[simp] theorem State.setRelays_busRec (b : Bus) (k' : Nat) (r : LineRelays) : (s.setRelays k' r).busRec b = s.busRec b := rfl
theorem State.setRelays_relaysOf (l : Nat) (k' : Nat) (r : LineRelays) : (s.setRelays k' r).relaysOf l = if l = k' then r else s.relaysOf l := by
  exact Table.get_set _ _ _ _ _
@[simp] theorem State.setRelays_relaysOf_same (k' : Nat) (r : LineRelays) : (s.setRelays k' r).relaysOf k' = r := by simp [State.setRelays_relaysOf]
@[simp] theorem State.setRelays_groupSelOf (g : Nat) (k' : Nat) (r : LineRelays) : (s.setRelays k' r).groupSelOf g = s.groupSelOf g := rfl
@[simp] theorem State.setRelays_headSelOf (b : Bus) (k' : Nat) (r : LineRelays) : (s.setRelays k' r).headSelOf b = s.headSelOf b := rfl
@[simp] theorem State.setRelays_speechSelOf (b : Bus) (k' : Nat) (r : LineRelays) : (s.setRelays k' r).speechSelOf b = s.speechSelOf b := rfl
@[simp] theorem State.setRelays_watchRec (b : Bus) (k' : Nat) (r : LineRelays) : (s.setRelays k' r).watchRec b = s.watchRec b := rfl
@[simp] theorem State.setRelays_hazardRec (b : Bus) (k' : Nat) (r : LineRelays) : (s.setRelays k' r).hazardRec b = s.hazardRec b := rfl
@[simp] theorem State.setRelays_headRec (h : Head) (k' : Nat) (r : LineRelays) : (s.setRelays k' r).headRec h = s.headRec h := rfl
@[simp] theorem State.setRelays_dirEntry (l : Nat) (k' : Nat) (r : LineRelays) : (s.setRelays k' r).dirEntry l = s.dirEntry l := rfl
@[simp] theorem State.setRelays_profile (k : Nat) (k' : Nat) (r : LineRelays) : (s.setRelays k' r).profile k = s.profile k := rfl
@[simp] theorem State.setRelays_route (g : Nat) (k' : Nat) (r : LineRelays) : (s.setRelays k' r).route g = s.route g := rfl
@[simp] theorem State.setRelays_lineStatus (l : Nat) (k' : Nat) (r : LineRelays) : (s.setRelays k' r).lineStatus l = s.lineStatus l := rfl
@[simp] theorem State.setRelays_rawLoop (b : Bus) (k' : Nat) (r : LineRelays) : (s.setRelays k' r).rawLoop b = s.rawLoop b := rfl
@[simp] theorem State.setRelays_holdLimitOf (p : Nat) (k' : Nat) (r : LineRelays) : (s.setRelays k' r).holdLimitOf p = s.holdLimitOf p := rfl
@[simp] theorem State.setRelays_jobOf (n : Nat) (k' : Nat) (r : LineRelays) : (s.setRelays k' r).job? n = s.job? n := rfl
@[simp] theorem State.setRelays_ticketOf (n : Nat) (k' : Nat) (r : LineRelays) : (s.setRelays k' r).ticket? n = s.ticket? n := rfl

/-! ## setGroupSel -/

@[simp] theorem State.setGroupSel_busRec (b : Bus) (k' : Nat) (r : Option Bus) : (s.setGroupSel k' r).busRec b = s.busRec b := rfl
@[simp] theorem State.setGroupSel_relaysOf (l : Nat) (k' : Nat) (r : Option Bus) : (s.setGroupSel k' r).relaysOf l = s.relaysOf l := rfl
theorem State.setGroupSel_groupSelOf (g : Nat) (k' : Nat) (r : Option Bus) : (s.setGroupSel k' r).groupSelOf g = if g = k' then r else s.groupSelOf g := by
  exact Table.get_set _ _ _ _ _
@[simp] theorem State.setGroupSel_groupSelOf_same (k' : Nat) (r : Option Bus) : (s.setGroupSel k' r).groupSelOf k' = r := by simp [State.setGroupSel_groupSelOf]
@[simp] theorem State.setGroupSel_headSelOf (b : Bus) (k' : Nat) (r : Option Bus) : (s.setGroupSel k' r).headSelOf b = s.headSelOf b := rfl
@[simp] theorem State.setGroupSel_speechSelOf (b : Bus) (k' : Nat) (r : Option Bus) : (s.setGroupSel k' r).speechSelOf b = s.speechSelOf b := rfl
@[simp] theorem State.setGroupSel_watchRec (b : Bus) (k' : Nat) (r : Option Bus) : (s.setGroupSel k' r).watchRec b = s.watchRec b := rfl
@[simp] theorem State.setGroupSel_hazardRec (b : Bus) (k' : Nat) (r : Option Bus) : (s.setGroupSel k' r).hazardRec b = s.hazardRec b := rfl
@[simp] theorem State.setGroupSel_headRec (h : Head) (k' : Nat) (r : Option Bus) : (s.setGroupSel k' r).headRec h = s.headRec h := rfl
@[simp] theorem State.setGroupSel_dirEntry (l : Nat) (k' : Nat) (r : Option Bus) : (s.setGroupSel k' r).dirEntry l = s.dirEntry l := rfl
@[simp] theorem State.setGroupSel_profile (k : Nat) (k' : Nat) (r : Option Bus) : (s.setGroupSel k' r).profile k = s.profile k := rfl
@[simp] theorem State.setGroupSel_route (g : Nat) (k' : Nat) (r : Option Bus) : (s.setGroupSel k' r).route g = s.route g := rfl
@[simp] theorem State.setGroupSel_lineStatus (l : Nat) (k' : Nat) (r : Option Bus) : (s.setGroupSel k' r).lineStatus l = s.lineStatus l := rfl
@[simp] theorem State.setGroupSel_rawLoop (b : Bus) (k' : Nat) (r : Option Bus) : (s.setGroupSel k' r).rawLoop b = s.rawLoop b := rfl
@[simp] theorem State.setGroupSel_holdLimitOf (p : Nat) (k' : Nat) (r : Option Bus) : (s.setGroupSel k' r).holdLimitOf p = s.holdLimitOf p := rfl
@[simp] theorem State.setGroupSel_jobOf (n : Nat) (k' : Nat) (r : Option Bus) : (s.setGroupSel k' r).job? n = s.job? n := rfl
@[simp] theorem State.setGroupSel_ticketOf (n : Nat) (k' : Nat) (r : Option Bus) : (s.setGroupSel k' r).ticket? n = s.ticket? n := rfl

/-! ## setHeadSel -/

@[simp] theorem State.setHeadSel_busRec (b : Bus) (b' : Bus) (r : Option Head) : (s.setHeadSel b' r).busRec b = s.busRec b := rfl
@[simp] theorem State.setHeadSel_relaysOf (l : Nat) (b' : Bus) (r : Option Head) : (s.setHeadSel b' r).relaysOf l = s.relaysOf l := rfl
@[simp] theorem State.setHeadSel_groupSelOf (g : Nat) (b' : Bus) (r : Option Head) : (s.setHeadSel b' r).groupSelOf g = s.groupSelOf g := rfl
theorem State.setHeadSel_headSelOf (b : Bus) (b' : Bus) (r : Option Head) : (s.setHeadSel b' r).headSelOf b = if b = b' then r else s.headSelOf b := by
  simp only [State.headSelOf, State.setHeadSel, Table.get_set, Fin.ext_iff]
@[simp] theorem State.setHeadSel_headSelOf_same (b' : Bus) (r : Option Head) : (s.setHeadSel b' r).headSelOf b' = r := by simp [State.setHeadSel_headSelOf]
@[simp] theorem State.setHeadSel_speechSelOf (b : Bus) (b' : Bus) (r : Option Head) : (s.setHeadSel b' r).speechSelOf b = s.speechSelOf b := rfl
@[simp] theorem State.setHeadSel_watchRec (b : Bus) (b' : Bus) (r : Option Head) : (s.setHeadSel b' r).watchRec b = s.watchRec b := rfl
@[simp] theorem State.setHeadSel_hazardRec (b : Bus) (b' : Bus) (r : Option Head) : (s.setHeadSel b' r).hazardRec b = s.hazardRec b := rfl
@[simp] theorem State.setHeadSel_headRec (h : Head) (b' : Bus) (r : Option Head) : (s.setHeadSel b' r).headRec h = s.headRec h := rfl
@[simp] theorem State.setHeadSel_dirEntry (l : Nat) (b' : Bus) (r : Option Head) : (s.setHeadSel b' r).dirEntry l = s.dirEntry l := rfl
@[simp] theorem State.setHeadSel_profile (k : Nat) (b' : Bus) (r : Option Head) : (s.setHeadSel b' r).profile k = s.profile k := rfl
@[simp] theorem State.setHeadSel_route (g : Nat) (b' : Bus) (r : Option Head) : (s.setHeadSel b' r).route g = s.route g := rfl
@[simp] theorem State.setHeadSel_lineStatus (l : Nat) (b' : Bus) (r : Option Head) : (s.setHeadSel b' r).lineStatus l = s.lineStatus l := rfl
@[simp] theorem State.setHeadSel_rawLoop (b : Bus) (b' : Bus) (r : Option Head) : (s.setHeadSel b' r).rawLoop b = s.rawLoop b := rfl
@[simp] theorem State.setHeadSel_holdLimitOf (p : Nat) (b' : Bus) (r : Option Head) : (s.setHeadSel b' r).holdLimitOf p = s.holdLimitOf p := rfl
@[simp] theorem State.setHeadSel_jobOf (n : Nat) (b' : Bus) (r : Option Head) : (s.setHeadSel b' r).job? n = s.job? n := rfl
@[simp] theorem State.setHeadSel_ticketOf (n : Nat) (b' : Bus) (r : Option Head) : (s.setHeadSel b' r).ticket? n = s.ticket? n := rfl

/-! ## setSpeechSel -/

@[simp] theorem State.setSpeechSel_busRec (b : Bus) (b' : Bus) (r : Option Speech) : (s.setSpeechSel b' r).busRec b = s.busRec b := rfl
@[simp] theorem State.setSpeechSel_relaysOf (l : Nat) (b' : Bus) (r : Option Speech) : (s.setSpeechSel b' r).relaysOf l = s.relaysOf l := rfl
@[simp] theorem State.setSpeechSel_groupSelOf (g : Nat) (b' : Bus) (r : Option Speech) : (s.setSpeechSel b' r).groupSelOf g = s.groupSelOf g := rfl
@[simp] theorem State.setSpeechSel_headSelOf (b : Bus) (b' : Bus) (r : Option Speech) : (s.setSpeechSel b' r).headSelOf b = s.headSelOf b := rfl
theorem State.setSpeechSel_speechSelOf (b : Bus) (b' : Bus) (r : Option Speech) : (s.setSpeechSel b' r).speechSelOf b = if b = b' then r else s.speechSelOf b := by
  simp only [State.speechSelOf, State.setSpeechSel, Table.get_set, Fin.ext_iff]
@[simp] theorem State.setSpeechSel_speechSelOf_same (b' : Bus) (r : Option Speech) : (s.setSpeechSel b' r).speechSelOf b' = r := by simp [State.setSpeechSel_speechSelOf]
@[simp] theorem State.setSpeechSel_watchRec (b : Bus) (b' : Bus) (r : Option Speech) : (s.setSpeechSel b' r).watchRec b = s.watchRec b := rfl
@[simp] theorem State.setSpeechSel_hazardRec (b : Bus) (b' : Bus) (r : Option Speech) : (s.setSpeechSel b' r).hazardRec b = s.hazardRec b := rfl
@[simp] theorem State.setSpeechSel_headRec (h : Head) (b' : Bus) (r : Option Speech) : (s.setSpeechSel b' r).headRec h = s.headRec h := rfl
@[simp] theorem State.setSpeechSel_dirEntry (l : Nat) (b' : Bus) (r : Option Speech) : (s.setSpeechSel b' r).dirEntry l = s.dirEntry l := rfl
@[simp] theorem State.setSpeechSel_profile (k : Nat) (b' : Bus) (r : Option Speech) : (s.setSpeechSel b' r).profile k = s.profile k := rfl
@[simp] theorem State.setSpeechSel_route (g : Nat) (b' : Bus) (r : Option Speech) : (s.setSpeechSel b' r).route g = s.route g := rfl
@[simp] theorem State.setSpeechSel_lineStatus (l : Nat) (b' : Bus) (r : Option Speech) : (s.setSpeechSel b' r).lineStatus l = s.lineStatus l := rfl
@[simp] theorem State.setSpeechSel_rawLoop (b : Bus) (b' : Bus) (r : Option Speech) : (s.setSpeechSel b' r).rawLoop b = s.rawLoop b := rfl
@[simp] theorem State.setSpeechSel_holdLimitOf (p : Nat) (b' : Bus) (r : Option Speech) : (s.setSpeechSel b' r).holdLimitOf p = s.holdLimitOf p := rfl
@[simp] theorem State.setSpeechSel_jobOf (n : Nat) (b' : Bus) (r : Option Speech) : (s.setSpeechSel b' r).job? n = s.job? n := rfl
@[simp] theorem State.setSpeechSel_ticketOf (n : Nat) (b' : Bus) (r : Option Speech) : (s.setSpeechSel b' r).ticket? n = s.ticket? n := rfl

/-! ## setWatchRec -/

@[simp] theorem State.setWatchRec_busRec (b : Bus) (b' : Bus) (r : WatchRecord) : (s.setWatchRec b' r).busRec b = s.busRec b := rfl
@[simp] theorem State.setWatchRec_relaysOf (l : Nat) (b' : Bus) (r : WatchRecord) : (s.setWatchRec b' r).relaysOf l = s.relaysOf l := rfl
@[simp] theorem State.setWatchRec_groupSelOf (g : Nat) (b' : Bus) (r : WatchRecord) : (s.setWatchRec b' r).groupSelOf g = s.groupSelOf g := rfl
@[simp] theorem State.setWatchRec_headSelOf (b : Bus) (b' : Bus) (r : WatchRecord) : (s.setWatchRec b' r).headSelOf b = s.headSelOf b := rfl
@[simp] theorem State.setWatchRec_speechSelOf (b : Bus) (b' : Bus) (r : WatchRecord) : (s.setWatchRec b' r).speechSelOf b = s.speechSelOf b := rfl
theorem State.setWatchRec_watchRec (b : Bus) (b' : Bus) (r : WatchRecord) : (s.setWatchRec b' r).watchRec b = if b = b' then r else s.watchRec b := by
  simp only [State.watchRec, State.setWatchRec, Table.get_set, Fin.ext_iff]
@[simp] theorem State.setWatchRec_watchRec_same (b' : Bus) (r : WatchRecord) : (s.setWatchRec b' r).watchRec b' = r := by simp [State.setWatchRec_watchRec]
@[simp] theorem State.setWatchRec_hazardRec (b : Bus) (b' : Bus) (r : WatchRecord) : (s.setWatchRec b' r).hazardRec b = s.hazardRec b := rfl
@[simp] theorem State.setWatchRec_headRec (h : Head) (b' : Bus) (r : WatchRecord) : (s.setWatchRec b' r).headRec h = s.headRec h := rfl
@[simp] theorem State.setWatchRec_dirEntry (l : Nat) (b' : Bus) (r : WatchRecord) : (s.setWatchRec b' r).dirEntry l = s.dirEntry l := rfl
@[simp] theorem State.setWatchRec_profile (k : Nat) (b' : Bus) (r : WatchRecord) : (s.setWatchRec b' r).profile k = s.profile k := rfl
@[simp] theorem State.setWatchRec_route (g : Nat) (b' : Bus) (r : WatchRecord) : (s.setWatchRec b' r).route g = s.route g := rfl
@[simp] theorem State.setWatchRec_lineStatus (l : Nat) (b' : Bus) (r : WatchRecord) : (s.setWatchRec b' r).lineStatus l = s.lineStatus l := rfl
@[simp] theorem State.setWatchRec_rawLoop (b : Bus) (b' : Bus) (r : WatchRecord) : (s.setWatchRec b' r).rawLoop b = s.rawLoop b := rfl
@[simp] theorem State.setWatchRec_holdLimitOf (p : Nat) (b' : Bus) (r : WatchRecord) : (s.setWatchRec b' r).holdLimitOf p = s.holdLimitOf p := rfl
@[simp] theorem State.setWatchRec_jobOf (n : Nat) (b' : Bus) (r : WatchRecord) : (s.setWatchRec b' r).job? n = s.job? n := rfl
@[simp] theorem State.setWatchRec_ticketOf (n : Nat) (b' : Bus) (r : WatchRecord) : (s.setWatchRec b' r).ticket? n = s.ticket? n := rfl

/-! ## setHazardRec -/

@[simp] theorem State.setHazardRec_busRec (b : Bus) (b' : Bus) (r : HazardRecord) : (s.setHazardRec b' r).busRec b = s.busRec b := rfl
@[simp] theorem State.setHazardRec_relaysOf (l : Nat) (b' : Bus) (r : HazardRecord) : (s.setHazardRec b' r).relaysOf l = s.relaysOf l := rfl
@[simp] theorem State.setHazardRec_groupSelOf (g : Nat) (b' : Bus) (r : HazardRecord) : (s.setHazardRec b' r).groupSelOf g = s.groupSelOf g := rfl
@[simp] theorem State.setHazardRec_headSelOf (b : Bus) (b' : Bus) (r : HazardRecord) : (s.setHazardRec b' r).headSelOf b = s.headSelOf b := rfl
@[simp] theorem State.setHazardRec_speechSelOf (b : Bus) (b' : Bus) (r : HazardRecord) : (s.setHazardRec b' r).speechSelOf b = s.speechSelOf b := rfl
@[simp] theorem State.setHazardRec_watchRec (b : Bus) (b' : Bus) (r : HazardRecord) : (s.setHazardRec b' r).watchRec b = s.watchRec b := rfl
theorem State.setHazardRec_hazardRec (b : Bus) (b' : Bus) (r : HazardRecord) : (s.setHazardRec b' r).hazardRec b = if b = b' then r else s.hazardRec b := by
  simp only [State.hazardRec, State.setHazardRec, Table.get_set, Fin.ext_iff]
@[simp] theorem State.setHazardRec_hazardRec_same (b' : Bus) (r : HazardRecord) : (s.setHazardRec b' r).hazardRec b' = r := by simp [State.setHazardRec_hazardRec]
@[simp] theorem State.setHazardRec_headRec (h : Head) (b' : Bus) (r : HazardRecord) : (s.setHazardRec b' r).headRec h = s.headRec h := rfl
@[simp] theorem State.setHazardRec_dirEntry (l : Nat) (b' : Bus) (r : HazardRecord) : (s.setHazardRec b' r).dirEntry l = s.dirEntry l := rfl
@[simp] theorem State.setHazardRec_profile (k : Nat) (b' : Bus) (r : HazardRecord) : (s.setHazardRec b' r).profile k = s.profile k := rfl
@[simp] theorem State.setHazardRec_route (g : Nat) (b' : Bus) (r : HazardRecord) : (s.setHazardRec b' r).route g = s.route g := rfl
@[simp] theorem State.setHazardRec_lineStatus (l : Nat) (b' : Bus) (r : HazardRecord) : (s.setHazardRec b' r).lineStatus l = s.lineStatus l := rfl
@[simp] theorem State.setHazardRec_rawLoop (b : Bus) (b' : Bus) (r : HazardRecord) : (s.setHazardRec b' r).rawLoop b = s.rawLoop b := rfl
@[simp] theorem State.setHazardRec_holdLimitOf (p : Nat) (b' : Bus) (r : HazardRecord) : (s.setHazardRec b' r).holdLimitOf p = s.holdLimitOf p := rfl
@[simp] theorem State.setHazardRec_jobOf (n : Nat) (b' : Bus) (r : HazardRecord) : (s.setHazardRec b' r).job? n = s.job? n := rfl
@[simp] theorem State.setHazardRec_ticketOf (n : Nat) (b' : Bus) (r : HazardRecord) : (s.setHazardRec b' r).ticket? n = s.ticket? n := rfl

/-! ## setHeadRec -/

@[simp] theorem State.setHeadRec_busRec (b : Bus) (h' : Head) (r : HeadRecord) : (s.setHeadRec h' r).busRec b = s.busRec b := rfl
@[simp] theorem State.setHeadRec_relaysOf (l : Nat) (h' : Head) (r : HeadRecord) : (s.setHeadRec h' r).relaysOf l = s.relaysOf l := rfl
@[simp] theorem State.setHeadRec_groupSelOf (g : Nat) (h' : Head) (r : HeadRecord) : (s.setHeadRec h' r).groupSelOf g = s.groupSelOf g := rfl
@[simp] theorem State.setHeadRec_headSelOf (b : Bus) (h' : Head) (r : HeadRecord) : (s.setHeadRec h' r).headSelOf b = s.headSelOf b := rfl
@[simp] theorem State.setHeadRec_speechSelOf (b : Bus) (h' : Head) (r : HeadRecord) : (s.setHeadRec h' r).speechSelOf b = s.speechSelOf b := rfl
@[simp] theorem State.setHeadRec_watchRec (b : Bus) (h' : Head) (r : HeadRecord) : (s.setHeadRec h' r).watchRec b = s.watchRec b := rfl
@[simp] theorem State.setHeadRec_hazardRec (b : Bus) (h' : Head) (r : HeadRecord) : (s.setHeadRec h' r).hazardRec b = s.hazardRec b := rfl
theorem State.setHeadRec_headRec (h : Head) (h' : Head) (r : HeadRecord) : (s.setHeadRec h' r).headRec h = if h = h' then r else s.headRec h := by
  simp only [State.headRec, State.setHeadRec, Table.get_set, Fin.ext_iff]
@[simp] theorem State.setHeadRec_headRec_same (h' : Head) (r : HeadRecord) : (s.setHeadRec h' r).headRec h' = r := by simp [State.setHeadRec_headRec]
@[simp] theorem State.setHeadRec_dirEntry (l : Nat) (h' : Head) (r : HeadRecord) : (s.setHeadRec h' r).dirEntry l = s.dirEntry l := rfl
@[simp] theorem State.setHeadRec_profile (k : Nat) (h' : Head) (r : HeadRecord) : (s.setHeadRec h' r).profile k = s.profile k := rfl
@[simp] theorem State.setHeadRec_route (g : Nat) (h' : Head) (r : HeadRecord) : (s.setHeadRec h' r).route g = s.route g := rfl
@[simp] theorem State.setHeadRec_lineStatus (l : Nat) (h' : Head) (r : HeadRecord) : (s.setHeadRec h' r).lineStatus l = s.lineStatus l := rfl
@[simp] theorem State.setHeadRec_rawLoop (b : Bus) (h' : Head) (r : HeadRecord) : (s.setHeadRec h' r).rawLoop b = s.rawLoop b := rfl
@[simp] theorem State.setHeadRec_holdLimitOf (p : Nat) (h' : Head) (r : HeadRecord) : (s.setHeadRec h' r).holdLimitOf p = s.holdLimitOf p := rfl
@[simp] theorem State.setHeadRec_jobOf (n : Nat) (h' : Head) (r : HeadRecord) : (s.setHeadRec h' r).job? n = s.job? n := rfl
@[simp] theorem State.setHeadRec_ticketOf (n : Nat) (h' : Head) (r : HeadRecord) : (s.setHeadRec h' r).ticket? n = s.ticket? n := rfl

/-! ## setDirEntry -/

@[simp] theorem State.setDirEntry_busRec (b : Bus) (k' : Nat) (r : DirEntry) : (s.setDirEntry k' r).busRec b = s.busRec b := rfl
@[simp] theorem State.setDirEntry_relaysOf (l : Nat) (k' : Nat) (r : DirEntry) : (s.setDirEntry k' r).relaysOf l = s.relaysOf l := rfl
@[simp] theorem State.setDirEntry_groupSelOf (g : Nat) (k' : Nat) (r : DirEntry) : (s.setDirEntry k' r).groupSelOf g = s.groupSelOf g := rfl
@[simp] theorem State.setDirEntry_headSelOf (b : Bus) (k' : Nat) (r : DirEntry) : (s.setDirEntry k' r).headSelOf b = s.headSelOf b := rfl
@[simp] theorem State.setDirEntry_speechSelOf (b : Bus) (k' : Nat) (r : DirEntry) : (s.setDirEntry k' r).speechSelOf b = s.speechSelOf b := rfl
@[simp] theorem State.setDirEntry_watchRec (b : Bus) (k' : Nat) (r : DirEntry) : (s.setDirEntry k' r).watchRec b = s.watchRec b := rfl
@[simp] theorem State.setDirEntry_hazardRec (b : Bus) (k' : Nat) (r : DirEntry) : (s.setDirEntry k' r).hazardRec b = s.hazardRec b := rfl
@[simp] theorem State.setDirEntry_headRec (h : Head) (k' : Nat) (r : DirEntry) : (s.setDirEntry k' r).headRec h = s.headRec h := rfl
theorem State.setDirEntry_dirEntry (l : Nat) (k' : Nat) (r : DirEntry) : (s.setDirEntry k' r).dirEntry l = if l = k' then r else s.dirEntry l := by
  exact Table.get_set _ _ _ _ _
@[simp] theorem State.setDirEntry_dirEntry_same (k' : Nat) (r : DirEntry) : (s.setDirEntry k' r).dirEntry k' = r := by simp [State.setDirEntry_dirEntry]
@[simp] theorem State.setDirEntry_profile (k : Nat) (k' : Nat) (r : DirEntry) : (s.setDirEntry k' r).profile k = s.profile k := rfl
@[simp] theorem State.setDirEntry_route (g : Nat) (k' : Nat) (r : DirEntry) : (s.setDirEntry k' r).route g = s.route g := rfl
@[simp] theorem State.setDirEntry_lineStatus (l : Nat) (k' : Nat) (r : DirEntry) : (s.setDirEntry k' r).lineStatus l = s.lineStatus l := rfl
@[simp] theorem State.setDirEntry_rawLoop (b : Bus) (k' : Nat) (r : DirEntry) : (s.setDirEntry k' r).rawLoop b = s.rawLoop b := rfl
@[simp] theorem State.setDirEntry_holdLimitOf (p : Nat) (k' : Nat) (r : DirEntry) : (s.setDirEntry k' r).holdLimitOf p = s.holdLimitOf p := rfl
@[simp] theorem State.setDirEntry_jobOf (n : Nat) (k' : Nat) (r : DirEntry) : (s.setDirEntry k' r).job? n = s.job? n := rfl
@[simp] theorem State.setDirEntry_ticketOf (n : Nat) (k' : Nat) (r : DirEntry) : (s.setDirEntry k' r).ticket? n = s.ticket? n := rfl

/-! ## setProfile -/

@[simp] theorem State.setProfile_busRec (b : Bus) (k' : Nat) (r : Profile) : (s.setProfile k' r).busRec b = s.busRec b := rfl
@[simp] theorem State.setProfile_relaysOf (l : Nat) (k' : Nat) (r : Profile) : (s.setProfile k' r).relaysOf l = s.relaysOf l := rfl
@[simp] theorem State.setProfile_groupSelOf (g : Nat) (k' : Nat) (r : Profile) : (s.setProfile k' r).groupSelOf g = s.groupSelOf g := rfl
@[simp] theorem State.setProfile_headSelOf (b : Bus) (k' : Nat) (r : Profile) : (s.setProfile k' r).headSelOf b = s.headSelOf b := rfl
@[simp] theorem State.setProfile_speechSelOf (b : Bus) (k' : Nat) (r : Profile) : (s.setProfile k' r).speechSelOf b = s.speechSelOf b := rfl
@[simp] theorem State.setProfile_watchRec (b : Bus) (k' : Nat) (r : Profile) : (s.setProfile k' r).watchRec b = s.watchRec b := rfl
@[simp] theorem State.setProfile_hazardRec (b : Bus) (k' : Nat) (r : Profile) : (s.setProfile k' r).hazardRec b = s.hazardRec b := rfl
@[simp] theorem State.setProfile_headRec (h : Head) (k' : Nat) (r : Profile) : (s.setProfile k' r).headRec h = s.headRec h := rfl
@[simp] theorem State.setProfile_dirEntry (l : Nat) (k' : Nat) (r : Profile) : (s.setProfile k' r).dirEntry l = s.dirEntry l := rfl
theorem State.setProfile_profile (k : Nat) (k' : Nat) (r : Profile) : (s.setProfile k' r).profile k = if k = k' then r else s.profile k := by
  exact Table.get_set _ _ _ _ _
@[simp] theorem State.setProfile_profile_same (k' : Nat) (r : Profile) : (s.setProfile k' r).profile k' = r := by simp [State.setProfile_profile]
@[simp] theorem State.setProfile_route (g : Nat) (k' : Nat) (r : Profile) : (s.setProfile k' r).route g = s.route g := rfl
@[simp] theorem State.setProfile_lineStatus (l : Nat) (k' : Nat) (r : Profile) : (s.setProfile k' r).lineStatus l = s.lineStatus l := rfl
@[simp] theorem State.setProfile_rawLoop (b : Bus) (k' : Nat) (r : Profile) : (s.setProfile k' r).rawLoop b = s.rawLoop b := rfl
@[simp] theorem State.setProfile_holdLimitOf (p : Nat) (k' : Nat) (r : Profile) : (s.setProfile k' r).holdLimitOf p = s.holdLimitOf p := rfl
@[simp] theorem State.setProfile_jobOf (n : Nat) (k' : Nat) (r : Profile) : (s.setProfile k' r).job? n = s.job? n := rfl
@[simp] theorem State.setProfile_ticketOf (n : Nat) (k' : Nat) (r : Profile) : (s.setProfile k' r).ticket? n = s.ticket? n := rfl

/-! ## setRoute -/

@[simp] theorem State.setRoute_busRec (b : Bus) (k' : Nat) (r : Route) : (s.setRoute k' r).busRec b = s.busRec b := rfl
@[simp] theorem State.setRoute_relaysOf (l : Nat) (k' : Nat) (r : Route) : (s.setRoute k' r).relaysOf l = s.relaysOf l := rfl
@[simp] theorem State.setRoute_groupSelOf (g : Nat) (k' : Nat) (r : Route) : (s.setRoute k' r).groupSelOf g = s.groupSelOf g := rfl
@[simp] theorem State.setRoute_headSelOf (b : Bus) (k' : Nat) (r : Route) : (s.setRoute k' r).headSelOf b = s.headSelOf b := rfl
@[simp] theorem State.setRoute_speechSelOf (b : Bus) (k' : Nat) (r : Route) : (s.setRoute k' r).speechSelOf b = s.speechSelOf b := rfl
@[simp] theorem State.setRoute_watchRec (b : Bus) (k' : Nat) (r : Route) : (s.setRoute k' r).watchRec b = s.watchRec b := rfl
@[simp] theorem State.setRoute_hazardRec (b : Bus) (k' : Nat) (r : Route) : (s.setRoute k' r).hazardRec b = s.hazardRec b := rfl
@[simp] theorem State.setRoute_headRec (h : Head) (k' : Nat) (r : Route) : (s.setRoute k' r).headRec h = s.headRec h := rfl
@[simp] theorem State.setRoute_dirEntry (l : Nat) (k' : Nat) (r : Route) : (s.setRoute k' r).dirEntry l = s.dirEntry l := rfl
@[simp] theorem State.setRoute_profile (k : Nat) (k' : Nat) (r : Route) : (s.setRoute k' r).profile k = s.profile k := rfl
theorem State.setRoute_route (g : Nat) (k' : Nat) (r : Route) : (s.setRoute k' r).route g = if g = k' then r else s.route g := by
  exact Table.get_set _ _ _ _ _
@[simp] theorem State.setRoute_route_same (k' : Nat) (r : Route) : (s.setRoute k' r).route k' = r := by simp [State.setRoute_route]
@[simp] theorem State.setRoute_lineStatus (l : Nat) (k' : Nat) (r : Route) : (s.setRoute k' r).lineStatus l = s.lineStatus l := rfl
@[simp] theorem State.setRoute_rawLoop (b : Bus) (k' : Nat) (r : Route) : (s.setRoute k' r).rawLoop b = s.rawLoop b := rfl
@[simp] theorem State.setRoute_holdLimitOf (p : Nat) (k' : Nat) (r : Route) : (s.setRoute k' r).holdLimitOf p = s.holdLimitOf p := rfl
@[simp] theorem State.setRoute_jobOf (n : Nat) (k' : Nat) (r : Route) : (s.setRoute k' r).job? n = s.job? n := rfl
@[simp] theorem State.setRoute_ticketOf (n : Nat) (k' : Nat) (r : Route) : (s.setRoute k' r).ticket? n = s.ticket? n := rfl

/-! ## setLineStatus -/

@[simp] theorem State.setLineStatus_busRec (b : Bus) (k' : Nat) (r : LineStatus) : (s.setLineStatus k' r).busRec b = s.busRec b := rfl
@[simp] theorem State.setLineStatus_relaysOf (l : Nat) (k' : Nat) (r : LineStatus) : (s.setLineStatus k' r).relaysOf l = s.relaysOf l := rfl
@[simp] theorem State.setLineStatus_groupSelOf (g : Nat) (k' : Nat) (r : LineStatus) : (s.setLineStatus k' r).groupSelOf g = s.groupSelOf g := rfl
@[simp] theorem State.setLineStatus_headSelOf (b : Bus) (k' : Nat) (r : LineStatus) : (s.setLineStatus k' r).headSelOf b = s.headSelOf b := rfl
@[simp] theorem State.setLineStatus_speechSelOf (b : Bus) (k' : Nat) (r : LineStatus) : (s.setLineStatus k' r).speechSelOf b = s.speechSelOf b := rfl
@[simp] theorem State.setLineStatus_watchRec (b : Bus) (k' : Nat) (r : LineStatus) : (s.setLineStatus k' r).watchRec b = s.watchRec b := rfl
@[simp] theorem State.setLineStatus_hazardRec (b : Bus) (k' : Nat) (r : LineStatus) : (s.setLineStatus k' r).hazardRec b = s.hazardRec b := rfl
@[simp] theorem State.setLineStatus_headRec (h : Head) (k' : Nat) (r : LineStatus) : (s.setLineStatus k' r).headRec h = s.headRec h := rfl
@[simp] theorem State.setLineStatus_dirEntry (l : Nat) (k' : Nat) (r : LineStatus) : (s.setLineStatus k' r).dirEntry l = s.dirEntry l := rfl
@[simp] theorem State.setLineStatus_profile (k : Nat) (k' : Nat) (r : LineStatus) : (s.setLineStatus k' r).profile k = s.profile k := rfl
@[simp] theorem State.setLineStatus_route (g : Nat) (k' : Nat) (r : LineStatus) : (s.setLineStatus k' r).route g = s.route g := rfl
theorem State.setLineStatus_lineStatus (l : Nat) (k' : Nat) (r : LineStatus) : (s.setLineStatus k' r).lineStatus l = if l = k' then r else s.lineStatus l := by
  exact Table.get_set _ _ _ _ _
@[simp] theorem State.setLineStatus_lineStatus_same (k' : Nat) (r : LineStatus) : (s.setLineStatus k' r).lineStatus k' = r := by simp [State.setLineStatus_lineStatus]
@[simp] theorem State.setLineStatus_rawLoop (b : Bus) (k' : Nat) (r : LineStatus) : (s.setLineStatus k' r).rawLoop b = s.rawLoop b := rfl
@[simp] theorem State.setLineStatus_holdLimitOf (p : Nat) (k' : Nat) (r : LineStatus) : (s.setLineStatus k' r).holdLimitOf p = s.holdLimitOf p := rfl
@[simp] theorem State.setLineStatus_jobOf (n : Nat) (k' : Nat) (r : LineStatus) : (s.setLineStatus k' r).job? n = s.job? n := rfl
@[simp] theorem State.setLineStatus_ticketOf (n : Nat) (k' : Nat) (r : LineStatus) : (s.setLineStatus k' r).ticket? n = s.ticket? n := rfl

/-! ## setJobs -/

@[simp] theorem State.setJobs_busRec (b : Bus) (js : List Job) : (s.setJobs js).busRec b = s.busRec b := rfl
@[simp] theorem State.setJobs_relaysOf (l : Nat) (js : List Job) : (s.setJobs js).relaysOf l = s.relaysOf l := rfl
@[simp] theorem State.setJobs_groupSelOf (g : Nat) (js : List Job) : (s.setJobs js).groupSelOf g = s.groupSelOf g := rfl
@[simp] theorem State.setJobs_headSelOf (b : Bus) (js : List Job) : (s.setJobs js).headSelOf b = s.headSelOf b := rfl
@[simp] theorem State.setJobs_speechSelOf (b : Bus) (js : List Job) : (s.setJobs js).speechSelOf b = s.speechSelOf b := rfl
@[simp] theorem State.setJobs_watchRec (b : Bus) (js : List Job) : (s.setJobs js).watchRec b = s.watchRec b := rfl
@[simp] theorem State.setJobs_hazardRec (b : Bus) (js : List Job) : (s.setJobs js).hazardRec b = s.hazardRec b := rfl
@[simp] theorem State.setJobs_headRec (h : Head) (js : List Job) : (s.setJobs js).headRec h = s.headRec h := rfl
@[simp] theorem State.setJobs_dirEntry (l : Nat) (js : List Job) : (s.setJobs js).dirEntry l = s.dirEntry l := rfl
@[simp] theorem State.setJobs_profile (k : Nat) (js : List Job) : (s.setJobs js).profile k = s.profile k := rfl
@[simp] theorem State.setJobs_route (g : Nat) (js : List Job) : (s.setJobs js).route g = s.route g := rfl
@[simp] theorem State.setJobs_lineStatus (l : Nat) (js : List Job) : (s.setJobs js).lineStatus l = s.lineStatus l := rfl
@[simp] theorem State.setJobs_rawLoop (b : Bus) (js : List Job) : (s.setJobs js).rawLoop b = s.rawLoop b := rfl
@[simp] theorem State.setJobs_holdLimitOf (p : Nat) (js : List Job) : (s.setJobs js).holdLimitOf p = s.holdLimitOf p := rfl
@[simp] theorem State.setJobs_ticketOf (n : Nat) (js : List Job) : (s.setJobs js).ticket? n = s.ticket? n := rfl

/-! ## updJob -/

@[simp] theorem State.updJob_busRec (b : Bus) (m : Nat) (f : Job → Job) : (s.updJob m f).busRec b = s.busRec b := rfl
@[simp] theorem State.updJob_relaysOf (l : Nat) (m : Nat) (f : Job → Job) : (s.updJob m f).relaysOf l = s.relaysOf l := rfl
@[simp] theorem State.updJob_groupSelOf (g : Nat) (m : Nat) (f : Job → Job) : (s.updJob m f).groupSelOf g = s.groupSelOf g := rfl
@[simp] theorem State.updJob_headSelOf (b : Bus) (m : Nat) (f : Job → Job) : (s.updJob m f).headSelOf b = s.headSelOf b := rfl
@[simp] theorem State.updJob_speechSelOf (b : Bus) (m : Nat) (f : Job → Job) : (s.updJob m f).speechSelOf b = s.speechSelOf b := rfl
@[simp] theorem State.updJob_watchRec (b : Bus) (m : Nat) (f : Job → Job) : (s.updJob m f).watchRec b = s.watchRec b := rfl
@[simp] theorem State.updJob_hazardRec (b : Bus) (m : Nat) (f : Job → Job) : (s.updJob m f).hazardRec b = s.hazardRec b := rfl
@[simp] theorem State.updJob_headRec (h : Head) (m : Nat) (f : Job → Job) : (s.updJob m f).headRec h = s.headRec h := rfl
@[simp] theorem State.updJob_dirEntry (l : Nat) (m : Nat) (f : Job → Job) : (s.updJob m f).dirEntry l = s.dirEntry l := rfl
@[simp] theorem State.updJob_profile (k : Nat) (m : Nat) (f : Job → Job) : (s.updJob m f).profile k = s.profile k := rfl
@[simp] theorem State.updJob_route (g : Nat) (m : Nat) (f : Job → Job) : (s.updJob m f).route g = s.route g := rfl
@[simp] theorem State.updJob_lineStatus (l : Nat) (m : Nat) (f : Job → Job) : (s.updJob m f).lineStatus l = s.lineStatus l := rfl
@[simp] theorem State.updJob_rawLoop (b : Bus) (m : Nat) (f : Job → Job) : (s.updJob m f).rawLoop b = s.rawLoop b := rfl
@[simp] theorem State.updJob_holdLimitOf (p : Nat) (m : Nat) (f : Job → Job) : (s.updJob m f).holdLimitOf p = s.holdLimitOf p := rfl
@[simp] theorem State.updJob_ticketOf (n : Nat) (m : Nat) (f : Job → Job) : (s.updJob m f).ticket? n = s.ticket? n := rfl

/-! ## setSweep -/

@[simp] theorem State.setSweep_busRec (b : Bus) (w : Sweep) : (s.setSweep w).busRec b = s.busRec b := rfl
@[simp] theorem State.setSweep_relaysOf (l : Nat) (w : Sweep) : (s.setSweep w).relaysOf l = s.relaysOf l := rfl
@[simp] theorem State.setSweep_groupSelOf (g : Nat) (w : Sweep) : (s.setSweep w).groupSelOf g = s.groupSelOf g := rfl
@[simp] theorem State.setSweep_headSelOf (b : Bus) (w : Sweep) : (s.setSweep w).headSelOf b = s.headSelOf b := rfl
@[simp] theorem State.setSweep_speechSelOf (b : Bus) (w : Sweep) : (s.setSweep w).speechSelOf b = s.speechSelOf b := rfl
@[simp] theorem State.setSweep_watchRec (b : Bus) (w : Sweep) : (s.setSweep w).watchRec b = s.watchRec b := rfl
@[simp] theorem State.setSweep_hazardRec (b : Bus) (w : Sweep) : (s.setSweep w).hazardRec b = s.hazardRec b := rfl
@[simp] theorem State.setSweep_headRec (h : Head) (w : Sweep) : (s.setSweep w).headRec h = s.headRec h := rfl
@[simp] theorem State.setSweep_dirEntry (l : Nat) (w : Sweep) : (s.setSweep w).dirEntry l = s.dirEntry l := rfl
@[simp] theorem State.setSweep_profile (k : Nat) (w : Sweep) : (s.setSweep w).profile k = s.profile k := rfl
@[simp] theorem State.setSweep_route (g : Nat) (w : Sweep) : (s.setSweep w).route g = s.route g := rfl
@[simp] theorem State.setSweep_lineStatus (l : Nat) (w : Sweep) : (s.setSweep w).lineStatus l = s.lineStatus l := rfl
@[simp] theorem State.setSweep_rawLoop (b : Bus) (w : Sweep) : (s.setSweep w).rawLoop b = s.rawLoop b := rfl
@[simp] theorem State.setSweep_holdLimitOf (p : Nat) (w : Sweep) : (s.setSweep w).holdLimitOf p = s.holdLimitOf p := rfl
@[simp] theorem State.setSweep_jobOf (n : Nat) (w : Sweep) : (s.setSweep w).job? n = s.job? n := rfl
@[simp] theorem State.setSweep_ticketOf (n : Nat) (w : Sweep) : (s.setSweep w).ticket? n = s.ticket? n := rfl

/-! ## setTickets -/

@[simp] theorem State.setTickets_busRec (b : Bus) (ts : List Ticket) : (s.setTickets ts).busRec b = s.busRec b := rfl
@[simp] theorem State.setTickets_relaysOf (l : Nat) (ts : List Ticket) : (s.setTickets ts).relaysOf l = s.relaysOf l := rfl
@[simp] theorem State.setTickets_groupSelOf (g : Nat) (ts : List Ticket) : (s.setTickets ts).groupSelOf g = s.groupSelOf g := rfl
@[simp] theorem State.setTickets_headSelOf (b : Bus) (ts : List Ticket) : (s.setTickets ts).headSelOf b = s.headSelOf b := rfl
@[simp] theorem State.setTickets_speechSelOf (b : Bus) (ts : List Ticket) : (s.setTickets ts).speechSelOf b = s.speechSelOf b := rfl
@[simp] theorem State.setTickets_watchRec (b : Bus) (ts : List Ticket) : (s.setTickets ts).watchRec b = s.watchRec b := rfl
@[simp] theorem State.setTickets_hazardRec (b : Bus) (ts : List Ticket) : (s.setTickets ts).hazardRec b = s.hazardRec b := rfl
@[simp] theorem State.setTickets_headRec (h : Head) (ts : List Ticket) : (s.setTickets ts).headRec h = s.headRec h := rfl
@[simp] theorem State.setTickets_dirEntry (l : Nat) (ts : List Ticket) : (s.setTickets ts).dirEntry l = s.dirEntry l := rfl
@[simp] theorem State.setTickets_profile (k : Nat) (ts : List Ticket) : (s.setTickets ts).profile k = s.profile k := rfl
@[simp] theorem State.setTickets_route (g : Nat) (ts : List Ticket) : (s.setTickets ts).route g = s.route g := rfl
@[simp] theorem State.setTickets_lineStatus (l : Nat) (ts : List Ticket) : (s.setTickets ts).lineStatus l = s.lineStatus l := rfl
@[simp] theorem State.setTickets_rawLoop (b : Bus) (ts : List Ticket) : (s.setTickets ts).rawLoop b = s.rawLoop b := rfl
@[simp] theorem State.setTickets_holdLimitOf (p : Nat) (ts : List Ticket) : (s.setTickets ts).holdLimitOf p = s.holdLimitOf p := rfl
@[simp] theorem State.setTickets_jobOf (n : Nat) (ts : List Ticket) : (s.setTickets ts).job? n = s.job? n := rfl

/-! ## updTicket -/

@[simp] theorem State.updTicket_busRec (b : Bus) (m : Nat) (f : Ticket → Ticket) : (s.updTicket m f).busRec b = s.busRec b := rfl
@[simp] theorem State.updTicket_relaysOf (l : Nat) (m : Nat) (f : Ticket → Ticket) : (s.updTicket m f).relaysOf l = s.relaysOf l := rfl
@[simp] theorem State.updTicket_groupSelOf (g : Nat) (m : Nat) (f : Ticket → Ticket) : (s.updTicket m f).groupSelOf g = s.groupSelOf g := rfl
@[simp] theorem State.updTicket_headSelOf (b : Bus) (m : Nat) (f : Ticket → Ticket) : (s.updTicket m f).headSelOf b = s.headSelOf b := rfl
@[simp] theorem State.updTicket_speechSelOf (b : Bus) (m : Nat) (f : Ticket → Ticket) : (s.updTicket m f).speechSelOf b = s.speechSelOf b := rfl
@[simp] theorem State.updTicket_watchRec (b : Bus) (m : Nat) (f : Ticket → Ticket) : (s.updTicket m f).watchRec b = s.watchRec b := rfl
@[simp] theorem State.updTicket_hazardRec (b : Bus) (m : Nat) (f : Ticket → Ticket) : (s.updTicket m f).hazardRec b = s.hazardRec b := rfl
@[simp] theorem State.updTicket_headRec (h : Head) (m : Nat) (f : Ticket → Ticket) : (s.updTicket m f).headRec h = s.headRec h := rfl
@[simp] theorem State.updTicket_dirEntry (l : Nat) (m : Nat) (f : Ticket → Ticket) : (s.updTicket m f).dirEntry l = s.dirEntry l := rfl
@[simp] theorem State.updTicket_profile (k : Nat) (m : Nat) (f : Ticket → Ticket) : (s.updTicket m f).profile k = s.profile k := rfl
@[simp] theorem State.updTicket_route (g : Nat) (m : Nat) (f : Ticket → Ticket) : (s.updTicket m f).route g = s.route g := rfl
@[simp] theorem State.updTicket_lineStatus (l : Nat) (m : Nat) (f : Ticket → Ticket) : (s.updTicket m f).lineStatus l = s.lineStatus l := rfl
@[simp] theorem State.updTicket_rawLoop (b : Bus) (m : Nat) (f : Ticket → Ticket) : (s.updTicket m f).rawLoop b = s.rawLoop b := rfl
@[simp] theorem State.updTicket_holdLimitOf (p : Nat) (m : Nat) (f : Ticket → Ticket) : (s.updTicket m f).holdLimitOf p = s.holdLimitOf p := rfl
@[simp] theorem State.updTicket_jobOf (n : Nat) (m : Nat) (f : Ticket → Ticket) : (s.updTicket m f).job? n = s.job? n := rfl

/-! ## reach -/

@[simp] theorem State.reach_busRec (b : Bus) (m : Moment) : (s.reach m).busRec b = s.busRec b := rfl
@[simp] theorem State.reach_relaysOf (l : Nat) (m : Moment) : (s.reach m).relaysOf l = s.relaysOf l := rfl
@[simp] theorem State.reach_groupSelOf (g : Nat) (m : Moment) : (s.reach m).groupSelOf g = s.groupSelOf g := rfl
@[simp] theorem State.reach_headSelOf (b : Bus) (m : Moment) : (s.reach m).headSelOf b = s.headSelOf b := rfl
@[simp] theorem State.reach_speechSelOf (b : Bus) (m : Moment) : (s.reach m).speechSelOf b = s.speechSelOf b := rfl
@[simp] theorem State.reach_watchRec (b : Bus) (m : Moment) : (s.reach m).watchRec b = s.watchRec b := rfl
@[simp] theorem State.reach_hazardRec (b : Bus) (m : Moment) : (s.reach m).hazardRec b = s.hazardRec b := rfl
@[simp] theorem State.reach_headRec (h : Head) (m : Moment) : (s.reach m).headRec h = s.headRec h := rfl
@[simp] theorem State.reach_dirEntry (l : Nat) (m : Moment) : (s.reach m).dirEntry l = s.dirEntry l := rfl
@[simp] theorem State.reach_profile (k : Nat) (m : Moment) : (s.reach m).profile k = s.profile k := rfl
@[simp] theorem State.reach_route (g : Nat) (m : Moment) : (s.reach m).route g = s.route g := rfl
@[simp] theorem State.reach_lineStatus (l : Nat) (m : Moment) : (s.reach m).lineStatus l = s.lineStatus l := rfl
@[simp] theorem State.reach_rawLoop (b : Bus) (m : Moment) : (s.reach m).rawLoop b = s.rawLoop b := rfl
@[simp] theorem State.reach_holdLimitOf (p : Nat) (m : Moment) : (s.reach m).holdLimitOf p = s.holdLimitOf p := rfl
@[simp] theorem State.reach_jobOf (n : Nat) (m : Moment) : (s.reach m).job? n = s.job? n := rfl
@[simp] theorem State.reach_ticketOf (n : Nat) (m : Moment) : (s.reach m).ticket? n = s.ticket? n := rfl

/-! ## reply -/

@[simp] theorem State.reply_busRec (b : Bus) (c t : Byte) (x : ReplyContent) : (s.reply c t x).busRec b = s.busRec b := rfl
@[simp] theorem State.reply_relaysOf (l : Nat) (c t : Byte) (x : ReplyContent) : (s.reply c t x).relaysOf l = s.relaysOf l := rfl
@[simp] theorem State.reply_groupSelOf (g : Nat) (c t : Byte) (x : ReplyContent) : (s.reply c t x).groupSelOf g = s.groupSelOf g := rfl
@[simp] theorem State.reply_headSelOf (b : Bus) (c t : Byte) (x : ReplyContent) : (s.reply c t x).headSelOf b = s.headSelOf b := rfl
@[simp] theorem State.reply_speechSelOf (b : Bus) (c t : Byte) (x : ReplyContent) : (s.reply c t x).speechSelOf b = s.speechSelOf b := rfl
@[simp] theorem State.reply_watchRec (b : Bus) (c t : Byte) (x : ReplyContent) : (s.reply c t x).watchRec b = s.watchRec b := rfl
@[simp] theorem State.reply_hazardRec (b : Bus) (c t : Byte) (x : ReplyContent) : (s.reply c t x).hazardRec b = s.hazardRec b := rfl
@[simp] theorem State.reply_headRec (h : Head) (c t : Byte) (x : ReplyContent) : (s.reply c t x).headRec h = s.headRec h := rfl
@[simp] theorem State.reply_dirEntry (l : Nat) (c t : Byte) (x : ReplyContent) : (s.reply c t x).dirEntry l = s.dirEntry l := rfl
@[simp] theorem State.reply_profile (k : Nat) (c t : Byte) (x : ReplyContent) : (s.reply c t x).profile k = s.profile k := rfl
@[simp] theorem State.reply_route (g : Nat) (c t : Byte) (x : ReplyContent) : (s.reply c t x).route g = s.route g := rfl
@[simp] theorem State.reply_lineStatus (l : Nat) (c t : Byte) (x : ReplyContent) : (s.reply c t x).lineStatus l = s.lineStatus l := rfl
@[simp] theorem State.reply_rawLoop (b : Bus) (c t : Byte) (x : ReplyContent) : (s.reply c t x).rawLoop b = s.rawLoop b := rfl
@[simp] theorem State.reply_holdLimitOf (p : Nat) (c t : Byte) (x : ReplyContent) : (s.reply c t x).holdLimitOf p = s.holdLimitOf p := rfl
@[simp] theorem State.reply_jobOf (n : Nat) (c t : Byte) (x : ReplyContent) : (s.reply c t x).job? n = s.job? n := rfl
@[simp] theorem State.reply_ticketOf (n : Nat) (c t : Byte) (x : ReplyContent) : (s.reply c t x).ticket? n = s.ticket? n := rfl

/-! ## hunt -/

@[simp] theorem State.hunt_busRec (b : Bus) : (s.hunt).busRec b = s.busRec b := rfl
@[simp] theorem State.hunt_relaysOf (l : Nat) : (s.hunt).relaysOf l = s.relaysOf l := rfl
@[simp] theorem State.hunt_groupSelOf (g : Nat) : (s.hunt).groupSelOf g = s.groupSelOf g := rfl
@[simp] theorem State.hunt_headSelOf (b : Bus) : (s.hunt).headSelOf b = s.headSelOf b := rfl
@[simp] theorem State.hunt_speechSelOf (b : Bus) : (s.hunt).speechSelOf b = s.speechSelOf b := rfl
@[simp] theorem State.hunt_watchRec (b : Bus) : (s.hunt).watchRec b = s.watchRec b := rfl
@[simp] theorem State.hunt_hazardRec (b : Bus) : (s.hunt).hazardRec b = s.hazardRec b := rfl
@[simp] theorem State.hunt_headRec (h : Head) : (s.hunt).headRec h = s.headRec h := rfl
@[simp] theorem State.hunt_dirEntry (l : Nat) : (s.hunt).dirEntry l = s.dirEntry l := rfl
@[simp] theorem State.hunt_profile (k : Nat) : (s.hunt).profile k = s.profile k := rfl
@[simp] theorem State.hunt_route (g : Nat) : (s.hunt).route g = s.route g := rfl
@[simp] theorem State.hunt_lineStatus (l : Nat) : (s.hunt).lineStatus l = s.lineStatus l := rfl
@[simp] theorem State.hunt_rawLoop (b : Bus) : (s.hunt).rawLoop b = s.rawLoop b := rfl
@[simp] theorem State.hunt_holdLimitOf (p : Nat) : (s.hunt).holdLimitOf p = s.holdLimitOf p := rfl
@[simp] theorem State.hunt_jobOf (n : Nat) : (s.hunt).job? n = s.job? n := rfl
@[simp] theorem State.hunt_ticketOf (n : Nat) : (s.hunt).ticket? n = s.ticket? n := rfl

/-! ## receive -/

@[simp] theorem State.receive_busRec (b : Bus) (rx : Receiver) : (s.receive rx).busRec b = s.busRec b := rfl
@[simp] theorem State.receive_relaysOf (l : Nat) (rx : Receiver) : (s.receive rx).relaysOf l = s.relaysOf l := rfl
@[simp] theorem State.receive_groupSelOf (g : Nat) (rx : Receiver) : (s.receive rx).groupSelOf g = s.groupSelOf g := rfl
@[simp] theorem State.receive_headSelOf (b : Bus) (rx : Receiver) : (s.receive rx).headSelOf b = s.headSelOf b := rfl
@[simp] theorem State.receive_speechSelOf (b : Bus) (rx : Receiver) : (s.receive rx).speechSelOf b = s.speechSelOf b := rfl
@[simp] theorem State.receive_watchRec (b : Bus) (rx : Receiver) : (s.receive rx).watchRec b = s.watchRec b := rfl
@[simp] theorem State.receive_hazardRec (b : Bus) (rx : Receiver) : (s.receive rx).hazardRec b = s.hazardRec b := rfl
@[simp] theorem State.receive_headRec (h : Head) (rx : Receiver) : (s.receive rx).headRec h = s.headRec h := rfl
@[simp] theorem State.receive_dirEntry (l : Nat) (rx : Receiver) : (s.receive rx).dirEntry l = s.dirEntry l := rfl
@[simp] theorem State.receive_profile (k : Nat) (rx : Receiver) : (s.receive rx).profile k = s.profile k := rfl
@[simp] theorem State.receive_route (g : Nat) (rx : Receiver) : (s.receive rx).route g = s.route g := rfl
@[simp] theorem State.receive_lineStatus (l : Nat) (rx : Receiver) : (s.receive rx).lineStatus l = s.lineStatus l := rfl
@[simp] theorem State.receive_rawLoop (b : Bus) (rx : Receiver) : (s.receive rx).rawLoop b = s.rawLoop b := rfl
@[simp] theorem State.receive_holdLimitOf (p : Nat) (rx : Receiver) : (s.receive rx).holdLimitOf p = s.holdLimitOf p := rfl
@[simp] theorem State.receive_jobOf (n : Nat) (rx : Receiver) : (s.receive rx).job? n = s.job? n := rfl
@[simp] theorem State.receive_ticketOf (n : Nat) (rx : Receiver) : (s.receive rx).ticket? n = s.ticket? n := rfl

end Sys2Proof.Machine
end

