-- ==== Sys2Proof/Laws/Frame.lean ====
section
/-! SUPPORT. The frame of an event: what no shared operation of the ten blocks touches, and which reports none raises. Each
operation has two lemmas: `_fixed` says that the fixed part of the state is as before, `_plain` that no OVERFLOW is raised. -/

namespace Sys2Proof.Machine

/-- The state with all that an event's shared operations may change set to one value: what is left are the queue of commands,
the clock, the pins, the resets, the link, the store and every setting. -/
def State.fixed (s : State) : State :=
  { s with
    port := [], access := Access.initial, watches := { s.watches with records := [] }
    hazards := { s.hazards with records := [], storm := Condition.initial }
    sched := { Sched.initial with holdLimits := s.sched.holdLimits }
    sweep := { Sweep.initial with
      pace := s.sweep.pace, concurrency := s.sweep.concurrency, passMode := s.sweep.passMode, mask := s.sweep.mask }
    engine := { s.engine with heads := [] }, lines := [], tickets := { s.tickets with table := [], next := 1 } }

/-- An item of an event that is no OVERFLOW. -/
def OutItem.plain : OutItem → Bool
  | .early r => !r.isOverflow
  | .late r => !r.isOverflow
  | .last r => !r.isOverflow
  | .jobState _ _ _ => true

/-- The event has raised no OVERFLOW so far. -/
def Ctx.plain (c : Ctx) : Bool := c.out.all OutItem.plain

/-! ## What `fixed` says -/

theorem State.pending_of_fixed {s t : State} (h : t.fixed = s.fixed) : t.pending = s.pending :=
  (congrArg State.pending h : t.fixed.pending = s.fixed.pending)
theorem State.now_of_fixed {s t : State} (h : t.fixed = s.fixed) : t.now = s.now :=
  (congrArg State.now h : t.fixed.now = s.fixed.now)
theorem State.pins_of_fixed {s t : State} (h : t.fixed = s.fixed) : t.pins = s.pins :=
  (congrArg State.pins h : t.fixed.pins = s.fixed.pins)
theorem State.resets_of_fixed {s t : State} (h : t.fixed = s.fixed) : t.resets = s.resets :=
  (congrArg State.resets h : t.fixed.resets = s.fixed.resets)
theorem State.link_of_fixed {s t : State} (h : t.fixed = s.fixed) : t.link = s.link :=
  (congrArg State.link h : t.fixed.link = s.fixed.link)
theorem State.store_of_fixed {s t : State} (h : t.fixed = s.fixed) : t.store = s.store :=
  (congrArg State.store h : t.fixed.store = s.fixed.store)
theorem State.guardLength_of_fixed {s t : State} (h : t.fixed = s.fixed) :
    t.watches.guardLength = s.watches.guardLength := congrArg (fun s => s.watches.guardLength) h
theorem State.settingsA_of_fixed {s t : State} (h : t.fixed = s.fixed) :
    t.hazards.settingsA = s.hazards.settingsA := congrArg (fun s => s.hazards.settingsA) h
theorem State.settingsB_of_fixed {s t : State} (h : t.fixed = s.fixed) :
    t.hazards.settingsB = s.hazards.settingsB := congrArg (fun s => s.hazards.settingsB) h
theorem State.holdTime_of_fixed {s t : State} (h : t.fixed = s.fixed) :
    t.hazards.holdTime = s.hazards.holdTime := congrArg (fun s => s.hazards.holdTime) h
theorem State.holdLimits_of_fixed {s t : State} (h : t.fixed = s.fixed) :
    t.sched.holdLimits = s.sched.holdLimits := congrArg (fun s => s.sched.holdLimits) h
theorem State.pace_of_fixed {s t : State} (h : t.fixed = s.fixed) :
    t.sweep.pace = s.sweep.pace := congrArg (fun s => s.sweep.pace) h
theorem State.concurrency_of_fixed {s t : State} (h : t.fixed = s.fixed) :
    t.sweep.concurrency = s.sweep.concurrency := congrArg (fun s => s.sweep.concurrency) h
theorem State.passMode_of_fixed {s t : State} (h : t.fixed = s.fixed) :
    t.sweep.passMode = s.sweep.passMode := congrArg (fun s => s.sweep.passMode) h
theorem State.mask_of_fixed {s t : State} (h : t.fixed = s.fixed) :
    t.sweep.mask = s.sweep.mask := congrArg (fun s => s.sweep.mask) h
theorem State.steps_of_fixed {s t : State} (h : t.fixed = s.fixed) :
    t.engine.steps = s.engine.steps := congrArg (fun s => s.engine.steps) h
theorem State.rollCount_of_fixed {s t : State} (h : t.fixed = s.fixed) :
    t.tickets.rollCount = s.tickets.rollCount := congrArg (fun s => s.tickets.rollCount) h
theorem State.rollWindow_of_fixed {s t : State} (h : t.fixed = s.fixed) :
    t.tickets.rollWindow = s.tickets.rollWindow := congrArg (fun s => s.tickets.rollWindow) h
theorem State.stormWindow_of_fixed {s t : State} (h : t.fixed = s.fixed) :
    t.tickets.stormWindow = s.tickets.stormWindow := congrArg (fun s => s.tickets.stormWindow) h
theorem State.valid_of_fixed {s t : State} (h : t.fixed = s.fixed) :
    t.tickets.valid = s.tickets.valid := congrArg (fun s => s.tickets.valid) h

@[simp] theorem State.setSweep_fixed (s : State) (w : Sweep) (h1 : w.pace = s.sweep.pace)
    (h2 : w.concurrency = s.sweep.concurrency) (h3 : w.passMode = s.sweep.passMode) (h4 : w.mask = s.sweep.mask) :
    (s.setSweep w).fixed = s.fixed := by
  simp [State.fixed, State.setSweep, h1, h2, h3, h4]

/-! ## The updates -/

variable (s : State) (c : Ctx)

@[simp] theorem State.setBusRec_fixed (b : Bus) (r : BusRecord) : (s.setBusRec b r).fixed = s.fixed := rfl
@[simp] theorem State.setRelays_fixed (l : Nat) (r : LineRelays) : (s.setRelays l r).fixed = s.fixed := rfl
@[simp] theorem State.setGroupSel_fixed (g : Nat) (b : Option Bus) : (s.setGroupSel g b).fixed = s.fixed := rfl
@[simp] theorem State.setHeadSel_fixed (b : Bus) (h : Option Head) : (s.setHeadSel b h).fixed = s.fixed := rfl
@[simp] theorem State.setSpeechSel_fixed (b : Bus) (p : Option Speech) : (s.setSpeechSel b p).fixed = s.fixed := rfl
@[simp] theorem State.setWatchRec_fixed (b : Bus) (r : WatchRecord) : (s.setWatchRec b r).fixed = s.fixed := rfl
@[simp] theorem State.setHazardRec_fixed (b : Bus) (r : HazardRecord) : (s.setHazardRec b r).fixed = s.fixed := rfl
@[simp] theorem State.setHeadRec_fixed (h : Head) (r : HeadRecord) : (s.setHeadRec h r).fixed = s.fixed := rfl
@[simp] theorem State.setLineStatus_fixed (l : Nat) (r : LineStatus) : (s.setLineStatus l r).fixed = s.fixed := rfl
@[simp] theorem State.setJobs_fixed (js : List Job) : (s.setJobs js).fixed = s.fixed := rfl
@[simp] theorem State.updJob_fixed (n : Nat) (f : Job → Job) : (s.updJob n f).fixed = s.fixed := rfl
@[simp] theorem State.setTickets_fixed (ts : List Ticket) : (s.setTickets ts).fixed = s.fixed := rfl
@[simp] theorem State.updTicket_fixed (n : Nat) (f : Ticket → Ticket) : (s.updTicket n f).fixed = s.fixed := rfl

@[simp] theorem Ctx.upd_plain (f : State → State) : (c.upd f).plain = c.plain := rfl
@[simp] theorem Ctx.put_plain (i : OutItem) : (c.put i).plain = (c.plain && i.plain) := by simp [Ctx.plain]
@[simp] theorem Ctx.walk_plain : c.walk.plain = c.plain := rfl
@[simp] theorem Ctx.issue_plain : c.issue.plain = c.plain := rfl
@[simp] theorem Ctx.send_fixed (m : PortMessage) : (c.send m).s.fixed = c.s.fixed := rfl
@[simp] theorem Ctx.send_plain (m : PortMessage) : (c.send m).plain = c.plain := rfl

theorem OutItem.plain_of_isStateOf {i : OutItem} {n : Nat} (h : i.isStateOf n = true) : i.plain = true := by
  cases i <;> simp_all [OutItem.isStateOf, OutItem.plain]

theorem all_plain_without (n : Nat) (out : List OutItem) :
    (out.filter fun i => !i.isStateOf n).all OutItem.plain = out.all OutItem.plain := by
  induction out with
  | nil => rfl
  | cons i out ih =>
    by_cases h : i.isStateOf n = true
    · simp [h, ih, OutItem.plain_of_isStateOf h]
    · simp [h, ih]

@[simp] theorem Ctx.jobGone_plain (n : Nat) : (c.jobGone n).plain = c.plain := all_plain_without n c.out
@[simp] theorem Ctx.jobChanged_plain (n : Nat) (k : JobNote) (e : Bool) : (c.jobChanged n k e).plain = c.plain := by
  unfold Ctx.jobChanged Ctx.plain
  rw [List.all_append, all_plain_without]
  simp [OutItem.plain]

@[simp] theorem OutItem.early_plain (r : Report) : (OutItem.early r).plain = !r.isOverflow := rfl
@[simp] theorem OutItem.late_plain (r : Report) : (OutItem.late r).plain = !r.isOverflow := rfl
@[simp] theorem OutItem.last_plain (r : Report) : (OutItem.last r).plain = !r.isOverflow := rfl
@[simp] theorem Report.ticketEvent_isOverflow (e : TicketEventKind) (t : Ticket) :
    (ticketEvent s e t).isOverflow = false := rfl
@[simp] theorem Report.sweepLineEvent_isOverflow (e : SweepEventKind) (l : Nat) (r : RevisitReason) (n : Nat) :
    (sweepLineEvent s e l r n).isOverflow = false := rfl
@[simp] theorem Report.jobResultReport_isOverflow (j : Job) (o : JobOutcome) :
    (jobResultReport s j o).isOverflow = false := rfl
@[simp] theorem Report.ticket_isOverflow (e : TicketEvent) : (Report.ticket e).isOverflow = false := rfl
@[simp] theorem Report.hazard_isOverflow (e : HazardEvent) : (Report.hazard e).isOverflow = false := rfl
@[simp] theorem Report.watch_isOverflow (e : WatchEvent) : (Report.watch e).isOverflow = false := rfl
@[simp] theorem Report.sweep_isOverflow (e : SweepEvent) : (Report.sweep e).isOverflow = false := rfl

/-! ## The Access Controller -/

@[simp] theorem State.putBus_fixed (b : Bus) (r : BusRecord) : (s.putBus b r).fixed = s.fixed := rfl
@[simp] theorem State.moveRelays_fixed (l : Option Nat) (f : LineRelays → LineRelays) : (s.moveRelays l f).fixed = s.fixed := by
  unfold State.moveRelays; (repeat' split) <;> simp
@[simp] theorem State.freeGroup_fixed (l : Option Nat) : (s.freeGroup l).fixed = s.fixed := by
  unfold State.freeGroup; (repeat' split) <;> simp
@[simp] theorem State.detachSpeech_fixed (b : Bus) : (s.detachSpeech b).fixed = s.fixed := by
  unfold State.detachSpeech; dsimp only; (repeat' split) <;> simp
@[simp] theorem State.detachHead_fixed (b : Bus) : (s.detachHead b).fixed = s.fixed := by
  unfold State.detachHead; dsimp only; (repeat' split) <;> simp
@[simp] theorem State.toIdle_fixed (b : Bus) : (s.toIdle b).fixed = s.fixed := by
  unfold State.toIdle; dsimp only; (repeat' split) <;> simp
@[simp] theorem State.startGuard_fixed (b : Bus) : (s.startGuard b).fixed = s.fixed := by
  unfold State.startGuard; simp
@[simp] theorem State.writeWatch_fixed (b : Bus) (w : WatchSettings) : (s.writeWatch b w).fixed = s.fixed := by
  unfold State.writeWatch; simp
@[simp] theorem State.take_fixed (f : AccessMode) (b : Bus) (n l : Nat) (w : WatchSettings) : (s.take f b n l w).fixed = s.fixed := by
  unfold State.take; dsimp only; (repeat' split) <;> simp
@[simp] theorem State.cutFromMonitor_fixed (f : Bool) (b : Bus) : (s.cutFromMonitor f b).fixed = s.fixed := by
  unfold State.cutFromMonitor; dsimp only; (repeat' split) <;> simp
@[simp] theorem State.guardIdleLine_fixed (b : Bus) : (s.guardIdleLine b).fixed = s.fixed := by
  unfold State.guardIdleLine; simp
@[simp] theorem State.guardBusy_fixed (b : Bus) : (s.guardBusy b).fixed = s.fixed := by
  unfold State.guardBusy; simp
@[simp] theorem State.connectEnds_fixed (b : Bus) : (s.connectEnds b).fixed = s.fixed := by
  unfold State.connectEnds; dsimp only; (repeat' split) <;> simp
@[simp] theorem State.restoreEnds_fixed (b : Bus) : (s.restoreEnds b).fixed = s.fixed := by
  unfold State.restoreEnds; simp
@[simp] theorem State.attachHead_fixed (b : Bus) (h : Head) : (s.attachHead b h).fixed = s.fixed := by
  unfold State.attachHead; simp
@[simp] theorem State.attachSpeech_fixed (b : Bus) (p : Speech) : (s.attachSpeech b p).fixed = s.fixed := by
  unfold State.attachSpeech; dsimp only; (repeat' split) <;> simp
@[simp] theorem State.transfer_fixed (b : Bus) (n : Nat) : (s.transfer b n).fixed = s.fixed := by
  unfold State.transfer; simp
@[simp] theorem State.releaseBus_fixed (r : Bool) (b : Bus) : (s.releaseBus r b).fixed = s.fixed := by
  unfold State.releaseBus; dsimp only; (repeat' split) <;> simp
@[simp] theorem State.park_fixed (b : Bus) : (s.park b).fixed = s.fixed := by
  unfold State.park; dsimp only; (repeat' split) <;> simp
@[simp] theorem State.resume_fixed (b : Bus) : (s.resume b).fixed = s.fixed := by
  unfold State.resume; dsimp only; (repeat' split) <;> simp
@[simp] theorem State.dropAll_fixed : (s.dropAll).fixed = s.fixed := rfl

/-! ## The Ticket Unit -/

@[simp] theorem State.setOpenTicket_fixed (l : Nat) (n : Option Nat) : (s.setOpenTicket l n).fixed = s.fixed := by
  unfold State.setOpenTicket; simp
@[simp] theorem State.setUnticketed_fixed (l : Nat) (u : Bool) : (s.setUnticketed l u).fixed = s.fixed := by
  unfold State.setUnticketed; simp
@[simp] theorem State.gather_fixed (k n : Nat) : (s.gather k n).fixed = s.fixed := by
  unfold State.gather; simp
@[simp] theorem State.setVerifyDue_fixed (l : Nat) (d : Bool) : (s.setVerifyDue l d).fixed = s.fixed := by
  unfold State.setVerifyDue; (repeat' split) <;> simp
@[simp] theorem State.returnChildren_fixed (n : Nat) : (s.returnChildren n).fixed = s.fixed := by
  unfold State.returnChildren; simp
@[simp] theorem State.closeTicket_fixed (t : Ticket) : (s.closeTicket t).fixed = s.fixed := by
  unfold State.closeTicket; dsimp only; (repeat' split) <;> simp
@[simp] theorem State.place_fixed (t : Ticket) : (s.place t).1.fixed = s.fixed := rfl
@[simp] theorem Ctx.tellTicket_fixed (e : TicketEventKind) (n : Nat) : (c.tellTicket e n).s.fixed = c.s.fixed := by
  unfold Ctx.tellTicket; (repeat' split) <;> simp
@[simp] theorem Ctx.tellTicket_plain (e : TicketEventKind) (n : Nat) : (c.tellTicket e n).plain = c.plain := by
  unfold Ctx.tellTicket; (repeat' split) <;> simp
@[simp] theorem Ctx.tellFull_fixed (k : TicketKind) (l : Option Nat) (b : Nat) (x : TicketClass) : (c.tellFull k l b x).s.fixed = c.s.fixed := by
  unfold Ctx.tellFull; simp
@[simp] theorem Ctx.tellFull_plain (k : TicketKind) (l : Option Nat) (b : Nat) (x : TicketClass) : (c.tellFull k l b x).plain = c.plain := by
  unfold Ctx.tellFull; simp

theorem Ctx.plain_with (x : State) : ({ c with s := x } : Ctx).plain = c.plain := rfl

theorem Ctx.makeRoom_fixed {c c' : Ctx} (h : c.makeRoom = some c') : c'.s.fixed = c.s.fixed := by
  unfold Ctx.makeRoom at h
  (repeat' split at h) <;> first | (cases h; done) | (cases h; simp)
theorem Ctx.makeRoom_plain {c c' : Ctx} (h : c.makeRoom = some c') : c'.plain = c.plain := by
  unfold Ctx.makeRoom at h
  (repeat' split at h) <;> first | (cases h; done) | (cases h; simp)

@[simp] theorem Ctx.tellAll_fixed (e : TicketEventKind) (ks : List Nat) :
    (ks.foldl (fun c k => c.tellTicket e k) c).s.fixed = c.s.fixed := by
  induction ks generalizing c with
  | nil => rfl
  | cons k ks ih => simp [ih]
@[simp] theorem Ctx.tellAll_plain (e : TicketEventKind) (ks : List Nat) :
    (ks.foldl (fun c k => c.tellTicket e k) c).plain = c.plain := by
  induction ks generalizing c with
  | nil => rfl
  | cons k ks ih => simp [ih]

@[simp] theorem Ctx.gatherCable_fixed (t : Ticket) : (c.gatherCable t).s.fixed = c.s.fixed := by
  unfold Ctx.gatherCable
  split
  · simp
  · split
    · simp
    · rename_i h; simp [Ctx.makeRoom_fixed h]
@[simp] theorem Ctx.gatherCable_plain (t : Ticket) : (c.gatherCable t).plain = c.plain := by
  unfold Ctx.gatherCable
  split
  · simp
  · split
    · simp
    · rename_i h; simp [← Ctx.makeRoom_plain h, Ctx.plain_with]
@[simp] theorem Ctx.rollCheck_fixed (n : Nat) : (c.rollCheck n).s.fixed = c.s.fixed := by
  unfold Ctx.rollCheck; dsimp only; (repeat' split) <;> simp
@[simp] theorem Ctx.rollCheck_plain (n : Nat) : (c.rollCheck n).plain = c.plain := by
  unfold Ctx.rollCheck; dsimp only; (repeat' split) <;> simp

@[simp] theorem Ctx.raiseLine_fixed (l : Nat) (x : TicketClass) (o : TicketOrigin) (m : Ticket → Ticket) :
    (c.raiseLine l x o m).1.s.fixed = c.s.fixed := by
  unfold Ctx.raiseLine
  split
  · simp
  · rename_i h; simp [Ctx.makeRoom_fixed h]
@[simp] theorem Ctx.raiseLine_plain (l : Nat) (x : TicketClass) (o : TicketOrigin) (m : Ticket → Ticket) :
    (c.raiseLine l x o m).1.plain = c.plain := by
  unfold Ctx.raiseLine
  split
  · simp
  · rename_i h; simp [← Ctx.makeRoom_plain h, Ctx.plain_with]
@[simp] theorem Ctx.leaveParent_fixed (p : Option Nat) : (c.leaveParent p).s.fixed = c.s.fixed := by
  unfold Ctx.leaveParent; dsimp only; (repeat' split) <;> simp
@[simp] theorem Ctx.leaveParent_plain (p : Option Nat) : (c.leaveParent p).plain = c.plain := by
  unfold Ctx.leaveParent; dsimp only; (repeat' split) <;> simp
@[simp] theorem Ctx.faultOn_fixed (h : HandOver) (x : TicketClass) (t : Ticket) : (c.faultOn h x t).1.s.fixed = c.s.fixed := by
  unfold Ctx.faultOn; dsimp only; (repeat' split) <;> simp
@[simp] theorem Ctx.faultOn_plain (h : HandOver) (x : TicketClass) (t : Ticket) : (c.faultOn h x t).1.plain = c.plain := by
  unfold Ctx.faultOn; dsimp only; (repeat' split) <;> simp
@[simp] theorem Ctx.okOn_fixed (t : Ticket) : (c.okOn t).1.s.fixed = c.s.fixed := by
  unfold Ctx.okOn; dsimp only; (repeat' split) <;> simp
@[simp] theorem Ctx.okOn_plain (t : Ticket) : (c.okOn t).1.plain = c.plain := by
  unfold Ctx.okOn; dsimp only; (repeat' split) <;> simp
@[simp] theorem Ctx.belowLimitOn_fixed (t : Ticket) : (c.belowLimitOn t).1.s.fixed = c.s.fixed := by
  unfold Ctx.belowLimitOn; dsimp only; (repeat' split) <;> simp
@[simp] theorem Ctx.belowLimitOn_plain (t : Ticket) : (c.belowLimitOn t).1.plain = c.plain := by
  unfold Ctx.belowLimitOn; dsimp only; (repeat' split) <;> simp
@[simp] theorem Ctx.actOnVerdict_fixed (h : HandOver) (v : HandedVerdict) : (c.actOnVerdict h v).1.s.fixed = c.s.fixed := by
  unfold Ctx.actOnVerdict; dsimp only; (repeat' split) <;> simp
@[simp] theorem Ctx.actOnVerdict_plain (h : HandOver) (v : HandedVerdict) : (c.actOnVerdict h v).1.plain = c.plain := by
  unfold Ctx.actOnVerdict; dsimp only; (repeat' split) <;> simp
@[simp] theorem Ctx.handVerdict_fixed (h : HandOver) (v : HandedVerdict) : (c.handVerdict h v).1.s.fixed = c.s.fixed := by
  unfold Ctx.handVerdict; dsimp only; (repeat' split) <;> simp
@[simp] theorem Ctx.handVerdict_plain (h : HandOver) (v : HandedVerdict) : (c.handVerdict h v).1.plain = c.plain := by
  unfold Ctx.handVerdict; dsimp only; (repeat' split) <;> simp
@[simp] theorem Ctx.markLine_fixed (l : Nat) : (c.markLine l).s.fixed = c.s.fixed := by
  unfold Ctx.markLine; simp
@[simp] theorem Ctx.markLine_plain (l : Nat) : (c.markLine l).plain = c.plain := by
  unfold Ctx.markLine; simp
@[simp] theorem Ctx.complain_fixed (l k : Nat) : (c.complain l k).1.s.fixed = c.s.fixed := by
  unfold Ctx.complain; dsimp only; (repeat' split) <;> simp
@[simp] theorem Ctx.complain_plain (l k : Nat) : (c.complain l k).1.plain = c.plain := by
  unfold Ctx.complain; dsimp only; (repeat' split) <;> simp

/-! ## The Sweep Unit's part in a job's end -/

@[simp] theorem Ctx.dropUntestable_fixed (l : Nat) (r : RevisitReason) (n : Nat) : (c.dropUntestable l r n).s.fixed = c.s.fixed := by
  unfold Ctx.dropUntestable; simp
@[simp] theorem Ctx.dropUntestable_plain (l : Nat) (r : RevisitReason) (n : Nat) : (c.dropUntestable l r n).plain = c.plain := by
  unfold Ctx.dropUntestable; simp
@[simp] theorem Ctx.handOver_fixed (k l : Nat) (r : RevisitReason) : (c.handOver k l r).s.fixed = c.s.fixed := by
  unfold Ctx.handOver; dsimp only; (repeat' split) <;> simp
@[simp] theorem Ctx.handOver_plain (k l : Nat) (r : RevisitReason) : (c.handOver k l r).plain = c.plain := by
  unfold Ctx.handOver; dsimp only; (repeat' split) <;> simp
@[simp] theorem Ctx.handOverJob_fixed (j : Job) (r : RevisitReason) : (c.handOverJob j r).s.fixed = c.s.fixed := by
  unfold Ctx.handOverJob; (repeat' split) <;> simp
@[simp] theorem Ctx.handOverJob_plain (j : Job) (r : RevisitReason) : (c.handOverJob j r).plain = c.plain := by
  unfold Ctx.handOverJob; (repeat' split) <;> simp
@[simp] theorem Sweep.jobRemoved_pace (w : Sweep) (j : Job) (o : JobOutcome) : (w.jobRemoved j o).pace = w.pace := by
  unfold Sweep.jobRemoved; (repeat' split) <;> rfl
@[simp] theorem Sweep.jobRemoved_concurrency (w : Sweep) (j : Job) (o : JobOutcome) : (w.jobRemoved j o).concurrency = w.concurrency := by
  unfold Sweep.jobRemoved; (repeat' split) <;> rfl
@[simp] theorem Sweep.jobRemoved_passMode (w : Sweep) (j : Job) (o : JobOutcome) : (w.jobRemoved j o).passMode = w.passMode := by
  unfold Sweep.jobRemoved; (repeat' split) <;> rfl
@[simp] theorem Sweep.jobRemoved_mask (w : Sweep) (j : Job) (o : JobOutcome) : (w.jobRemoved j o).mask = w.mask := by
  unfold Sweep.jobRemoved; (repeat' split) <;> rfl

/-! ## Jobs and heads -/

@[simp] theorem State.freeHead_fixed (h : Head) : (s.freeHead h).fixed = s.fixed := by
  unfold State.freeHead; dsimp only; (repeat' split) <;> simp
@[simp] theorem State.dropStep_fixed (h : Head) : (s.dropStep h).fixed = s.fixed := rfl
@[simp] theorem Ctx.freeJobHead_fixed (n : Nat) : (c.freeJobHead n).s.fixed = c.s.fixed := by
  unfold Ctx.freeJobHead; dsimp only; (repeat' split) <;> simp
@[simp] theorem Ctx.freeJobHead_plain (n : Nat) : (c.freeJobHead n).plain = c.plain := by
  unfold Ctx.freeJobHead; dsimp only; (repeat' split) <;> simp
@[simp] theorem Ctx.abortEntered_fixed (n : Nat) : (c.abortEntered n).s.fixed = c.s.fixed := by
  unfold Ctx.abortEntered; (repeat' split) <;> simp
@[simp] theorem Ctx.abortEntered_plain (n : Nat) : (c.abortEntered n).plain = c.plain := by
  unfold Ctx.abortEntered; (repeat' split) <;> simp
@[simp] theorem Ctx.removeJob_fixed (n : Nat) (o : JobOutcome) : (c.removeJob n o).s.fixed = c.s.fixed := by
  unfold Ctx.removeJob
  split
  · rfl
  · dsimp only
    (repeat' split) <;> simp <;> rw [State.setSweep_fixed] <;> simp
@[simp] theorem Ctx.removeJob_plain (n : Nat) (o : JobOutcome) : (c.removeJob n o).plain = c.plain := by
  unfold Ctx.removeJob
  split
  · rfl
  · dsimp only; (repeat' split) <;> simp
@[simp] theorem Ctx.askRelease_fixed (n : Nat) (o : JobOutcome) (k : JobNote) : (c.askRelease n o k).s.fixed = c.s.fixed := by
  unfold Ctx.askRelease; dsimp only; (repeat' split) <;> simp
@[simp] theorem Ctx.askRelease_plain (n : Nat) (o : JobOutcome) (k : JobNote) : (c.askRelease n o k).plain = c.plain := by
  unfold Ctx.askRelease; dsimp only; (repeat' split) <;> simp
@[simp] theorem Ctx.yieldBus_fixed (b : Bus) : (c.yieldBus b).s.fixed = c.s.fixed := by
  unfold Ctx.yieldBus; dsimp only; (repeat' split) <;> simp
@[simp] theorem Ctx.yieldBus_plain (b : Bus) : (c.yieldBus b).plain = c.plain := by
  unfold Ctx.yieldBus; dsimp only; (repeat' split) <;> simp
@[simp] theorem Ctx.rise_fixed (b : Bus) (k : WatchCause) : (c.rise b k).s.fixed = c.s.fixed := by
  unfold Ctx.rise; dsimp only; (repeat' split) <;> simp
@[simp] theorem Ctx.rise_plain (b : Bus) (k : WatchCause) : (c.rise b k).plain = c.plain := by
  unfold Ctx.rise; dsimp only; (repeat' split) <;> simp
@[simp] theorem Ctx.mayRise_fixed (b : Bus) (k : Option WatchCause) : (c.mayRise b k).s.fixed = c.s.fixed := by
  unfold Ctx.mayRise; (repeat' split) <;> simp
@[simp] theorem Ctx.mayRise_plain (b : Bus) (k : Option WatchCause) : (c.mayRise b k).plain = c.plain := by
  unfold Ctx.mayRise; (repeat' split) <;> simp
@[simp] theorem Ctx.levelCheck_fixed (b : Bus) : (c.levelCheck b).s.fixed = c.s.fixed := by
  unfold Ctx.levelCheck; simp
@[simp] theorem Ctx.levelCheck_plain (b : Bus) : (c.levelCheck b).plain = c.plain := by
  unfold Ctx.levelCheck; simp
@[simp] theorem Ctx.enterHolding_fixed (n : Nat) (st : JobState) (k : JobNote) (e : Bool) : (c.enterHolding n st k e).s.fixed = c.s.fixed := by
  unfold Ctx.enterHolding; simp
@[simp] theorem Ctx.enterHolding_plain (n : Nat) (st : JobState) (k : JobNote) (e : Bool) : (c.enterHolding n st k e).plain = c.plain := by
  unfold Ctx.enterHolding; simp
@[simp] theorem Ctx.preempt_fixed (j : Job) : (c.preempt j).s.fixed = c.s.fixed := by
  unfold Ctx.preempt; simp
@[simp] theorem Ctx.preempt_plain (j : Job) : (c.preempt j).plain = c.plain := by
  unfold Ctx.preempt; simp
@[simp] theorem Ctx.preemptHead_fixed (n : Nat) : (c.preemptHead n).s.fixed = c.s.fixed := by
  unfold Ctx.preemptHead; (repeat' split) <;> simp
@[simp] theorem Ctx.preemptHead_plain (n : Nat) : (c.preemptHead n).plain = c.plain := by
  unfold Ctx.preemptHead; (repeat' split) <;> simp
@[simp] theorem Ctx.enterWaitHead_fixed (n : Nat) (k : JobNote) : (c.enterWaitHead n k).s.fixed = c.s.fixed := by
  unfold Ctx.enterWaitHead
  simp only [Ctx.preemptHead_fixed, Ctx.jobChanged_s, Ctx.upd_s]
  rfl
@[simp] theorem Ctx.enterWaitHead_plain (n : Nat) (k : JobNote) : (c.enterWaitHead n k).plain = c.plain := by
  unfold Ctx.enterWaitHead; simp
@[simp] theorem Ctx.passOwnership_fixed (m n : Nat) : (c.passOwnership m n).s.fixed = c.s.fixed := by
  unfold Ctx.passOwnership; dsimp only; (repeat' split) <;> simp
@[simp] theorem Ctx.passOwnership_plain (m n : Nat) : (c.passOwnership m n).plain = c.plain := by
  unfold Ctx.passOwnership; dsimp only; (repeat' split) <;> simp
@[simp] theorem Ctx.moveConnected_fixed (n : Nat) (k : JobNote) : (c.moveConnected n k).s.fixed = c.s.fixed := by
  unfold Ctx.moveConnected; (repeat' split) <;> simp
@[simp] theorem Ctx.moveConnected_plain (n : Nat) (k : JobNote) : (c.moveConnected n k).plain = c.plain := by
  unfold Ctx.moveConnected; (repeat' split) <;> simp
@[simp] theorem Ctx.configure_fixed (h : Head) (k : Configure) : (c.configure h k).s.fixed = c.s.fixed := rfl
@[simp] theorem Ctx.configure_plain (h : Head) (k : Configure) : (c.configure h k).plain = c.plain := rfl
@[simp] theorem Ctx.strobe_fixed (h : Head) : (c.strobe h).s.fixed = c.s.fixed := rfl
@[simp] theorem Ctx.strobe_plain (h : Head) : (c.strobe h).plain = c.plain := rfl
@[simp] theorem Ctx.startStep_fixed (n : Nat) (h : Head) : (c.startStep n h).s.fixed = c.s.fixed := by
  unfold Ctx.startStep; dsimp only; (repeat' split) <;> simp
@[simp] theorem Ctx.startStep_plain (n : Nat) (h : Head) : (c.startStep n h).plain = c.plain := by
  unfold Ctx.startStep; dsimp only; (repeat' split) <;> simp
@[simp] theorem Ctx.giveHead_fixed (n : Nat) (b : Bus) (h : Head) (k : JobNote) : (c.giveHead n b h k).s.fixed = c.s.fixed := by
  unfold Ctx.giveHead; simp
@[simp] theorem Ctx.giveHead_plain (n : Nat) (b : Bus) (h : Head) (k : JobNote) : (c.giveHead n b h k).plain = c.plain := by
  unfold Ctx.giveHead; simp
@[simp] theorem Ctx.handOut_fixed (n : Nat) : (Ctx.handOut n c).s.fixed = c.s.fixed := by
  induction n generalizing c with
  | zero => rfl
  | succ n ih => unfold Ctx.handOut; split <;> simp [ih]
@[simp] theorem Ctx.handOut_plain (n : Nat) : (Ctx.handOut n c).plain = c.plain := by
  induction n generalizing c with
  | zero => rfl
  | succ n ih => unfold Ctx.handOut; split <;> simp [ih]

/-! ## Verdicts -/

@[simp] theorem Ctx.formVerdict_fixed (j : Job) (p : Profile) : (c.formVerdict j p).1.s.fixed = c.s.fixed := by
  unfold Ctx.formVerdict; dsimp only; (repeat' split) <;> simp
@[simp] theorem Ctx.formVerdict_plain (j : Job) (p : Profile) : (c.formVerdict j p).1.plain = c.plain := by
  unfold Ctx.formVerdict; dsimp only; (repeat' split) <;> simp
@[simp] theorem Ctx.recipeEnd_fixed (n : Nat) : (c.recipeEnd n).s.fixed = c.s.fixed := by
  unfold Ctx.recipeEnd; dsimp only; (repeat' split) <;> simp
@[simp] theorem Ctx.recipeEnd_plain (n : Nat) : (c.recipeEnd n).plain = c.plain := by
  unfold Ctx.recipeEnd; dsimp only; (repeat' split) <;> simp
@[simp] theorem Ctx.completeStep_fixed (n : Nat) (h : Head) (r : StepResult) : (c.completeStep n h r).s.fixed = c.s.fixed := by
  unfold Ctx.completeStep; dsimp only; (repeat' split) <;> simp
@[simp] theorem Ctx.completeStep_plain (n : Nat) (h : Head) (r : StepResult) : (c.completeStep n h r).plain = c.plain := by
  unfold Ctx.completeStep; dsimp only; (repeat' split) <;> simp
@[simp] theorem Ctx.headLost_fixed (st : StepInHand) : (c.headLost st).s.fixed = c.s.fixed := by
  unfold Ctx.headLost; dsimp only; (repeat' split) <;> simp
@[simp] theorem Ctx.headLost_plain (st : StepInHand) : (c.headLost st).plain = c.plain := by
  unfold Ctx.headLost; dsimp only; (repeat' split) <;> simp
@[simp] theorem Ctx.reservedLost_fixed (h : Head) (b : Bus) : (c.reservedLost h b).s.fixed = c.s.fixed := by
  unfold Ctx.reservedLost; dsimp only; (repeat' split) <;> simp
@[simp] theorem Ctx.reservedLost_plain (h : Head) (b : Bus) : (c.reservedLost h b).plain = c.plain := by
  unfold Ctx.reservedLost; dsimp only; (repeat' split) <;> simp

/-! ## Hazards and takes -/

@[simp] theorem State.setCondition_fixed (i : HazardInput) (k : Condition) : (s.setCondition i k).fixed = s.fixed := by
  cases i <;> rfl
@[simp] theorem State.hazardAction_fixed (h : Hazard) (b : Bus) : (s.hazardAction h b).fixed = s.fixed := by
  unfold State.hazardAction; dsimp only; (repeat' split) <;> simp
@[simp] theorem State.stopApplying_fixed (h : Hazard) (b : Bus) : (s.stopApplying h b).fixed = s.fixed := by
  unfold State.stopApplying; dsimp only; (repeat' split) <;> simp
@[simp] theorem State.holdSweep_fixed : (s.holdSweep).fixed = s.fixed := by
  unfold State.holdSweep; split <;> rfl
@[simp] theorem Ctx.tellInput_fixed (e : HazardEventKind) (i : HazardInput) (x : Bool) (m : BusSet) (l : Option Nat) : (c.tellInput e i x m l).s.fixed = c.s.fixed := by
  unfold Ctx.tellInput; simp
@[simp] theorem Ctx.tellInput_plain (e : HazardEventKind) (i : HazardInput) (x : Bool) (m : BusSet) (l : Option Nat) : (c.tellInput e i x m l).plain = c.plain := by
  unfold Ctx.tellInput; simp
@[simp] theorem Ctx.suspend_fixed (j : Job) (b : Bus) (h : Hazard) : (c.suspend j b h).s.fixed = c.s.fixed := by
  unfold Ctx.suspend; dsimp only; (repeat' split) <;> simp
@[simp] theorem Ctx.suspend_plain (j : Job) (b : Bus) (h : Hazard) : (c.suspend j b h).plain = c.plain := by
  unfold Ctx.suspend; dsimp only; (repeat' split) <;> simp
@[simp] theorem Ctx.jobInHazard_fixed (b : Bus) (h : Hazard) : (c.jobInHazard b h).s.fixed = c.s.fixed := by
  unfold Ctx.jobInHazard; dsimp only; (repeat' split) <;> simp
@[simp] theorem Ctx.jobInHazard_plain (b : Bus) (h : Hazard) : (c.jobInHazard b h).plain = c.plain := by
  unfold Ctx.jobInHazard; dsimp only; (repeat' split) <;> simp
@[simp] theorem Ctx.onsetActs_fixed (h : Hazard) (b : Bus) : (c.onsetActs h b).s.fixed = c.s.fixed := by
  unfold Ctx.onsetActs; dsimp only; (repeat' split) <;> simp
@[simp] theorem Ctx.onsetActs_plain (h : Hazard) (b : Bus) : (c.onsetActs h b).plain = c.plain := by
  unfold Ctx.onsetActs; dsimp only; (repeat' split) <;> simp
@[simp] theorem Ctx.applyHazard_fixed (h : Hazard) (b : Bus) : (c.applyHazard h b).s.fixed = c.s.fixed := by
  unfold Ctx.applyHazard; dsimp only; (repeat' split) <;> simp
@[simp] theorem Ctx.applyHazard_plain (h : Hazard) (b : Bus) : (c.applyHazard h b).plain = c.plain := by
  unfold Ctx.applyHazard; dsimp only; (repeat' split) <;> simp
@[simp] theorem Ctx.applyAll_fixed (h : Hazard) (bs : List Bus) :
    (bs.foldl (fun c b => c.applyHazard h b) c).s.fixed = c.s.fixed := by
  induction bs generalizing c with
  | nil => rfl
  | cons b bs ih => simp [ih]
@[simp] theorem Ctx.applyAll_plain (h : Hazard) (bs : List Bus) :
    (bs.foldl (fun c b => c.applyHazard h b) c).plain = c.plain := by
  induction bs generalizing c with
  | nil => rfl
  | cons b bs ih => simp [ih]
@[simp] theorem State.stopAll_fixed (h : Hazard) (bs : List Bus) :
    (bs.foldl (fun s b => s.stopApplying h b) s).fixed = s.fixed := by
  induction bs generalizing s with
  | nil => rfl
  | cons b bs ih => simp [ih]
@[simp] theorem Ctx.inputOnset_fixed (i : HazardInput) : (c.inputOnset i).s.fixed = c.s.fixed := by
  unfold Ctx.inputOnset; dsimp only; (repeat' split) <;> simp
@[simp] theorem Ctx.inputOnset_plain (i : HazardInput) : (c.inputOnset i).plain = c.plain := by
  unfold Ctx.inputOnset; dsimp only; (repeat' split) <;> simp
@[simp] theorem Ctx.releaseSweep_fixed : (c.releaseSweep).s.fixed = c.s.fixed := by
  unfold Ctx.releaseSweep; split <;> simp
@[simp] theorem Ctx.releaseSweep_plain : (c.releaseSweep).plain = c.plain := by
  unfold Ctx.releaseSweep; split <;> simp
@[simp] theorem Ctx.endCondition_fixed (i : HazardInput) : (c.endCondition i).s.fixed = c.s.fixed := by
  unfold Ctx.endCondition; dsimp only; (repeat' split) <;> simp
@[simp] theorem Ctx.endCondition_plain (i : HazardInput) : (c.endCondition i).plain = c.plain := by
  unfold Ctx.endCondition; dsimp only; (repeat' split) <;> simp
@[simp] theorem Ctx.judgeBusy_fixed (b : Bus) : (c.judgeBusy b).s.fixed = c.s.fixed := by
  unfold Ctx.judgeBusy; dsimp only; (repeat' split) <;> simp
@[simp] theorem Ctx.judgeBusy_plain (b : Bus) : (c.judgeBusy b).plain = c.plain := by
  unfold Ctx.judgeBusy; dsimp only; (repeat' split) <;> simp
@[simp] theorem Ctx.guardBegun_fixed (b : Bus) : (c.guardBegun b).s.fixed = c.s.fixed := by
  unfold Ctx.guardBegun; (repeat' split) <;> simp
@[simp] theorem Ctx.guardBegun_plain (b : Bus) : (c.guardBegun b).plain = c.plain := by
  unfold Ctx.guardBegun; (repeat' split) <;> simp
@[simp] theorem Ctx.takeLine_fixed (n : Nat) (f : AccessMode) (b : Bus) (k : JobNote) : (c.takeLine n f b k).s.fixed = c.s.fixed := by
  unfold Ctx.takeLine; dsimp only; (repeat' split) <;> simp
@[simp] theorem Ctx.takeLine_plain (n : Nat) (f : AccessMode) (b : Bus) (k : JobNote) : (c.takeLine n f b k).plain = c.plain := by
  unfold Ctx.takeLine; dsimp only; (repeat' split) <;> simp
@[simp] theorem Ctx.retake_fixed (j : Job) (b : Bus) : (c.retake j b).s.fixed = c.s.fixed := by
  unfold Ctx.retake; dsimp only; (repeat' split) <;> simp
@[simp] theorem Ctx.retake_plain (j : Job) (b : Bus) : (c.retake j b).plain = c.plain := by
  unfold Ctx.retake; dsimp only; (repeat' split) <;> simp
@[simp] theorem Ctx.resumeJob_fixed (n : Nat) (b : Bus) : (c.resumeJob n b).s.fixed = c.s.fixed := by
  unfold Ctx.resumeJob; dsimp only; (repeat' split) <;> simp
@[simp] theorem Ctx.resumeJob_plain (n : Nat) (b : Bus) : (c.resumeJob n b).plain = c.plain := by
  unfold Ctx.resumeJob; dsimp only; (repeat' split) <;> simp
@[simp] theorem Ctx.returnToNormal_fixed (b : Bus) : (c.returnToNormal b).s.fixed = c.s.fixed := by
  unfold Ctx.returnToNormal; dsimp only; (repeat' split) <;> simp
@[simp] theorem Ctx.returnToNormal_plain (b : Bus) : (c.returnToNormal b).plain = c.plain := by
  unfold Ctx.returnToNormal; dsimp only; (repeat' split) <;> simp
@[simp] theorem Ctx.makeExit_fixed (b : Bus) : (c.makeExit b).s.fixed = c.s.fixed := by
  unfold Ctx.makeExit; dsimp only; (repeat' split) <;> simp
@[simp] theorem Ctx.makeExit_plain (b : Bus) : (c.makeExit b).plain = c.plain := by
  unfold Ctx.makeExit; dsimp only; (repeat' split) <;> simp

/-! ## What follows in an event -/

@[simp] theorem Ctx.enqueue_fixed (q : JobRequest) : (c.enqueue q).s.fixed = c.s.fixed := rfl
@[simp] theorem Ctx.enqueue_plain (q : JobRequest) : (c.enqueue q).plain = c.plain := by simp [Ctx.enqueue]
@[simp] theorem Ctx.startJob_fixed (j : Job) (b : Bus) : (c.startJob j b).s.fixed = c.s.fixed := by
  unfold Ctx.startJob
  rw [Ctx.takeLine_fixed]
  rfl
@[simp] theorem Ctx.startJob_plain (j : Job) (b : Bus) : (c.startJob j b).plain = c.plain := by
  unfold Ctx.startJob; simp
@[simp] theorem Ctx.claimAndPreempt_fixed (j k : Job) : (c.claimAndPreempt j k).s.fixed = c.s.fixed := by
  unfold Ctx.claimAndPreempt; simp
@[simp] theorem Ctx.claimAndPreempt_plain (j k : Job) : (c.claimAndPreempt j k).plain = c.plain := by
  unfold Ctx.claimAndPreempt; simp
theorem Ctx.walkList_fixed {c c' : Ctx} {js : List Job} (h : c.walkList js = some c') : c'.s.fixed = c.s.fixed := by
  induction js with
  | nil => cases h
  | cons j js ih =>
    unfold Ctx.walkList at h
    (repeat' split at h) <;> first | exact ih h | (cases h; simp)
theorem Ctx.walkList_plain {c c' : Ctx} {js : List Job} (h : c.walkList js = some c') : c'.plain = c.plain := by
  induction js with
  | nil => cases h
  | cons j js ih =>
    unfold Ctx.walkList at h
    (repeat' split at h) <;> first | exact ih h | (cases h; simp)
@[simp] theorem Ctx.dropUnequipped_fixed (e : RevisitEntry) : (c.dropUnequipped e).s.fixed = c.s.fixed := by
  unfold Ctx.dropUnequipped; simp
@[simp] theorem Ctx.dropUnequipped_plain (e : RevisitEntry) : (c.dropUnequipped e).plain = c.plain := by
  unfold Ctx.dropUnequipped; simp
@[simp] theorem Ctx.tierTwo_fixed (es : List RevisitEntry) : (c.tierTwo es).1.s.fixed = c.s.fixed := by
  induction es generalizing c with
  | nil => rfl
  | cons e es ih => unfold Ctx.tierTwo; (repeat' split) <;> simp [ih]
@[simp] theorem Ctx.tierTwo_plain (es : List RevisitEntry) : (c.tierTwo es).1.plain = c.plain := by
  induction es generalizing c with
  | nil => rfl
  | cons e es ih => unfold Ctx.tierTwo; (repeat' split) <;> simp [ih]
@[simp] theorem Ctx.passEnd_fixed : c.passEnd.s.fixed = c.s.fixed := by
  unfold Ctx.passEnd
  cases h : c.s.sweep.passMode <;> simp [h]
@[simp] theorem Ctx.passEnd_plain : c.passEnd.plain = c.plain := by
  unfold Ctx.passEnd; simp
@[simp] theorem State.startPace_fixed : (s.startPace).fixed = s.fixed := by
  unfold State.startPace; split <;> rfl
@[simp] theorem Ctx.issueJob_fixed (l n : Nat) (x : Bool) : (c.issueJob l n x).s.fixed = c.s.fixed := by
  unfold Ctx.issueJob
  simp
@[simp] theorem Ctx.issueJob_plain (l n : Nat) (x : Bool) : (c.issueJob l n x).plain = c.plain := by
  unfold Ctx.issueJob; simp
@[simp] theorem Ctx.tierThree_fixed : c.tierThree.s.fixed = c.s.fixed := by
  unfold Ctx.tierThree
  dsimp only
  (repeat' split) <;> simp
  rfl
@[simp] theorem Ctx.tierThree_plain : c.tierThree.plain = c.plain := by
  unfold Ctx.tierThree
  dsimp only
  (repeat' split) <;> simp
@[simp] theorem Ctx.issueAttempt_fixed : c.issueAttempt.s.fixed = c.s.fixed := by
  unfold Ctx.issueAttempt
  split
  · split
    · simp
    · dsimp only; split <;> simp
  · rfl
@[simp] theorem Ctx.issueAttempt_plain : c.issueAttempt.plain = c.plain := by
  unfold Ctx.issueAttempt
  split
  · split
    · simp
    · dsimp only; split <;> simp
  · rfl
theorem Ctx.settleStep_fixed {c c' : Ctx} (h : c.settleStep = some c') : c'.s.fixed = c.s.fixed := by
  unfold Ctx.settleStep at h
  split at h
  · cases h; simp
  · split at h
    · cases h; simp
    · split at h
      · cases h
        cases hw : c.walkList c.s.queue with
        | none => rfl
        | some d => simpa [hw] using Ctx.walkList_fixed hw
      · split at h
        · cases h; simp
        · cases h
theorem Ctx.settleStep_plain {c c' : Ctx} (h : c.settleStep = some c') : c'.plain = c.plain := by
  unfold Ctx.settleStep at h
  split at h
  · cases h; simp
  · split at h
    · cases h; simp
    · split at h
      · cases h
        cases hw : c.walkList c.s.queue with
        | none => rfl
        | some d => simpa [hw] using Ctx.walkList_plain hw
      · split at h
        · cases h; exact Ctx.issueAttempt_plain _
        · cases h
@[simp] theorem Ctx.settle_fixed (n : Nat) : (Ctx.settle n c).s.fixed = c.s.fixed := by
  induction n generalizing c with
  | zero => rfl
  | succ n ih =>
    unfold Ctx.settle; split
    · rfl
    · rename_i h; rw [ih, Ctx.settleStep_fixed h]
@[simp] theorem Ctx.settle_plain (n : Nat) : (Ctx.settle n c).plain = c.plain := by
  induction n generalizing c with
  | zero => rfl
  | succ n ih =>
    unfold Ctx.settle; split
    · rfl
    · rename_i h; rw [ih, Ctx.settleStep_plain h]

end Sys2Proof.Machine
end

