-- ==== Sys2Proof/Laws/Ops.lean ====
section
/-! SUPPORT. What the shared operations of an event's beginning and end can do: a report raised, the transmitter's start, the
end of an event, and the service of a request (R4 to R6, R10 to R13). -/

namespace Sys2Proof.Machine

/-! ## A report is raised (R11) -/

/-- Raising reports changes the queue and the lost count and nothing else. -/
theorem State.raiseAll_spec (rs : List Report) (s : State) :
    ∃ q n, rs.foldl State.raise s = { s with link := { s.link with queue := q, lost := n } } := by
  induction rs generalizing s with
  | nil => exact ⟨s.link.queue, s.link.lost, rfl⟩
  | cons r rs ih =>
    obtain ⟨q, n, h⟩ := ih (s.raise r)
    refine ⟨q, n, ?_⟩
    rw [List.foldl_cons, h]
    unfold State.raise
    split <;> rfl

/-- A report that finds a place joins at the tail. -/
theorem State.raise_room {s : State} {r : Report} (h : s.queueUsed < Config.queuePlaces) :
    s.raise r = { s with link := { s.link with queue := s.link.queue ++ [r] } } := by
  simp [State.raise, h]

/-- A report that finds none is lost and counted. -/
theorem State.raise_full {s : State} {r : Report} (h : ¬ s.queueUsed < Config.queuePlaces) :
    s.raise r = { s with link := { s.link with lost := min 255 (s.link.lost + 1) } } := by
  simp [State.raise, h]

/-- The end of an event makes no report an OVERFLOW. -/
@[simp] theorem Report.atEnd_isOverflow (s : State) (r : Report) : (r.atEnd s).isOverflow = r.isOverflow := by
  cases r <;> rfl

/-- A report is no OVERFLOW where the item it comes from is plain. -/
theorem OutItem.report_plain {s : State} {i : OutItem} {r : Report} (hi : i.plain = true) (h : i.report s = some r) :
    r.isOverflow = false := by
  cases i with
  | early x => cases h; simpa using hi
  | late x => cases h; simpa using hi
  | last x => cases h; simpa using hi
  | jobState id n re =>
    simp only [OutItem.report, Option.map_eq_some_iff] at h
    obtain ⟨j, -, rfl⟩ := h
    rfl

/-! ## The transmitter (R10) -/

/-- The transmitter's start changes the slot, the transmitter, the queue and the lost count and nothing else. -/
theorem State.pump_spec (s : State) :
    ∃ x y q n, s.pump = { s with link := { s.link with slot := x, tx := y, queue := q, lost := n } } := by
  unfold State.pump
  split
  · exact ⟨s.link.slot, s.link.tx, s.link.queue, s.link.lost, rfl⟩
  · split
    · split
      · exact ⟨_, _, s.link.queue, s.link.lost, rfl⟩
      · split
        · exact ⟨s.link.slot, s.link.tx, s.link.queue, s.link.lost, rfl⟩
        · split
          · exact ⟨s.link.slot, s.link.tx, s.link.queue, s.link.lost, rfl⟩
          · unfold afterLeave
            split
            · exact ⟨s.link.slot, _, _, _, rfl⟩
            · exact ⟨s.link.slot, _, _, s.link.lost, rfl⟩
    · exact ⟨s.link.slot, s.link.tx, s.link.queue, s.link.lost, rfl⟩

/-- While a reset is under way nothing is sent. -/
theorem State.pump_active {s : State} (h : s.resets.active = true) : s.pump = s := by simp [State.pump, h]

/-- A transmitter that is sending goes on. -/
theorem State.pump_busy {s : State} (h : s.link.tx ≠ .idle) : s.pump = s := by
  unfold State.pump
  split
  · rfl
  · split <;> simp_all

/-- A reply placed in an empty slot is begun by an idle transmitter. -/
theorem State.pump_reply {s : State} {code tag : Byte} {x : ReplyContent} (h : s.resets.active = false) :
    (s.reply code tag x).pump = { s with link := s.link.replying ⟨code, tag, x, false⟩ } := by
  unfold State.pump Link.replying State.reply
  cases hx : s.link.tx <;> simp [h, hx, Option.filter]

/-! ## The end of an event -/

/-- The end of an event changes the slot, the transmitter, the queue and the lost count and nothing else. -/
theorem Ctx.finish_spec (c : Ctx) :
    ∃ x y q n, c.finish = { c.s with link := { c.s.link with slot := x, tx := y, queue := q, lost := n } } := by
  obtain ⟨q, n, h⟩ := State.raiseAll_spec ((ordered c.out).filterMap (OutItem.report c.s)) c.s
  obtain ⟨x, y, q', n', h'⟩ := State.pump_spec { c.s with link := { c.s.link with queue := q, lost := n } }
  exact ⟨x, y, q', n', by unfold Ctx.finish; rw [h, h']⟩

/-- An event that has raised nothing ends with the transmitter's start alone. -/
theorem Ctx.finish_silent {c : Ctx} (h : c.out = []) : c.finish = c.s.pump := by
  simp [Ctx.finish, h, ordered]

/-- An event that has raised one early report. -/
theorem Ctx.finish_early {c : Ctx} {r : Report} (h : c.out = [.early r]) :
    c.finish = (c.s.raise (r.atEnd c.s)).pump := by
  simp [Ctx.finish, h, ordered, OutItem.report]

section Finish
variable (c : Ctx)
@[simp] theorem Ctx.finish_pending : c.finish.pending = c.s.pending := by obtain ⟨x, y, q, n, h⟩ := c.finish_spec; rw [h]
@[simp] theorem Ctx.finish_now : c.finish.now = c.s.now := by obtain ⟨x, y, q, n, h⟩ := c.finish_spec; rw [h]
@[simp] theorem Ctx.finish_port : c.finish.port = c.s.port := by obtain ⟨x, y, q, n, h⟩ := c.finish_spec; rw [h]
@[simp] theorem Ctx.finish_pins : c.finish.pins = c.s.pins := by obtain ⟨x, y, q, n, h⟩ := c.finish_spec; rw [h]
@[simp] theorem Ctx.finish_resets : c.finish.resets = c.s.resets := by obtain ⟨x, y, q, n, h⟩ := c.finish_spec; rw [h]
@[simp] theorem Ctx.finish_store : c.finish.store = c.s.store := by obtain ⟨x, y, q, n, h⟩ := c.finish_spec; rw [h]
@[simp] theorem Ctx.finish_access : c.finish.access = c.s.access := by obtain ⟨x, y, q, n, h⟩ := c.finish_spec; rw [h]
@[simp] theorem Ctx.finish_watches : c.finish.watches = c.s.watches := by obtain ⟨x, y, q, n, h⟩ := c.finish_spec; rw [h]
@[simp] theorem Ctx.finish_hazards : c.finish.hazards = c.s.hazards := by obtain ⟨x, y, q, n, h⟩ := c.finish_spec; rw [h]
@[simp] theorem Ctx.finish_sched : c.finish.sched = c.s.sched := by obtain ⟨x, y, q, n, h⟩ := c.finish_spec; rw [h]
@[simp] theorem Ctx.finish_sweep : c.finish.sweep = c.s.sweep := by obtain ⟨x, y, q, n, h⟩ := c.finish_spec; rw [h]
@[simp] theorem Ctx.finish_engine : c.finish.engine = c.s.engine := by obtain ⟨x, y, q, n, h⟩ := c.finish_spec; rw [h]
@[simp] theorem Ctx.finish_lines : c.finish.lines = c.s.lines := by obtain ⟨x, y, q, n, h⟩ := c.finish_spec; rw [h]
@[simp] theorem Ctx.finish_tickets : c.finish.tickets = c.s.tickets := by obtain ⟨x, y, q, n, h⟩ := c.finish_spec; rw [h]
end Finish

/-! ## Nothing follows -/

/-- An event in which nothing more is due is settled. -/
theorem Ctx.settle_of_none {c : Ctx} (h : c.settleStep = none) (n : Nat) : Ctx.settle n c = c := by
  cases n <;> simp [Ctx.settle, h]

/-- One thing due is done, and the rest of the event goes on. -/
theorem Ctx.settle_of_some {c c' : Ctx} (h : c.settleStep = some c') (n : Nat) :
    Ctx.settle (n + 1) c = Ctx.settle n c' := by
  simp [Ctx.settle, h]

theorem Calm.dueExit {s : State} (h : Calm s) : s.dueExit? = none := by
  simp [State.dueExit?, State.exitDue, h.exits]

theorem firstBy_nil (order : Job → Nat) : firstBy order [] = none := rfl

theorem Calm.nextHandout {s : State} (h : Calm s) : s.nextHandout? = none := by
  unfold State.nextHandout?
  split
  · rfl
  · rw [List.filter_eq_nil_iff.2 (by simpa using fun j hj hw => absurd hw (h.heads j hj))]
    rfl

theorem Settled.noQueue {s : State} (h : Settled s) : s.queue = [] := by
  unfold State.queue
  rw [List.filter_eq_nil_iff.2 (by simpa using h.queue)]
  rfl

/-- In a calm state an event with no walk and no attempt due is settled. -/
theorem Ctx.settle_calm {c : Ctx} (h : Calm c.s) (hw : c.walkDue = false) (hi : c.issueDue = false) (n : Nat) :
    Ctx.settle n c = c :=
  Ctx.settle_of_none (by simp [Ctx.settleStep, h.dueExit, h.nextHandout, hw, hi]) n

/-- In a settled state an event comes to rest whatever is due in it. -/
theorem Ctx.settle_settled {c : Ctx} (h : Settled c.s) (n : Nat) :
    Ctx.settle (n + 2) c = { c with walkDue := false, issueDue := false } := by
  obtain ⟨s, out, w, i⟩ := c
  have hq : s.queue = [] := h.noQueue
  have hi : s.mayIssue = false := by simp [State.mayIssue, h.sweep]
  have he : s.dueExit? = none := h.toCalm.dueExit
  have hn : s.nextHandout? = none := h.toCalm.nextHandout
  have rest : Ctx.settle n ⟨s, out, false, false⟩ = ⟨s, out, false, false⟩ :=
    Ctx.settle_of_none (by simp [Ctx.settleStep, he, hn]) n
  cases w <;> cases i <;>
    simp [Ctx.settle, Ctx.settleStep, he, hn, hq, Ctx.walkList, Ctx.issueAttempt, hi, rest]

/-! ## A request is served (R4 to R6) -/

/-- A request that meets none of the link's refusals is its owner's. -/
theorem requestFrame_ready {s : State} {tag : Byte} (h : Ready s tag) (code : Byte) {lengthOk : List Byte → Bool}
    {owner : List Byte → Ctx → Served} {body : List Byte} (hl : lengthOk body = true) :
    requestFrame code lengthOk owner tag body s =
      match owner body ((Ctx.of s).upd State.hunt) with
      | .rejected r => s.answers code tag (.reject r)
      | .done c f => Ctx.finish (c.upd fun s => s.reply code tag (.ack (f s))) := by
  have hc : ((Ctx.of s).upd State.hunt).s.pins.supplyGood = true := h.supply
  have hs : ((Ctx.of s).upd State.hunt).s.resets.starting = false := h.started
  unfold requestFrame frameCompleted serve
  simp only [h.running, h.tag, h.slot, hl, hc, hs, Option.isSome_none, Bool.true_eq_false, Bool.false_eq_true, if_false]
  cases owner body ((Ctx.of s).upd State.hunt) with
  | rejected r =>
    dsimp only
    rw [Ctx.finish_silent rfl]
    exact State.pump_reply (s := ((Ctx.of s).upd State.hunt).s) h.running
  | done c f => rfl

/-- An owner that raises no report. -/
theorem requestFrame_silent {s s' : State} {tag : Byte} (h : Ready s tag) (code : Byte) {lengthOk : List Byte → Bool}
    {owner : List Byte → Ctx → Served} {body : List Byte} {w i : Bool} {f : State → AckBody} (hl : lengthOk body = true)
    (ho : owner body ((Ctx.of s).upd State.hunt) = .done ⟨s', [], w, i⟩ f) (ha : s'.resets.active = false) :
    requestFrame code lengthOk owner tag body s =
      { s' with link := s'.link.replying ⟨code, tag, .ack (f s'), false⟩ } := by
  rw [requestFrame_ready h code hl, ho]
  dsimp only
  rw [Ctx.finish_silent rfl]
  exact State.pump_reply ha

/-! ## Reports of an event -/

/-- What an item reports does not depend on the reply slot. -/
@[simp] theorem OutItem.report_reply (s : State) (code tag : Byte) (x : ReplyContent) (i : OutItem) :
    i.report (s.reply code tag x) = i.report s := by
  cases i <;> rfl

/-- An owner whose event raises reports: the state it leaves is `t` with the receiver in HUNT. -/
theorem requestFrame_telling {s t : State} {tag : Byte} (h : Ready s tag) (code : Byte) {lengthOk : List Byte → Bool}
    {owner : List Byte → Ctx → Served} {body : List Byte} {c : Ctx} {f : State → AckBody} {a : AckBody} {rs : List Report}
    (hl : lengthOk body = true) (ho : owner body ((Ctx.of s).upd State.hunt) = .done c f)
    (hs : c.s = ({ t with port := [] } : State).hunt) (ha : f c.s = a)
    (hr : (ordered c.out).filterMap (OutItem.report c.s) = rs) :
    requestFrame code lengthOk owner tag body s = t.acksTelling code tag a rs := by
  rw [requestFrame_ready h code hl, ho]
  dsimp only
  unfold Ctx.finish State.acksTelling
  have hf : OutItem.report (c.s.reply code tag (.ack (f c.s))) = OutItem.report c.s := by
    funext i; simp
  rw [show (c.upd fun s => s.reply code tag (.ack (f s))).s = c.s.reply code tag (.ack (f c.s)) from rfl,
    show (c.upd fun s => s.reply code tag (.ack (f s))).out = c.out from rfl, hf, hr, ha, hs]

/-- An ACK with no report. -/
theorem State.acksTelling_nil {t : State} (h : t.resets.active = false) (code tag : Byte) (a : AckBody) :
    t.acksTelling code tag a [] = t.acks code tag a := by
  unfold State.acksTelling
  rw [List.foldl_nil, State.pump_reply (s := ({ t with port := [] } : State).hunt) h]
  rfl

/-- An event that is no request. -/
theorem event_telling {s t : State} {f : Ctx → Ctx} {rs : List Report} (hs : (f (Ctx.of s)).s = { t with port := [] })
    (hr : (ordered (f (Ctx.of s)).out).filterMap (OutItem.report (f (Ctx.of s)).s) = rs) : event f s = t.tells rs := by
  unfold event Ctx.finish State.tells
  rw [hr, hs]

/-! ## Jobs -/

/-- The job with this id after it is changed. -/
theorem State.job?_updJob_same {s : State} {id : Nat} {f : Job → Job} (hf : ∀ j, (f j).id = j.id) :
    (s.updJob id f).job? id = (s.job? id).map f := by
  unfold State.job? State.updJob State.setJobs
  dsimp only
  induction s.sched.jobs with
  | nil => rfl
  | cons j js ih =>
    by_cases h : j.id = id
    · simp [h, hf]
    · simp [h, ih]

/-- A job that is found has the id asked for. -/
theorem State.job?_id {s : State} {id : Nat} {j : Job} (h : s.job? id = some j) : j.id = id := by
  simpa using List.find?_some h

/-- A job that is found is in the table. -/
theorem State.job?_mem {s : State} {id : Nat} {j : Job} (h : s.job? id = some j) : j ∈ s.sched.jobs :=
  List.mem_of_find?_eq_some h

/-- Two changes of one job are one. -/
theorem State.updJob_updJob {s : State} {id : Nat} {f g : Job → Job} (hf : ∀ j, (f j).id = j.id) :
    (s.updJob id f).updJob id g = s.updJob id fun j => g (f j) := by
  unfold State.updJob State.setJobs
  simp only [List.map_map]
  congr 2
  apply List.map_congr_left
  intro j _
  by_cases h : j.id = id <;> simp [h, hf]

/-- A change that leaves states as they are keeps calm. -/
theorem Calm.of_eq {s t : State} (h : Calm s) (he : ∀ b, t.hazardRec b = s.hazardRec b)
    (hj : ∀ j ∈ t.sched.jobs, j.state ≠ .waitHead) : Calm t :=
  ⟨fun b => by rw [he]; exact h.exits b, hj⟩

end Sys2Proof.Machine
end

