-- ==== Sys2Proof/Laws/Operands.lean ====
section
/-! SUPPORT. What the fields of a request body read as, when they are laid out from values in their ranges: bytes, words,
codes, bus sets, buses, heads and recipes. -/

namespace Sys2Proof.Machine

@[simp] theorem byteAt_cons_zero (b : Byte) (l : List Byte) : byteAt (b :: l) 0 = b.toNat := rfl
@[simp] theorem byteAt_cons_succ (b : Byte) (l : List Byte) (n : Nat) : byteAt (b :: l) (n + 1) = byteAt l n := rfl

theorem byteOf_toNat {n : Nat} (h : n ≤ 255) : (byteOf n).toNat = n := by
  simp only [byteOf, BitVec.toNat_ofNat]
  omega

@[simp] theorem byteOf_bus (b : Bus) : (byteOf b.val).toNat = b.val := byteOf_toNat (by omega)
@[simp] theorem byteOf_head (h : Head) : (byteOf h.val).toNat = h.val := byteOf_toNat (by omega)
@[simp] theorem busOf_val (b : Bus) : busOf b.val = some b := by simp [busOf]
@[simp] theorem headOf_val (h : Head) : headOf h.val = some h := by simp [headOf]

/-- A word of a number below 65536 reads as that number. -/
theorem wordAt_word {n : Nat} (h : n < 65536) (l : List Byte) : wordAt (word n ++ l) 0 = n := by
  simp only [wordAt, word, List.cons_append, List.nil_append, byteAt_cons_zero, byteAt_cons_succ, byteOf,
    BitVec.toNat_ofNat]
  omega

/-- A word that follows other bytes. -/
theorem wordAt_append (a l : List Byte) (i : Nat) : wordAt (a ++ l) (a.length + i) = wordAt l i := by
  simp [wordAt, byteAt, List.getD_eq_getElem?_getD, List.getElem?_append_right, Nat.add_assoc]

@[simp] theorem flag_yesNo (b : Bool) : yesNo (flag b).toNat = some b := by cases b <;> rfl
@[simp] theorem formOf_code (f : SetForm) : formOf f.code.toNat = some f := by cases f <;> rfl
@[simp] theorem watchModeOf_code (m : WatchMode) : watchModeOf m.code.toNat = some m := by cases m <;> rfl
@[simp] theorem watchBaseOf_code (m : WatchBase) : watchBaseOf m.code.toNat = some m := by cases m <;> rfl
@[simp] theorem watchActionOf_code (m : WatchAction) : watchActionOf m.code.toNat = some m := by cases m <;> rfl
@[simp] theorem hazardModeOf_code (m : HazardMode) : hazardModeOf m.code.toNat = some m := by cases m <;> rfl
@[simp] theorem passModeOf_code (m : PassMode) : passModeOf m.code.toNat = some m := by cases m <;> rfl
@[simp] theorem accessModeOf_code (m : AccessMode) : accessModeOf m.code.toNat = some m := by cases m <;> rfl
@[simp] theorem stepKindOf_code (k : StepKind) : stepKindOf k.code.toNat = some k := by cases k <;> rfl
@[simp] theorem legOf_code (l : Leg) : legOf l.code.toNat = some l := by cases l <;> rfl
@[simp] theorem rangeOf_code (r : MeasureRange) : rangeOf r.code.toNat = some r := by cases r <;> rfl
@[simp] theorem unitOf_code (u : IntervalUnit) : unitOf u.code.toNat = some u := by cases u <;> rfl
@[simp] theorem intervalNameOf_code (n : IntervalName) : intervalNameOf n.code.toNat = some n := by cases n <;> rfl

/-- A code, or the value that leaves a field as it is. -/
theorem orSame_codeOr {α : Type} {f : Nat → Option α} {code : α → Byte} {same : Byte} (hf : ∀ a, f (code a).toNat = some a)
    (hs : ∀ a, code a ≠ same) (old : α) (x : Option α) :
    orSame same.toNat old f (codeOr same code x).toNat = some (x.getD old) := by
  cases x with
  | none => simp [codeOr, orSame]
  | some a =>
    have : (code a).toNat ≠ same.toNat := fun h => hs a (BitVec.eq_of_toNat_eq h)
    simp [codeOr, orSame, this, hf]

theorem orSame_watchMode (old : WatchMode) (x : Option WatchMode) :
    orSame 255 old watchModeOf (codeOr 0xFF#8 WatchMode.code x).toNat = some (x.getD old) :=
  orSame_codeOr (same := 0xFF#8) watchModeOf_code (by intro a; cases a <;> decide) old x
theorem orSame_watchBase (old : WatchBase) (x : Option WatchBase) :
    orSame 255 old watchBaseOf (codeOr 0xFF#8 WatchBase.code x).toNat = some (x.getD old) :=
  orSame_codeOr (same := 0xFF#8) watchBaseOf_code (by intro a; cases a <;> decide) old x
theorem orSame_watchAction (old : WatchAction) (x : Option WatchAction) :
    orSame 255 old watchActionOf (codeOr 0xFF#8 WatchAction.code x).toNat = some (x.getD old) :=
  orSame_codeOr (same := 0xFF#8) watchActionOf_code (by intro a; cases a <;> decide) old x
theorem orSame_hazardMode (old : HazardMode) (x : Option HazardMode) :
    orSame 255 old hazardModeOf (codeOr 0xFF#8 HazardMode.code x).toNat = some (x.getD old) :=
  orSame_codeOr (same := 0xFF#8) hazardModeOf_code (by intro a; cases a <;> decide) old x
theorem orSame_passMode (old : PassMode) (x : Option PassMode) :
    orSame 255 old passModeOf (codeOr 0xFF#8 PassMode.code x).toNat = some (x.getD old) :=
  orSame_codeOr (same := 0xFF#8) passModeOf_code (by intro a; cases a <;> decide) old x
theorem orSame_flag (old : Bool) (x : Option Bool) :
    orSame 2 old yesNo (codeOr 2#8 flag x).toNat = some (x.getD old) :=
  orSame_codeOr (same := 2#8) flag_yesNo (by intro a; cases a <;> decide) old x
theorem orSame_intervalName (old : IntervalName) (x : Option IntervalName) :
    orSame 2 old intervalNameOf (codeOr 2#8 IntervalName.code x).toNat = some (x.getD old) :=
  orSame_codeOr (same := 2#8) intervalNameOf_code (by intro n; cases n <;> decide) old x

/-- A mask byte reads as its bus set. -/
@[simp] theorem busSetOf_mask (m : BusSet) : busSetOf (maskByte m).toNat = some m := by
  have : m.toNat < 64 := m.isLt
  have hm : (maskByte m).toNat = m.toNat := by
    simp only [maskByte, BitVec.toNat_setWidth]; omega
  rw [busSetOf, hm, if_pos (by omega)]
  simp
theorem orSame_mask (old : BusSet) (x : Option BusSet) :
    orSame 255 old busSetOf (codeOr 0xFF#8 maskByte x).toNat = some (x.getD old) :=
  orSame_codeOr (same := 0xFF#8) busSetOf_mask (by decide +revert) old x

/-- A recipe's steps read back. -/
theorem readSteps_bytes (r : List RecipeStep) :
    readSteps (r.map fun st => [st.kind.code, st.leg.code]).flatten = some r := by
  induction r with
  | nil => rfl
  | cons st r ih => simp [readSteps, ih]

theorem length_stepBytes (r : List RecipeStep) :
    ((r.map fun st => [st.kind.code, st.leg.code]).flatten).length = 2 * r.length := by
  induction r with
  | nil => rfl
  | cons st r ih => simp only [List.map_cons, List.flatten_cons, List.length_append, ih]; simp; omega

/-- A recipe laid out at an offset reads back, where its count is not the one of the FULL recipe. -/
theorem readRecipe_bytes {r : List RecipeStep} (h : r.length ≤ 118) (pre : List Byte) {n : Nat} (hn : pre.length = n) :
    readRecipe n (pre ++ recipeBytes r) = some r := by
  subst hn
  have hb : byteAt (pre ++ recipeBytes r) pre.length = r.length := by
    simp [byteAt, List.getD_eq_getElem?_getD, recipeBytes, byteOf_toNat (show r.length ≤ 255 by omega)]
  rw [readRecipe, hb, if_neg (by omega)]
  simp [recipeBytes, readSteps_bytes]

/-- A laid-out recipe has the length that its count asks for. -/
theorem lengthRecipe_bytes {r : List RecipeStep} (h : r.length ≤ 118) (pre : List Byte) {n : Nat} (hn : pre.length = n) :
    lengthRecipe n (pre ++ recipeBytes r) = true := by
  subst hn
  have hb : byteAt (pre ++ recipeBytes r) pre.length = r.length := by
    simp [byteAt, List.getD_eq_getElem?_getD, recipeBytes, byteOf_toNat (show r.length ≤ 255 by omega)]
  have hl : (pre ++ recipeBytes r).length = pre.length + 1 + 2 * r.length := by
    simp only [List.length_append, recipeBytes, List.length_cons, length_stepBytes]; omega
  rw [lengthRecipe, hb]
  simp [h, hl]

/-- The job that a byte names. -/
theorem State.namedJob_byte {s : State} {id : Nat} {j : Job} (h1 : 1 ≤ id) (h2 : id ≤ 255) (hj : s.job? id = some j) :
    s.namedJob (byteOf id).toNat = .ok j := by
  rw [byteOf_toNat h2, State.namedJob, if_neg (by omega), hj]

/-- The ticket that a word names. -/
theorem State.namedTicket_word {s : State} {n : Nat} {t : Ticket} (h1 : 1 ≤ n) (h2 : n ≤ 65535) (ht : s.ticket? n = some t) :
    s.namedTicket (wordAt (word n) 0) = .ok t := by
  have := wordAt_word (n := n) (by omega) []
  rw [List.append_nil] at this
  rw [this, State.namedTicket, if_neg (by omega), ht]

end Sys2Proof.Machine
end

