-- ==== Sys2Proof/WellFormed.lean ====
section
/-! DEFINITION. Well-formed commands: what can be sent. A request frame carries a tag from 1 to 255 and a body of at most
248 bytes (section 1.1, R4); lines run from 0 to 4095 and job ids from 1 to 255 ("Numbers Used Throughout", 6.1). -/

namespace Sys2Proof

/-- A tag and body that a request frame can carry. -/
def requestOk (tag : Byte) (body : List Byte) : Bool := tag != 0#8 && decide (body.length ≤ 248)

def jobIdOk (n : Nat) : Bool := decide (1 ≤ n) && decide (n ≤ 255)

def Instr.wf : Instr → Bool
  | .characterReceived _ _ => true
  | .interByteTimeout => true
  | .frameSent => true
  | .timeAdvance => true
  | .resetPinAssert => true
  | .resetPinRelease => true
  | .resetDropIntervalExpiry l => decide (l ≤ 4095)
  | .startingPhaseEnd => true
  | .supplyGoodFall => true
  | .supplyGoodRise => true
  | .echo t b => requestOk t b
  | .status t b => requestOk t b
  | .timeSet t b => requestOk t b
  | .reset t b => requestOk t b
  | .dirLoad t b => requestOk t b
  | .dirRead t b => requestOk t b
  | .profileSet t b => requestOk t b
  | .profileRead t b => requestOk t b
  | .routeSet t b => requestOk t b
  | .routeRead t b => requestOk t b
  | .intervalSet t b => requestOk t b
  | .watchSet t b => requestOk t b
  | .watchClear t b => requestOk t b
  | .hazardSet t b => requestOk t b
  | .hazardClear t b => requestOk t b
  | .test t b => requestOk t b
  | .cut t b => requestOk t b
  | .speak t b => requestOk t b
  | .hold t b => requestOk t b
  | .retest t b => requestOk t b
  | .release t b => requestOk t b
  | .jobCancel t b => requestOk t b
  | .jobRead t b => requestOk t b
  | .holdLimitSet t b => requestOk t b
  | .sweepStart t b => requestOk t b
  | .sweepStop t b => requestOk t b
  | .sweepDefault t b => requestOk t b
  | .sweepSet t b => requestOk t b
  | .sweepRead t b => requestOk t b
  | .headAccept t b => requestOk t b
  | .stepSet t b => requestOk t b
  | .stepRead t b => requestOk t b
  | .lineRead t b => requestOk t b
  | .ticketReport t b => requestOk t b
  | .ticketDispatch t b => requestOk t b
  | .ticketVerify t b => requestOk t b
  | .ticketClose t b => requestOk t b
  | .ticketRead t b => requestOk t b
  | .ticketList t b => requestOk t b
  | .ticketErase t b => requestOk t b
  | .rollupSet t b => requestOk t b
  | .guardWindowExpiry _ => true
  | .connectIntervalExpiry _ => true
  | .restoreIntervalExpiry _ => true
  | .loopSenseChange _ _ => true
  | .debounceTimerExpiry _ => true
  | .holdLimitExpiry j => jobIdOk j
  | .hazardInputActive _ => true
  | .hazardInputInactive _ => true
  | .hazardReleaseTimerExpiry _ => true
  | .hazardHoldExpiry j => jobIdOk j
  | .headPresenceLost _ => true
  | .headPresenceReturn _ => true
  | .frameBoundary _ => true
  | .trigger _ => true
  | .samplePair _ _ _ => true
  | .paceTimerExpiry => true

end Sys2Proof
end

