-- ==== Sys2Proof/Laws/PerInstr.lean ====
section
/-! SUPPORT. The family Form of statements, one for each command: a well-formed command that is a request carries a tag other than
0 and a body of at most 248 bytes, so that its frame's length byte is in the range of R2, and its kind code is one that the part
serves (R7); a command that is an event carries neither. -/

namespace Sys2Proof.Laws

open Sys2Proof.Machine

/-- The form of one command. -/
def Form.Statement (c : Instr) : Prop :=
  ∀ (code tag : Byte) (body : List Byte), c.wf = true → requestOf c = some (code, tag, body) →
    tag ≠ 0#8 ∧ 2 ≤ body.length + 2 ∧ body.length + 2 ≤ 250 ∧ (serviceOf code).isSome = true

/-- A request has the form, where it is well-formed by its tag and body and its code is served. -/
theorem form_of_request {c : Instr} {code tag : Byte} {body : List Byte} (hr : requestOf c = some (code, tag, body))
    (hw : c.wf = requestOk tag body) (hs : (serviceOf code).isSome = true) : Form.Statement c := by
  intro code' tag' body' wf h
  cases hr.symm.trans h
  rw [hw] at wf
  simp only [requestOk, Bool.and_eq_true, bne_iff_ne, decide_eq_true_eq] at wf
  exact ⟨wf.1, by omega, by omega, hs⟩

/-- An event has the form. -/
theorem form_of_event {c : Instr} (hr : requestOf c = none) : Form.Statement c := by
  intro code tag body _ h
  cases hr.symm.trans h

theorem Form.characterReceived (c : Byte) (stopOk : Bool) : Form.Statement (.characterReceived c stopOk) :=
  form_of_event rfl

theorem Form.interByteTimeout : Form.Statement (.interByteTimeout) :=
  form_of_event rfl

theorem Form.frameSent : Form.Statement (.frameSent) :=
  form_of_event rfl

theorem Form.timeAdvance : Form.Statement (.timeAdvance) :=
  form_of_event rfl

theorem Form.resetPinAssert : Form.Statement (.resetPinAssert) :=
  form_of_event rfl

theorem Form.resetPinRelease : Form.Statement (.resetPinRelease) :=
  form_of_event rfl

theorem Form.resetDropIntervalExpiry (line : Nat) : Form.Statement (.resetDropIntervalExpiry line) :=
  form_of_event rfl

theorem Form.startingPhaseEnd : Form.Statement (.startingPhaseEnd) :=
  form_of_event rfl

theorem Form.supplyGoodFall : Form.Statement (.supplyGoodFall) :=
  form_of_event rfl

theorem Form.supplyGoodRise : Form.Statement (.supplyGoodRise) :=
  form_of_event rfl

theorem Form.echo (tag : Byte) (body : List Byte) : Form.Statement (.echo tag body) :=
  form_of_request rfl rfl rfl

theorem Form.status (tag : Byte) (body : List Byte) : Form.Statement (.status tag body) :=
  form_of_request rfl rfl rfl

theorem Form.timeSet (tag : Byte) (body : List Byte) : Form.Statement (.timeSet tag body) :=
  form_of_request rfl rfl rfl

theorem Form.reset (tag : Byte) (body : List Byte) : Form.Statement (.reset tag body) :=
  form_of_request rfl rfl rfl

theorem Form.dirLoad (tag : Byte) (body : List Byte) : Form.Statement (.dirLoad tag body) :=
  form_of_request rfl rfl rfl

theorem Form.dirRead (tag : Byte) (body : List Byte) : Form.Statement (.dirRead tag body) :=
  form_of_request rfl rfl rfl

theorem Form.profileSet (tag : Byte) (body : List Byte) : Form.Statement (.profileSet tag body) :=
  form_of_request rfl rfl rfl

theorem Form.profileRead (tag : Byte) (body : List Byte) : Form.Statement (.profileRead tag body) :=
  form_of_request rfl rfl rfl

theorem Form.routeSet (tag : Byte) (body : List Byte) : Form.Statement (.routeSet tag body) :=
  form_of_request rfl rfl rfl

theorem Form.routeRead (tag : Byte) (body : List Byte) : Form.Statement (.routeRead tag body) :=
  form_of_request rfl rfl rfl

theorem Form.intervalSet (tag : Byte) (body : List Byte) : Form.Statement (.intervalSet tag body) :=
  form_of_request rfl rfl rfl

theorem Form.watchSet (tag : Byte) (body : List Byte) : Form.Statement (.watchSet tag body) :=
  form_of_request rfl rfl rfl

theorem Form.watchClear (tag : Byte) (body : List Byte) : Form.Statement (.watchClear tag body) :=
  form_of_request rfl rfl rfl

theorem Form.hazardSet (tag : Byte) (body : List Byte) : Form.Statement (.hazardSet tag body) :=
  form_of_request rfl rfl rfl

theorem Form.hazardClear (tag : Byte) (body : List Byte) : Form.Statement (.hazardClear tag body) :=
  form_of_request rfl rfl rfl

theorem Form.test (tag : Byte) (body : List Byte) : Form.Statement (.test tag body) :=
  form_of_request rfl rfl rfl

theorem Form.cut (tag : Byte) (body : List Byte) : Form.Statement (.cut tag body) :=
  form_of_request rfl rfl rfl

theorem Form.speak (tag : Byte) (body : List Byte) : Form.Statement (.speak tag body) :=
  form_of_request rfl rfl rfl

theorem Form.hold (tag : Byte) (body : List Byte) : Form.Statement (.hold tag body) :=
  form_of_request rfl rfl rfl

theorem Form.retest (tag : Byte) (body : List Byte) : Form.Statement (.retest tag body) :=
  form_of_request rfl rfl rfl

theorem Form.release (tag : Byte) (body : List Byte) : Form.Statement (.release tag body) :=
  form_of_request rfl rfl rfl

theorem Form.jobCancel (tag : Byte) (body : List Byte) : Form.Statement (.jobCancel tag body) :=
  form_of_request rfl rfl rfl

theorem Form.jobRead (tag : Byte) (body : List Byte) : Form.Statement (.jobRead tag body) :=
  form_of_request rfl rfl rfl

theorem Form.holdLimitSet (tag : Byte) (body : List Byte) : Form.Statement (.holdLimitSet tag body) :=
  form_of_request rfl rfl rfl

theorem Form.sweepStart (tag : Byte) (body : List Byte) : Form.Statement (.sweepStart tag body) :=
  form_of_request rfl rfl rfl

theorem Form.sweepStop (tag : Byte) (body : List Byte) : Form.Statement (.sweepStop tag body) :=
  form_of_request rfl rfl rfl

theorem Form.sweepDefault (tag : Byte) (body : List Byte) : Form.Statement (.sweepDefault tag body) :=
  form_of_request rfl rfl rfl

theorem Form.sweepSet (tag : Byte) (body : List Byte) : Form.Statement (.sweepSet tag body) :=
  form_of_request rfl rfl rfl

theorem Form.sweepRead (tag : Byte) (body : List Byte) : Form.Statement (.sweepRead tag body) :=
  form_of_request rfl rfl rfl

theorem Form.headAccept (tag : Byte) (body : List Byte) : Form.Statement (.headAccept tag body) :=
  form_of_request rfl rfl rfl

theorem Form.stepSet (tag : Byte) (body : List Byte) : Form.Statement (.stepSet tag body) :=
  form_of_request rfl rfl rfl

theorem Form.stepRead (tag : Byte) (body : List Byte) : Form.Statement (.stepRead tag body) :=
  form_of_request rfl rfl rfl

theorem Form.lineRead (tag : Byte) (body : List Byte) : Form.Statement (.lineRead tag body) :=
  form_of_request rfl rfl rfl

theorem Form.ticketReport (tag : Byte) (body : List Byte) : Form.Statement (.ticketReport tag body) :=
  form_of_request rfl rfl rfl

theorem Form.ticketDispatch (tag : Byte) (body : List Byte) : Form.Statement (.ticketDispatch tag body) :=
  form_of_request rfl rfl rfl

theorem Form.ticketVerify (tag : Byte) (body : List Byte) : Form.Statement (.ticketVerify tag body) :=
  form_of_request rfl rfl rfl

theorem Form.ticketClose (tag : Byte) (body : List Byte) : Form.Statement (.ticketClose tag body) :=
  form_of_request rfl rfl rfl

theorem Form.ticketRead (tag : Byte) (body : List Byte) : Form.Statement (.ticketRead tag body) :=
  form_of_request rfl rfl rfl

theorem Form.ticketList (tag : Byte) (body : List Byte) : Form.Statement (.ticketList tag body) :=
  form_of_request rfl rfl rfl

theorem Form.ticketErase (tag : Byte) (body : List Byte) : Form.Statement (.ticketErase tag body) :=
  form_of_request rfl rfl rfl

theorem Form.rollupSet (tag : Byte) (body : List Byte) : Form.Statement (.rollupSet tag body) :=
  form_of_request rfl rfl rfl

theorem Form.guardWindowExpiry (b : Bus) : Form.Statement (.guardWindowExpiry b) :=
  form_of_event rfl

theorem Form.connectIntervalExpiry (b : Bus) : Form.Statement (.connectIntervalExpiry b) :=
  form_of_event rfl

theorem Form.restoreIntervalExpiry (b : Bus) : Form.Statement (.restoreIntervalExpiry b) :=
  form_of_event rfl

theorem Form.loopSenseChange (b : Bus) (present : Bool) : Form.Statement (.loopSenseChange b present) :=
  form_of_event rfl

theorem Form.debounceTimerExpiry (b : Bus) : Form.Statement (.debounceTimerExpiry b) :=
  form_of_event rfl

theorem Form.holdLimitExpiry (job : Nat) : Form.Statement (.holdLimitExpiry job) :=
  form_of_event rfl

theorem Form.hazardInputActive (i : HazardInput) : Form.Statement (.hazardInputActive i) :=
  form_of_event rfl

theorem Form.hazardInputInactive (i : HazardInput) : Form.Statement (.hazardInputInactive i) :=
  form_of_event rfl

theorem Form.hazardReleaseTimerExpiry (i : HazardInput) : Form.Statement (.hazardReleaseTimerExpiry i) :=
  form_of_event rfl

theorem Form.hazardHoldExpiry (job : Nat) : Form.Statement (.hazardHoldExpiry job) :=
  form_of_event rfl

theorem Form.headPresenceLost (h : Head) : Form.Statement (.headPresenceLost h) :=
  form_of_event rfl

theorem Form.headPresenceReturn (h : Head) : Form.Statement (.headPresenceReturn h) :=
  form_of_event rfl

theorem Form.frameBoundary (h : Head) : Form.Statement (.frameBoundary h) :=
  form_of_event rfl

theorem Form.trigger (h : Head) : Form.Statement (.trigger h) :=
  form_of_event rfl

theorem Form.samplePair (h : Head) (v i : BitVec 16) : Form.Statement (.samplePair h v i) :=
  form_of_event rfl

theorem Form.paceTimerExpiry : Form.Statement (.paceTimerExpiry) :=
  form_of_event rfl

end Sys2Proof.Laws
end

