-- ==== Sys2Proof/Tests/Slice0.lean ====
section
/-! SUPPORT. Small tests: ill-formed commands are refused by the well-formedness checks, the worked examples of the spec, and a
concrete state and operands for the hypotheses of every statement that has some (witness_<statement>, one for each clause). -/

namespace Sys2Proof.Tests

open Sys2Proof.Machine

/-! ## Well-formedness -/

theorem test_wf_tag_zero : (Instr.echo 0#8 []).wf = false := by decide
theorem test_wf_body_too_long : (Instr.echo 1#8 (List.replicate 249 0#8)).wf = false := by
  simp only [Instr.wf, requestOk, List.length_replicate]; decide
theorem test_wf_longest_body : (Instr.echo 255#8 (List.replicate 248 0#8)).wf = true := by
  simp only [Instr.wf, requestOk, List.length_replicate]; decide
theorem test_wf_line_too_high : (Instr.resetDropIntervalExpiry 4096).wf = false := by decide
theorem test_wf_last_line : (Instr.resetDropIntervalExpiry 4095).wf = true := by decide
theorem test_wf_job_zero : (Instr.holdLimitExpiry 0).wf = false := by decide
theorem test_wf_job_too_high : (Instr.hazardHoldExpiry 256).wf = false := by decide
theorem test_wf_last_job : (Instr.hazardHoldExpiry 255).wf = true := by decide

/-- The table gives bits to no row: no word spells a command. -/
theorem test_no_word_is_a_command : decodeTableWord 8 0x10 = none := by decide

/-! ## The states of the tests -/

/-- The part in service with nothing in hand. -/
def up : State := { State.reset with resets := { State.reset.resets with starting := false } }

/-- The part with SUPPLY-GOOD low. -/
def low : State := { up with pins := { up.pins with supplyGood := false } }

/-- The part with its reset under way and RESET held. -/
def held : State := { up with resets := ⟨true, .pin, false, [], false⟩, pins := { up.pins with reset := true } }

/-- A desk job of position 1 on line 5, on bus 0. -/
def job (st : JobState) : Job :=
  { id := 1, source := .desk 1, line := 5, recipe := [⟨.fv, .ab⟩, ⟨.ir, .ab⟩], access := .guarded, kept := .guarded
    priority := .normal, keep := true, watch := WatchSettings.ofDesk, snapshot := none, state := st, queueOrder := 1
    startMark := some 1, bus := some 0, head := none, step := 0, results := [], losses := 0, queuedTime := 0#32, waitOrder := 0
    waitTime := 0#32, holdLimit := none, hazardHold := none, suspendedFrom := none, outcome := none, takeover := none
    claim := none, verdict := none, due := none, verification := false }

/-- Bus 0 carrying line 5 of job 1. -/
def bus (a : AccessState) (f : BusFunction) : BusRecord := ⟨a, some 5, some 1, f, none, none, none, false, false⟩

/-- The part with one job and bus 0 as given. -/
def with1 (j : Job) (r : BusRecord) : State := { up with sched := { up.sched with jobs := [j], lastId := 1 } }.setBusRec 0 r

def heldState : State := with1 (job .held) (bus .connected .hold)

/-- A line ticket, number 7, on line 5. -/
def ticket (st : TicketState) : Ticket :=
  { number := 7, kind := .line, line := some 5, cable := 0, cls := .short, origin := .auto, state := st, opened := 0#32
    lastSeen := 0#32, lastChange := 0#32, repeats := 255, verifyDue := false, testOk := false, complaint := false, code := none
    evidence := [], distance := none, parent := none, members := 0 }

/-- A cable ticket, number 65535, on cable 3. -/
def cableTicket : Ticket := { ticket .opened with number := 65535, kind := .cable, line := none, cable := 3, members := 1 }

/-- The part with these tickets. -/
def withTickets (ts : List Ticket) : State := { up with tickets := { up.tickets with table := ts, next := 65535 } }

theorem ready_of {s : State} {tag : Byte} (h1 : s.resets = up.resets) (h2 : s.pins.supplyGood = true) (h3 : s.link.slot = none)
    (h4 : tag ≠ 0#8) : Ready s tag := ⟨by rw [h1]; rfl, by rw [h1]; rfl, h2, h3, h4⟩

theorem calm_of {s : State} (h1 : ∀ b : Bus, (s.hazardRec b).exit = none) (h2 : ∀ j ∈ s.sched.jobs, j.state ≠ .waitHead) : Calm s :=
  ⟨h1, h2⟩

theorem settled_of {s : State} (h1 : ∀ b : Bus, (s.hazardRec b).exit = none) (h2 : ∀ j ∈ s.sched.jobs, j.state ≠ .waitHead)
    (h3 : ∀ j ∈ s.sched.jobs, j.state ≠ .queued) (h4 : s.sweep.state ≠ .running) : Settled s := ⟨⟨h1, h2⟩, h3, h4⟩

theorem ready_up : Ready up 1#8 := ready_of rfl rfl rfl (by decide)
theorem settled_up : Settled up := settled_of (by decide) (by decide) (by decide) (by decide)
theorem ready_held : Ready heldState 1#8 := ready_of rfl rfl rfl (by decide)
theorem calm_held : Calm heldState := calm_of (by decide) (by decide)

/-! ## Witnesses: the queue and the laws -/

theorem witness_IdleStepOnlyPassesTime : up.pending = [] := rfl

/-- 32 reports with one OVERFLOW among them, and the lost count at its top. -/
def fullQueue : State := { up with link := { up.link with
  tx := .reply ⟨0x10#8, 1#8, .ack (.echo []), true⟩
  queue := .overflow 255 :: List.replicate 31 (.linkError .tag 0#8 0#8 0), lost := 255 } }

theorem witness_EveryStepKeepsTheQueueLaw :
    QueueLaw fullQueue ∧ step fullQueue = .next { fullQueue with now := fullQueue.now + 1, port := [] } :=
  ⟨⟨by decide, by decide, by decide⟩, rfl⟩

/-- The revisit list with its 16 places taken. -/
def fullRevisit : State := { up with sweep := { up.sweep with revisit := (List.range 16).map fun l => ⟨l, .busy, 1, 0⟩ } }

theorem witness_EveryStepKeepsTheRevisitLaw :
    RevisitLaw fullRevisit ∧ step fullRevisit = .next { fullRevisit with now := fullRevisit.now + 1, port := [] } :=
  ⟨⟨by decide, by decide⟩, rfl⟩

/-- A ROLLED line ticket and its parent. -/
def rolledTickets : State := withTickets [{ ticket .rolled with cable := 3, parent := some 65535 }, cableTicket]

theorem ticketLaw_rolled : TicketLaw rolledTickets := by
  refine ⟨by decide, by decide, by decide, by decide, by decide, fun line => ?_, fun cable => ?_, by decide⟩
  · by_cases h : line = 5
    · subst h; decide
    · simp [State.liveLineTickets, rolledTickets, withTickets, ticket, cableTicket, Ne.symm h]
  · by_cases h : cable = 3
    · subst h; decide
    · simp [State.liveCableTickets, rolledTickets, withTickets, ticket, cableTicket, Ne.symm h]

theorem witness_EveryStepKeepsTheTicketLaw : TicketLaw rolledTickets ∧ ParentLaw rolledTickets ∧
    step rolledTickets = .next { rolledTickets with now := rolledTickets.now + 1, port := [] } :=
  ⟨ticketLaw_rolled, ⟨by decide, by decide⟩, rfl⟩

theorem witness_EveryStepKeepsTheParentLaw : TicketLaw rolledTickets ∧ ParentLaw rolledTickets ∧
    step rolledTickets = .next { rolledTickets with now := rolledTickets.now + 1, port := [] } :=
  ⟨ticketLaw_rolled, ⟨by decide, by decide⟩, rfl⟩

/-- Bus 0 in hazard A, its line parked. -/
def hazardState : State := (with1 (job .suspended) (bus .parked .none)).setHazardRec 0 ⟨⟨.asserted, true, false⟩, .a, none⟩

theorem witness_EveryStepKeepsTheHazardLaw :
    HazardLaw hazardState ∧ step hazardState = .next { hazardState with now := hazardState.now + 1, port := [] } := by
  refine ⟨⟨by decide, by decide, fun b h => ?_⟩, rfl⟩
  by_cases hb : b = 0
  · subst hb; exact .inr (.inl rfl)
  · exact .inl (by revert b; decide)

/-- Line 5 connected to bus 0. -/
def connectedState : State := heldState.setRelays 5 ⟨true, true, false⟩

theorem jobLaw_connected : JobLaw connectedState :=
  ⟨by decide, by decide, by decide, fun p => (List.length_filter_le _ _).trans (by decide : 1 ≤ 4), by decide, by decide, by decide,
   by decide, fun h st hs => by
      have : (connectedState.headRec h).step = none := by clear hs; revert h; decide
      rw [this] at hs; exact nomatch hs⟩

theorem witness_EveryStepKeepsTheRelayLaw : JobLaw connectedState ∧ RelayLaw connectedState ∧
    step connectedState = .next { connectedState with now := connectedState.now + 1, port := [] } := by
  have h0 : ∀ b : Bus, (connectedState.busRec b).line ≠ none → b = 0 := by decide
  have h1 : ∀ (b : Bus) (line : Nat), (connectedState.busRec b).line = some line → b = 0 ∧ line = 5 := by
    intro b line h
    have hb := h0 b (by rw [h]; exact Option.some_ne_none line)
    subst hb
    exact ⟨rfl, (Option.some.inj h).symm⟩
  refine ⟨jobLaw_connected, ⟨fun b line h _ => ?_, fun line h => ⟨0, ?_, rfl⟩, fun b b' line line' h h' _ => ?_, by decide⟩, rfl⟩
  · rw [(h1 b line h).2]; rfl
  · by_cases hl : line = 5
    · rw [hl]; rfl
    · rw [connectedState, State.setRelays_relaysOf, if_neg hl] at h
      exact absurd h (by change ¬ (false = true); decide)
  · rw [(h1 b line h).1, (h1 b' line' h').1]

theorem witness_TicketsStandStillUnderALowSupply :
    SupplyLaw low ∧ step low = .next { low with now := low.now + 1, port := [] } ∧ low.pins.supplyGood = false :=
  ⟨fun _ => ⟨rfl, rfl⟩, rfl, rfl⟩

/-- The longest hazard hold and the shortest guard window. -/
def settingsState : State :=
  { up with hazards := { up.hazards with holdTime := 255 }, watches := { up.watches with guardLength := 1 } }

theorem settingsLaw_of {s : State} (h1 : s.store = up.store) (h2 : s.watches = settingsState.watches)
    (h3 : s.hazards = settingsState.hazards) (h4 : s.sched.holdLimits = up.sched.holdLimits) (h5 : s.sweep = up.sweep)
    (h6 : s.engine = up.engine) (h7 : s.tickets = up.tickets) : SettingsLaw s :=
  ⟨fun line => by simp [State.dirEntry, h1, up, State.reset, Store.initial, DirEntry.initial], fun cls => by
      simp [Profile.inRange, State.profile, h1, up, State.reset, Store.initial, Profile.initial],
    by rw [h1]; decide, by rw [h2]; decide, by rw [h3]; decide, fun p => by rw [State.holdLimitOf, h4]; exact (by decide : 1 ≤ 10 ∧ 10 ≤ 60),
    by rw [h5]; decide, by rw [h5]; decide,
    fun k => by
      rw [h6]
      cases k <;> simp [StepEntry.inRange, up, State.reset, Engine.initial, StepTable.initial, StepTable.entry,
        StepEntry.initial],
    by rw [h7]; decide⟩

theorem witness_EveryStepKeepsTheSettingsLaw : SettingsLaw settingsState ∧
    step settingsState = .next { settingsState with now := settingsState.now + 1, port := [] } :=
  ⟨settingsLaw_of rfl rfl rfl rfl rfl rfl rfl, rfl⟩

/-- A job and its bus's watch record, each with the exponent at its top. -/
def exponentState : State :=
  (with1 { job .held with watch := { WatchSettings.ofDesk with n := 7 } } (bus .connected .hold)).setWatchRec 0
    { WatchRecord.initial with settings := { WatchSettings.ofDesk with n := 7 } }

theorem witness_EveryStepKeepsTheSettingsLaw_watch : WatchLaw exponentState ∧
    step exponentState = .next { exponentState with now := exponentState.now + 1, port := [] } :=
  ⟨⟨by decide, by decide⟩, rfl⟩

/-- Two HELD jobs of line 5, the takeover mark of one naming the other. -/
def takenOver : State := { settingsState with sched := { up.sched with lastId := 255, jobs :=
  [{ job .held with source := .sweep }, { job .queued with id := 255, bus := none, takeover := some 1 }] } }

theorem witness_EveryStepKeepsTheJobLaw : SettingsLaw takenOver ∧ JobLaw takenOver ∧
    step takenOver = .next { takenOver with now := takenOver.now + 1, port := [] } :=
  ⟨settingsLaw_of rfl rfl rfl rfl rfl rfl rfl,
   ⟨by decide, by decide, by decide, fun p => by
      simp only [State.countOf, takenOver]; exact (List.length_filter_le _ _).trans (by decide : 2 ≤ 4),
    by decide, by decide, by decide, by decide, fun h st hs => by
      have : (takenOver.headRec h).step = none := by clear hs; revert h; decide
      rw [this] at hs; exact nomatch hs⟩, rfl⟩

/-! ## Witnesses: the link -/

/-- A frame of ECHO, tag 7, but for its check. -/
def collecting : State := { up with link := { up.link with rx := .collect 2 [0x10#8, 7#8] } }

theorem witness_LastCharacterIsTheRequest :
    collecting.resets.active = false ∧ requestOf (.echo 7#8 []) = some (0x10#8, 7#8, []) ∧
    [0x10#8, 7#8] ++ [0xE7#8] = 0x10#8 :: 7#8 :: ([] ++ [0xE7#8]) ∧
    collecting.link.rx = .collect (([] : List Byte).length + 2) [0x10#8, 7#8] ∧
    byteSum (byteOf (([] : List Byte).length + 2) :: 0x10#8 :: 7#8 :: ([] ++ [0xE7#8])) = 0#8 := by decide

theorem witness_RefusedRequestChangesOnlyTheLink :
    requestOf (.jobRead 255#8 [9#8]) = some (0x2F#8, 255#8, [9#8]) ∧ up.resets.active = false ∧ 255#8 ≠ 0#8 ∧ up.link.slot = none ∧
    exec (.jobRead 255#8 [9#8]) up = .next (up.answers 0x2F#8 255#8 (.reject .noJob)) ∧
    (up.answers 0x2F#8 255#8 (.reject .noJob)).link.slot = some ⟨0x2F#8, 255#8, .reject .noJob, true⟩ :=
  ⟨rfl, rfl, by decide, rfl, rfl, rfl⟩

theorem witness_FrameTestsComeInOrder_length :
    requestOf (.jobRead 1#8 []) = some (0x2F#8, 1#8, []) ∧ serviceOf 0x2F#8 = some ⟨lengthIs 1, ownerJobRead⟩ ∧
    up.resets.active = false ∧ 1#8 ≠ 0#8 ∧ up.link.slot = none ∧ lengthIs 1 [] = false :=
  ⟨rfl, rfl, rfl, by decide, rfl, rfl⟩
theorem witness_FrameTestsComeInOrder_supply :
    requestOf (.jobRead 255#8 [0#8]) = some (0x2F#8, 255#8, [0#8]) ∧ serviceOf 0x2F#8 = some ⟨lengthIs 1, ownerJobRead⟩ ∧
    low.resets.active = false ∧ 255#8 ≠ 0#8 ∧ low.link.slot = none ∧ lengthIs 1 [0#8] = true ∧ low.pins.supplyGood = false :=
  ⟨rfl, rfl, rfl, by decide, rfl, rfl, rfl⟩
theorem witness_FrameTestsComeInOrder_starting :
    requestOf (.jobRead 1#8 [0#8]) = some (0x2F#8, 1#8, [0#8]) ∧ serviceOf 0x2F#8 = some ⟨lengthIs 1, ownerJobRead⟩ ∧
    State.reset.resets.active = false ∧ 1#8 ≠ 0#8 ∧ State.reset.link.slot = none ∧ lengthIs 1 [0#8] = true ∧
    State.reset.pins.supplyGood = true ∧ State.reset.resets.starting = true :=
  ⟨rfl, rfl, rfl, by decide, rfl, rfl, rfl, rfl⟩

/-- The part with a reply waiting. -/
def answered : State := { up with link := { up.link with slot := some ⟨0x10#8, 1#8, .ack (.echo []), false⟩ } }

theorem witness_FrameTestsComeInOrder_tag :
    requestOf (.status 0#8 []) = some (0x11#8, 0#8, []) ∧ up.resets.active = false ∧ 0#8 = 0#8 := ⟨rfl, rfl, rfl⟩
theorem witness_FrameTestsComeInOrder_slot :
    requestOf (.status 1#8 []) = some (0x11#8, 1#8, []) ∧ answered.resets.active = false ∧ 1#8 ≠ 0#8 ∧
    answered.link.slot.isSome = true := ⟨rfl, rfl, by decide, rfl⟩

/-- A frame of kind 0, which no request has, but for its check. -/
def collectingUnknown : State := { up with link := { up.link with rx := .collect 2 [0#8, 7#8] } }

theorem witness_FrameTestsComeInOrder_unknown : (∀ c t b, requestOf c ≠ some (0#8, t, b)) ∧
    collectingUnknown.resets.active = false ∧ 7#8 ≠ 0#8 ∧ collectingUnknown.link.slot = none ∧
    [0#8, 7#8] ++ [0xF7#8] = 0#8 :: 7#8 :: ([] ++ [0xF7#8]) ∧
    collectingUnknown.link.rx = .collect (([] : List Byte).length + 2) [0#8, 7#8] ∧
    byteSum (byteOf (([] : List Byte).length + 2) :: 0#8 :: 7#8 :: ([] ++ [0xF7#8])) = 0#8 :=
  ⟨fun c t b h => by cases c <;> simp [requestOf] at h, rfl, by decide, rfl, rfl, rfl, by decide⟩

theorem witness_EchoAnswersItsBody : Ready up 1#8 ∧ (List.replicate 248 0xA5#8).length ≤ 248 :=
  ⟨ready_up, by rw [List.length_replicate]⟩
theorem witness_EchoAnswersItsBody_supply : low.resets.active = false ∧ low.link.slot = none ∧ 1#8 ≠ 0#8 ∧
    ([] : List Byte).length ≤ 248 ∧ low.pins.supplyGood = false := ⟨rfl, rfl, by decide, by decide, rfl⟩
theorem witness_EchoAnswersItsBody_starting : State.reset.resets.active = false ∧ State.reset.link.slot = none ∧ 1#8 ≠ 0#8 ∧
    ([] : List Byte).length ≤ 248 ∧ State.reset.pins.supplyGood = true ∧ State.reset.resets.starting = true :=
  ⟨rfl, rfl, by decide, by decide, rfl, rfl⟩

theorem witness_StatusAnswersAndClearsTheMark : Ready up 1#8 := ready_up

theorem witness_TimeIsSetAndAdvances : Ready up 1#8 ∧ up.resets.active = false := ⟨ready_up, rfl⟩

/-- The ACK of a RESET request being sent. -/
def resetting : State := { up with link := { up.link with
  tx := .reply ⟨0x13#8, 1#8, .ack .empty, true⟩, requestReset := true, slot := some ⟨0x13#8, 1#8, .ack .empty, true⟩ } }

theorem witness_RequestResetFollowsItsAck : Ready up 1#8 ∧
    resetting.link.tx = .reply ⟨0x13#8, 1#8, .ack .empty, true⟩ ∧ resetting.link.requestReset = true ∧
    resetting.resets.active = false ∧ (∀ b : Bus, (resetting.busRec b).line = none) ∧ resetting.pins.reset = false ∧
    resetting.pins.hazards = [] ∧ resetting.tickets.valid = true :=
  ⟨ready_up, rfl, rfl, rfl, by decide, rfl, rfl, rfl⟩

/-! ## Witnesses: the Configuration Store and the readings -/

theorem witness_DirLoadWritesItsEntries : Ready up 1#8 ∧ 1 ≤ (List.replicate 16 (255#8, 255#8, true)).length ∧
    (List.replicate 16 (255#8, 255#8, true)).length ≤ 16 ∧ 4080 + (List.replicate 16 (255#8, 255#8, true)).length ≤ 4096 :=
  ⟨ready_up, by decide, by decide, by decide⟩

/-- A profile as fields at the ends of their ranges leave it: in order. -/
def profileAtEnds : Profile := ⟨150000, 500, 500, 100, 10000000, 50000000, 65535, 20, 50, 7⟩

/-- A profile whose thresholds are out of order. -/
def profileOutOfOrder : Profile := ⟨1000, 150000, 500, 100000, 1000, 10000, 0, 120, 0, 1⟩

theorem witness_ProfileSetClampsThenChecksTheOrder : Ready up 1#8 ∧
    profileAtEnds = { fvDanger := max 1000 (min 150000 (2 ^ 32 - 1)), fvLimit := max 500 (min 150000 0)
                      acLimit := max 500 (min 150000 0), shOhm := max 100 (min 100000 0)
                      irFail := max 1000 (min 10000000 (2 ^ 32 - 1)), irMarg := max 10000 (min 50000000 (2 ^ 32 - 1))
                      capMin := 65535, capPerKm := max 20 (min 120 (0#8).toNat), hyst := min 50 (255#8).toNat
                      marginalLimit := max 1 (min 7 (255#8).toNat) } ∧
    1 ≤ (15#8).toNat ∧ (15#8).toNat ≤ 15 ∧ profileAtEnds.shOhm < profileAtEnds.irFail ∧
    profileAtEnds.irFail < profileAtEnds.irMarg ∧ profileAtEnds.fvLimit ≤ profileAtEnds.fvDanger :=
  ⟨ready_up, by decide, by decide, by decide, by decide, by decide, by decide⟩
theorem witness_ProfileSetClampsThenChecksTheOrder_class : Ready up 1#8 ∧ (0#8 = 0#8 ∨ 15 < (0#8).toNat) ∧
    (16#8 = 0#8 ∨ 15 < (16#8).toNat) := ⟨ready_up, by decide, by decide⟩
theorem witness_ProfileSetClampsThenChecksTheOrder_order : Ready up 1#8 ∧
    profileOutOfOrder = { fvDanger := max 1000 (min 150000 0), fvLimit := max 500 (min 150000 (2 ^ 32 - 1))
                          acLimit := max 500 (min 150000 500), shOhm := max 100 (min 100000 (2 ^ 32 - 1))
                          irFail := max 1000 (min 10000000 0), irMarg := max 10000 (min 50000000 0)
                          capMin := 0, capPerKm := max 20 (min 120 (255#8).toNat), hyst := min 50 (0#8).toNat
                          marginalLimit := max 1 (min 7 (0#8).toNat) } ∧
    1 ≤ (1#8).toNat ∧ (1#8).toNat ≤ 15 ∧ ¬(profileOutOfOrder.shOhm < profileOutOfOrder.irFail ∧
      profileOutOfOrder.irFail < profileOutOfOrder.irMarg ∧ profileOutOfOrder.fvLimit ≤ profileOutOfOrder.fvDanger) :=
  ⟨ready_up, by decide, by decide, by decide, by decide⟩

theorem witness_RouteSetChangesTheRoute : Ready up 1#8 ∧ Settled up ∧ 63 ≤ 63 ∧
    (⟨false, 1#6, .b, .a⟩ : Route) = ⟨(some false).getD (up.route 63).enabled, 1#6, (some IntervalName.b).getD (up.route 63).connect,
      (none : Option IntervalName).getD (up.route 63).restore⟩ ∧ (⟨false, 1#6, .b, .a⟩ : Route) ≠ up.route 63 :=
  ⟨ready_up, settled_up, by decide, by decide, by decide⟩
theorem witness_RouteSetChangesTheRoute_same : Ready up 1#8 ∧ 0 ≤ 63 ∧
    up.route 0 = ⟨(none : Option Bool).getD (up.route 0).enabled, (up.route 0).allowed ||| 0#6,
      (none : Option IntervalName).getD (up.route 0).connect, (none : Option IntervalName).getD (up.route 0).restore⟩ :=
  ⟨ready_up, by decide, by decide⟩

/-- Three QUEUED jobs of group 0, an AUTO, a NORMAL and an URGENT one in that order, and a ROLLED ticket on the AUTO job's line. -/
def queuedState : State := { rolledTickets with sched := { up.sched with lastId := 255, jobs :=
  [{ job .queued with source := .auto, priority := .routine, bus := none }, { job .queued with id := 2, line := 0, bus := none },
   { job .queued with id := 255, line := 63, priority := .urgent, bus := none, queueOrder := 2 }] } }

theorem witness_RouteSetChangesTheRoute_disabled : ∀ q : List Job, q =
    [{ job .queued with id := 255, line := 63, priority := .urgent, bus := none, queueOrder := 2 },
     { job .queued with id := 2, line := 0, bus := none }, { job .queued with source := .auto, priority := .routine, bus := none }] →
    Ready queuedState 1#8 ∧ (queuedState.route 0).enabled = true ∧ Calm queuedState ∧ TicketLaw queuedState ∧
    queuedState.sweep.state ≠ .running ∧ (queuedState.sched.jobs.map (·.id)).Nodup ∧
    q.Perm (queuedState.sched.jobs.filter fun j => j.state == .queued) ∧
    (q.Pairwise fun j k => j.priority.rank < k.priority.rank ∨ (j.priority = k.priority ∧ j.queueOrder < k.queueOrder)) ∧
    (∀ j ∈ q, j.line / 64 = 0 ∧ j.head = none) ∧
    (∀ j ∈ queuedState.sched.jobs, ∀ k ∈ q, j.takeover ≠ some k.id ∧ j.claim ≠ some k.id) := by
  intro q h; subst h
  exact ⟨ready_of rfl rfl rfl (by decide), rfl, calm_of (by decide) (by decide),
    ⟨ticketLaw_rolled.1, ticketLaw_rolled.2, ticketLaw_rolled.3, ticketLaw_rolled.4, ticketLaw_rolled.5, ticketLaw_rolled.6,
      ticketLaw_rolled.7, ticketLaw_rolled.8⟩, by decide, by decide, by decide, by decide, by decide, by decide⟩

/-- A running pace timer with 801 units left, a revisit entry with 8001 and one whose moment has passed. -/
def sweepState : State := { up with now := 100, sweep := { up.sweep with
  timer := .running 901, revisit := [⟨5, .busy, 1, 8101⟩, ⟨0, .hazard, 3, 99⟩], notes := [⟨7, 5, 2, true⟩] } }

theorem witness_ReadsAnswerAndChangeNothing_sweep : Ready sweepState 1#8 ∧
    (∀ m, sweepState.sweep.timer = .running m →
      ∃ n, PaceView.running 2 = .running n ∧ m - sweepState.now ≤ 800 * n ∧ 800 * n < m - sweepState.now + 800) ∧
    [(7, 2)] = sweepState.sweep.notes.map (fun n => (n.job, n.attempts)) ∧
    (8101 - sweepState.now ≤ 8000 * 2 ∧ 8000 * 2 < 8101 - sweepState.now + 8000) ∧
    (99 - sweepState.now ≤ 8000 * 0 ∧ 8000 * 0 < 99 - sweepState.now + 8000) :=
  ⟨ready_of rfl rfl rfl (by decide), fun m h => by cases h; exact ⟨2, rfl, by decide, by decide⟩, rfl, by decide, by decide⟩

theorem witness_ReadsAnswerAndChangeNothing : Ready (withTickets [cableTicket]) 1#8 ∧ 
    (16 = max 1 (min 16 (17#8).toNat) ∧ 4080 + 16 ≤ 4096) ∧ (1 = max 1 (min 16 (0#8).toNat) ∧ 4095 + 1 ≤ 4096) ∧
    (1 ≤ 15 ∧ 15 ≤ 15) ∧ 63 ≤ 63 ∧ 4095 ≤ 4095 ∧
    (1 ≤ 65535 ∧ 65535 ≤ 65535 ∧ (withTickets [cableTicket]).ticket? 65535 = some cableTicket) ∧
    [] = ((withTickets [cableTicket]).tickets.table.filter Ticket.verifyDue).map Ticket.number ∧
    [65535] = ((withTickets [cableTicket]).tickets.table.filter fun x => x.state == .opened).map Ticket.number :=
  ⟨ready_of rfl rfl rfl (by decide), by decide, by decide, by decide, by decide, by decide, by decide, by decide, by decide⟩

theorem witness_SettingsTakeClampedValues : Ready up 1#8 ∧
    (⟨1, .half⟩ : ReleaseInterval) = ⟨max 1 (min 63 (0#8).toNat), .half⟩ ∧
    (⟨63, .four⟩ : ReleaseInterval) = ⟨max 1 (min 63 (64#8).toNat), .four⟩ ∧ (1 ≤ 1 ∧ 1 ≤ 4) ∧ (1 ≤ 4 ∧ 4 ≤ 4) ∧
    2 = (if 1#8 = 0#8 then up.tickets.rollCount else max 2 (min 32 (1#8).toNat)) ∧
    10 = (if 0#8 = 0#8 then up.tickets.rollWindow else (0#8).toNat) ∧
    255 = (if 255#8 = 0#8 then up.tickets.stormWindow else (255#8).toNat) :=
  ⟨ready_up, by decide, by decide, by decide, by decide, by decide, by decide, by decide⟩
theorem witness_SettingsTakeClampedValues_cap :
    ∀ e : StepEntry, e = ⟨8, 7, 1, 15, 2, some 3, .lo⟩ →
      8 < 65536 ∧ 65535 < 65536 ∧ e.period = max 8 (min 8000 8) ∧ e.phase = min (e.period - 1) 65535 ∧
      e.post = max 1 (min 16 (0#8).toNat) ∧ e.discard = min 15 (255#8).toNat ∧
      e.samples = max (if StepKind.cap = .cap then 2 else 1) (min 64 (1#8).toNat) ∧
      e.level = (if StepKind.cap = .fv then none else some (min 3 (4#8).toNat)) ∧
      e.startRange = (if StepKind.cap = .fv ∨ StepKind.cap = .cap then .lo else .hi) := by
  intro e h; subst h; decide
theorem witness_SettingsTakeClampedValues_fv :
    ∀ e : StepEntry, e = ⟨8000, 0, 16, 0, 64, none, .lo⟩ →
      65535 < 65536 ∧ 0 < 65536 ∧ e.period = max 8 (min 8000 65535) ∧ e.phase = min (e.period - 1) 0 ∧
      e.post = max 1 (min 16 (17#8).toNat) ∧ e.discard = min 15 (0#8).toNat ∧
      e.samples = max (if StepKind.fv = .cap then 2 else 1) (min 64 (65#8).toNat) ∧
      e.level = (if StepKind.fv = .fv then none else some (min 3 (4#8).toNat)) ∧
      e.startRange = (if StepKind.fv = .fv ∨ StepKind.fv = .cap then .lo else .hi) := by
  intro e h; subst h; decide
theorem witness_SettingsTakeClampedValues_ir :
    ∀ e : StepEntry, e = ⟨8, 0, 1, 0, 1, some 3, .hi⟩ →
      0 < 65536 ∧ 0 < 65536 ∧ e.period = max 8 (min 8000 0) ∧ e.phase = min (e.period - 1) 0 ∧
      e.post = max 1 (min 16 (0#8).toNat) ∧ e.discard = min 15 (0#8).toNat ∧
      e.samples = max (if StepKind.ir = .cap then 2 else 1) (min 64 (0#8).toNat) ∧
      e.level = (if StepKind.ir = .fv then none else some (min 3 (4#8).toNat)) ∧
      e.startRange = (if StepKind.ir = .fv ∨ StepKind.ir = .cap then .lo else .hi) := by
  intro e h; subst h; decide

/-! ## Witnesses: the watch and the hazard requests -/

theorem witness_WatchRequestsChangeSettingsAndPending_guard : Ready up 1#8 ∧
    10 = (if 0#8 = 0#8 then up.watches.guardLength else min 50 (0#8).toNat) ∧
    50 = (if 255#8 = 0#8 then up.watches.guardLength else min 50 (255#8).toNat) := ⟨ready_up, by decide, by decide⟩
theorem witness_WatchRequestsChangeSettingsAndPending_set :
    Ready heldState 1#8 ∧ 1 = (if 1#8 = 0#8 then heldState.watches.guardLength else min 50 (1#8).toNat) ∧
    (⟨.both, 7, .four, .report⟩ : WatchSettings) = ⟨(some WatchMode.both).getD (heldState.watchRec 0).settings.mode,
      if 8#8 = 0xFF#8 then (heldState.watchRec 0).settings.n else min 7 (8#8).toNat,
      (some WatchBase.four).getD (heldState.watchRec 0).settings.base,
      (none : Option WatchAction).getD (heldState.watchRec 0).settings.action⟩ ∧
    Calm heldState ∧ (heldState.busRec 0).owner = some 1 ∧ (heldState.busRec 0).access ≠ .idle ∧
    levelCause .both (heldState.watchRec 0).loop = none :=
  ⟨ready_held, by decide, by decide, calm_held, by decide, by decide, by decide⟩

/-- Every bus pending. -/
def pendingState : State := allBuses.foldl (fun s b => s.setWatchRec b { WatchRecord.initial with pending := true }) up

theorem witness_WatchRequestsChangeSettingsAndPending_clear : Ready pendingState 1#8 ∧ Calm pendingState ∧
    ∀ b : Bus, inSet 0x3F#6 b = true → (pendingState.watchRec b).settings.mode ≠ .loopPresent ∧
      (pendingState.watchRec b).settings.mode ≠ .loopAbsent :=
  ⟨ready_of rfl rfl rfl (by decide), calm_of (by decide) (by decide), by decide⟩

theorem witness_HazardRequestsChangeSettingsAndClear_set : Ready up 1#8 ∧ Calm up ∧
    (∀ b : Bus, up.inEffectAt .b b = false) ∧ (∀ b : Bus, (up.hazardRec b).state = .none) ∧
    (∀ b : Bus, (up.condition (inputAt .b b)).clearTaken = false) ∧ HazardSettings.initialB = up.hazards.settingsB ∧
    (⟨.latched, 0x3F#6, 1#6⟩ : HazardSettings) = ⟨(some HazardMode.latched).getD HazardSettings.initialB.mode,
      HazardSettings.initialB.enable ||| 0x3F#6, (some 1#6).getD HazardSettings.initialB.isolate⟩ :=
  ⟨ready_up, settled_up.toCalm, by decide, by decide, by decide, by decide, by decide⟩

/-- Bus 0's hazard A in effect with its input as given, applying to no bus. -/
def effectState (i : InputState) : State :=
  { up with hazards := { up.hazards with settingsA := { HazardSettings.initialA with enable := 0#6 } } }.setHazardRec 0
    ⟨⟨i, true, false⟩, .none, none⟩

theorem witness_HazardRequestsChangeSettingsAndClear_taken : Ready (effectState .asserted) 1#8 ∧ Calm (effectState .asserted) ∧
    (effectState .asserted).hazards.settingsA.mode = .latched ∧ ((effectState .asserted).hazardRec 0).a.inEffect = true ∧
    ((effectState .asserted).hazardRec 0).a.input ≠ .gone :=
  ⟨ready_of rfl rfl rfl (by decide), calm_of (by decide) (by decide), rfl, rfl, by decide⟩
theorem witness_HazardRequestsChangeSettingsAndClear_gone : Ready (effectState .gone) 1#8 ∧ Calm (effectState .gone) ∧
    (effectState .gone).hazards.settingsA.mode = .latched ∧ ((effectState .gone).hazardRec 0).a.inEffect = true ∧
    ((effectState .gone).hazardRec 0).a.input = .gone ∧ inSet (effectState .gone).hazards.settingsA.enable 0 = false :=
  ⟨ready_of rfl rfl rfl (by decide), calm_of (by decide) (by decide), rfl, rfl, rfl, by decide⟩
theorem witness_HazardRequestsChangeSettingsAndClear_none : Ready up 1#8 ∧ Calm up ∧ up.hazards.settingsA.mode = .latched ∧
    (up.hazardRec 5).a.inEffect = false := ⟨ready_up, settled_up.toCalm, rfl, rfl⟩

/-! ## Witnesses: the Job Scheduler's requests -/

/-- Line 4095 equipped, its route to one bus alone. -/
def testable (m : BusSet) : State :=
  (up.setDirEntry 4095 ⟨15, 0, true⟩).setRoute 63 { Route.initial with allowed := m }

/-- The part with 15 jobs of position 2 and three of position 4 among other lines. -/
def nearlyFull (m : BusSet) : State := { testable m with sched := { (testable m).sched with
  lastId := 255
  jobs := (List.range 15).map fun i => { job .held with id := i + 2, line := i, source := .desk (if i < 3 then 4 else 2), bus := none } } }

theorem witness_TestQueuesOrStarts_queued : Ready (nearlyFull 0#6) 1#8 ∧ Settled (nearlyFull 0#6) ∧ (1 ≤ 4 ∧ 4 ≤ 4) ∧ 4095 ≤ 4095 ∧
    ((nearlyFull 0#6).dirEntry 4095).cls ≠ 0 ∧ ((nearlyFull 0#6).route (4095 / 64)).enabled = true ∧
    (1 ≤ (List.replicate 8 (⟨.cap, .ab⟩ : RecipeStep)).length ∧ (List.replicate 8 (⟨.cap, .ab⟩ : RecipeStep)).length ≤ 8) ∧
    (∀ st ∈ List.replicate 8 (⟨.cap, .ab⟩ : RecipeStep), st.kind = .lr ∨ st.kind = .cap → st.leg = .ab) ∧
    (∀ k ∈ (nearlyFull 0#6).sched.jobs, k.line ≠ 4095) ∧
    ((nearlyFull 0#6).sched.jobs.filter fun k => k.source == .desk 4).length < 4 ∧ (nearlyFull 0#6).sched.jobs.length < 16 ∧
    (∀ b : Bus, inSet ((nearlyFull 0#6).route (4095 / 64)).allowed b = true → (nearlyFull 0#6).allocatable b = false) :=
  ⟨ready_of rfl rfl rfl (by decide), settled_of (by decide) (by decide) (by decide) (by decide), by decide, by decide, by decide,
    by decide, by decide, by decide, by decide, by decide, by decide, by decide⟩

/-- Another line of line 4095's group on bus 5. -/
def groupTaken : State := (testable 0x3F#6).setBusRec 5 { bus .connected .hold with line := some 4094, owner := none }

theorem witness_TestQueuesOrStarts_group : Ready groupTaken 1#8 ∧ Settled groupTaken ∧
    (groupTaken.dirEntry 4095).cls ≠ 0 ∧ (groupTaken.route (4095 / 64)).enabled = true ∧ (∀ k ∈ groupTaken.sched.jobs, k.line ≠ 4095) ∧
    (groupTaken.sched.jobs.filter fun k => k.source == .desk 1).length < 4 ∧ groupTaken.sched.jobs.length < 16 ∧
    (groupTaken.busRec 5).line = some 4094 ∧ 4094 / 64 = 4095 / 64 :=
  ⟨ready_of rfl rfl rfl (by decide), settled_of (by decide) (by decide) (by decide) (by decide), by decide, by decide, by decide,
    by decide, by decide, by decide, by decide⟩

/-- The start: line 4095 may use bus 5 alone, whose raw loop is present. -/
def startable : State := { testable 0x20#6 with pins := { up.pins with loops := [(5, true)] } }

theorem witness_TestQueuesOrStarts_start : Ready startable 1#8 ∧ Settled startable ∧ (1 ≤ 1 ∧ 1 ≤ 4) ∧ 4095 ≤ 4095 ∧
    (startable.dirEntry 4095).cls ≠ 0 ∧ (startable.route (4095 / 64)).enabled = true ∧ (∀ k ∈ startable.sched.jobs, k.line ≠ 4095) ∧
    (startable.sched.jobs.filter fun k => k.source == .desk 1).length < 4 ∧ startable.sched.jobs.length < 16 ∧
    some ⟨16, .present, startable.now + 16⟩ = (if startable.rawLoop 5 then some (⟨16, .present, startable.now + 16⟩ : DebounceTimer)
      else none) ∧
    (∀ b : Bus, (startable.busRec b).line = none) ∧ inSet (startable.route (4095 / 64)).allowed 5 = true ∧
    startable.allocatable 5 = true ∧
    (∀ b : Bus, b < 5 → inSet (startable.route (4095 / 64)).allowed b = true → startable.allocatable b = false) ∧
    (startable.watchRec 5).loop = .absent :=
  ⟨ready_of rfl rfl rfl (by decide), settled_of (by decide) (by decide) (by decide) (by decide), by decide, by decide, by decide,
    by decide, by decide, by decide, by decide, by decide, by decide, by decide, by decide, by decide, by decide⟩

/-- Every head FAILED. -/
def noHead (s : State) : State :=
  allHeads.foldl (fun s h => s.setHeadRec h { HeadRecord.initial with state := .failed }) s

/-- 15 HELD jobs of positions 2 to 4 on other lines. -/
def fifteenJobs : List Job :=
  (List.range 15).map fun i => { job .held with id := i + 2, line := 100 + i, source := .desk (i % 3 + 2), bus := none }

/-- Line 5's AUTO job in WAIT-HEAD on bus 0, among 16 jobs of a full table. -/
def takeable : State := noHead ({ with1 (job .waitHead) (bus .connected .hold) with sched := { up.sched with lastId := 1, jobs :=
  { job .waitHead with source := .auto } ::
    fifteenJobs } }.setDirEntry
  5 ⟨1, 0, true⟩)

theorem witness_TestQueuesOrStarts_takeover : ∀ (s : State) (o : Job), s = takeable → o = { job .waitHead with source := .auto } →
    Ready s 1#8 ∧ (∀ b : Bus, (s.hazardRec b).exit = none) ∧ (∀ h : Head, (s.headRec h).state ≠ .idle) ∧
    s.sweep.state ≠ .running ∧ (s.dirEntry 5).cls ≠ 0 ∧ (s.route (5 / 64)).enabled = true ∧
    (s.sched.jobs.filter fun k => k.source == .desk 1).length < 4 ∧ 17 = s.nextId ∧ s.sched.jobs.length ≤ 16 ∧
    s.job? o.id = some o ∧ o.source = .auto ∧ o.line = 5 ∧ o.state = .waitHead ∧ o.bus = some 0 ∧ o.head = none ∧
    (∀ k ∈ s.sched.jobs, k.state ≠ .queued ∧ k.takeover ≠ some o.id ∧ k.claim ≠ some o.id ∧ (k.line = 5 → k = o)) ∧
    (s.busRec 0).access = .connected := by
  intro s o hs ho; subst hs ho
  exact ⟨ready_of rfl rfl rfl (by decide), by decide, by decide, by decide, by decide, rfl, by decide, by decide, by decide, rfl, rfl,
    rfl, rfl, rfl, rfl, by decide, rfl⟩

/-- Line 4095 with no bus allowed, and a sweep job of line 5 QUEUED in a full table. -/
def evictable : State := noHead { testable 0#6 with sched := { up.sched with lastId := 1, jobs :=
  { job .queued with source := .sweep, bus := none } ::
    fifteenJobs } }

theorem witness_TestQueuesOrStarts_evict : ∀ (s : State) (k : Job), s = evictable →
    k = { job .queued with source := .sweep, bus := none } →
    Ready s 1#8 ∧ (∀ b : Bus, (s.hazardRec b).exit = none) ∧ (∀ h : Head, (s.headRec h).state ≠ .idle) ∧
    s.sweep.state ≠ .running ∧ (s.dirEntry 4095).cls ≠ 0 ∧ (s.route (4095 / 64)).enabled = true ∧
    (s.sched.jobs.filter fun m => m.source == .desk 1).length < 4 ∧ s.job? k.id = some k ∧ k.source = .sweep ∧
    (∀ m ∈ s.sched.jobs, m.line ≠ 4095 ∧ m.takeover ≠ some k.id ∧ m.claim ≠ some k.id ∧ (m.id = k.id → m = k) ∧
      (m.id ≠ k.id → m.state ≠ .queued ∧ m.source ≠ .sweep)) ∧
    (∀ e ∈ s.sweep.revisit, e.line ≠ k.line) ∧ s.sweep.revisit.length < 16 ∧ 1 = s.sweep.attemptsOf k.id + 1 ∧ 1 ≤ 3 ∧
    (∀ b : Bus, inSet (s.route (4095 / 64)).allowed b = true → s.allocatable b = false) ∧ s.sched.jobs.length = 16 ∧
    k.state = .queued ∧ k.head = none ∧
    17 = ({ s with sched := { s.sched with jobs := s.sched.jobs.filter fun m => m.id != k.id } } : State).nextId := by
  intro s k hs hk; subst hs hk
  exact ⟨ready_of rfl rfl rfl (by decide), by decide, by decide, by decide, by decide, rfl, by decide, rfl, rfl, by decide, by decide,
    by decide, rfl, by decide, by decide, rfl, rfl, rfl, by decide⟩

/-- Line 4095 with bus 0 alone allowed, which carries line 5 of a sweep job in WAIT-HEAD. -/
def preemptable : State := noHead ((({ testable 1#6 with sched := { up.sched with lastId := 1, jobs :=
  [{ job .waitHead with source := .sweep }] } }).setBusRec 0 (bus .connected .hold)))

theorem witness_TestQueuesOrStarts_preempt : ∀ (s : State) (k : Job), s = preemptable → k = { job .waitHead with source := .sweep } →
    Ready s 1#8 ∧ (∀ b : Bus, (s.hazardRec b).exit = none) ∧ (∀ h : Head, (s.headRec h).state ≠ .idle) ∧
    s.sweep.state ≠ .running ∧ (s.dirEntry 4095).cls ≠ 0 ∧ (s.route (4095 / 64)).enabled = true ∧
    (s.sched.jobs.filter fun m => m.source == .desk 1).length < 4 ∧ s.job? k.id = some k ∧ k.source = .sweep ∧
    (∀ m ∈ s.sched.jobs, m.line ≠ 4095 ∧ m.takeover ≠ some k.id ∧ m.claim ≠ some k.id ∧ (m.id = k.id → m = k) ∧
      (m.id ≠ k.id → m.state ≠ .queued ∧ m.source ≠ .sweep)) ∧
    (∀ e ∈ s.sweep.revisit, e.line ≠ k.line) ∧ s.sweep.revisit.length < 16 ∧ 1 = s.sweep.attemptsOf k.id + 1 ∧ 1 ≤ 3 ∧
    (∀ b : Bus, inSet (s.route (4095 / 64)).allowed b = true → s.allocatable b = false) ∧ s.sched.jobs.length < 16 ∧
    2 = s.nextId ∧ k.state = .waitHead ∧ k.head = none ∧ k.bus = some 0 ∧
    inSet (s.route (4095 / 64)).allowed 0 = true ∧ bus .connected .hold = s.busRec 0 ∧ (bus .connected .hold).owner = some k.id ∧
    (∀ b' : Bus, b' ≠ 0 → (s.busRec b').line = none) ∧ 5 / 64 ≠ 4095 / 64 ∧
    160 = (s.intervalOf (s.route (5 / 64)).restore).duration := by
  intro s k hs hk; subst hs hk
  exact ⟨ready_of rfl rfl rfl (by decide), by decide, by decide, by decide, by decide, rfl, by decide, rfl, rfl, by decide, by decide,
    by decide, rfl, by decide, by decide, by decide, by decide, rfl, rfl, rfl, by decide, rfl, rfl, by decide, by decide, rfl⟩

theorem witness_NewJobIdIsTheNextFreeOne :
    (∀ n, (fun n => if 255 ≤ n then 1 else n + 1) n = if 255 ≤ n then 1 else n + 1) ∧ (nearlyFull 0#6).sched.jobs.length ≤ 16 :=
  ⟨fun _ => rfl, by decide⟩

/-- Job 1 MONITORING line 5 on bus 0. -/
def monitorState : State := with1 (job .monitoring) (bus .monitor .none)

theorem witness_ForcedCutOpensTheLine : Ready monitorState 1#8 ∧ Calm monitorState ∧ 1 ≤ 1 ∧ 1 ≤ 255 ∧
    monitorState.job? 1 = some (job .monitoring) ∧ (job .monitoring).state = .monitoring ∧ (job .monitoring).bus = some 0 ∧
    bus .monitor .none = monitorState.busRec 0 ∧ (bus .monitor .none).access = .monitor ∧ (bus .monitor .none).line = some 5 ∧
    (bus .monitor .none).speech = none ∧ 160 = (monitorState.intervalOf (monitorState.route (5 / 64)).connect).duration :=
  ⟨ready_of rfl rfl rfl (by decide), calm_of (by decide) (by decide), by decide, by decide, rfl, rfl, rfl, rfl, rfl, rfl, rfl, rfl⟩

theorem witness_SpeakAttachesAndHoldDetaches_talk : Ready heldState 1#8 ∧ heldState.job? 1 = some (job .held) ∧
    (∀ k ∈ heldState.sched.jobs, k.id = 1 → k = job .held) ∧ (job .held).source = .desk 1 ∧ (job .held).bus = some 0 ∧
    some 4800000 = some (heldState.now + heldState.holdLimitOf 1 * 480000) ∧
    (∀ b' : Bus, b' ≠ 0 → (heldState.busRec b').speech = none) ∧ (heldState.busRec 0).speech = none ∧
    (job .held).state = .held ∧ (heldState.busRec 0).access = .connected ∧ (heldState.busRec 0).func = .hold :=
  ⟨ready_held, rfl, by decide, rfl, rfl, rfl, by decide, rfl, rfl, rfl, rfl⟩
theorem witness_SpeakAttachesAndHoldDetaches_listen : Ready monitorState 1#8 ∧ monitorState.job? 1 = some (job .monitoring) ∧
    (∀ k ∈ monitorState.sched.jobs, k.id = 1 → k = job .monitoring) ∧ (job .monitoring).source = .desk 1 ∧
    (job .monitoring).bus = some 0 ∧ (∀ b' : Bus, b' ≠ 0 → (monitorState.busRec b').speech = none) ∧
    (monitorState.busRec 0).speech = none ∧ (job .monitoring).state = .monitoring ∧ (monitorState.busRec 0).access = .monitor :=
  ⟨ready_of rfl rfl rfl (by decide), rfl, by decide, rfl, rfl, by decide, rfl, rfl, rfl⟩

/-- Position 1 talking on bus 0. -/
def talking : State := with1 (job .held) { bus .connected .speak with speech := some ⟨1, .talk⟩ }

theorem witness_SpeakAttachesAndHoldDetaches_hold : Ready talking 1#8 ∧ talking.job? 1 = some (job .held) ∧
    (∀ k ∈ talking.sched.jobs, k.id = 1 → k = job .held) ∧ (job .held).state = .held ∧
    (talking.busRec 0).speech.isSome = true := ⟨ready_of rfl rfl rfl (by decide), rfl, by decide, rfl, rfl⟩

/-- A HELD job with no head IDLE. -/
def headless : State := noHead heldState

theorem witness_RetestReplacesTheRecipe : Ready headless 1#8 ∧ Calm headless ∧ headless.job? 1 = some (job .held) ∧
    (job .held).state = .held ∧ (job .held).priority ≠ .urgent ∧
    (∀ b : Bus, (job .held).bus = some b → (headless.busRec b).speech = none) ∧ (∀ h : Head, (headless.headRec h).state ≠ .idle) ∧
    1 ≤ [(⟨.lr, .ab⟩ : RecipeStep)].length ∧ [(⟨.lr, .ab⟩ : RecipeStep)].length ≤ 8 ∧
    (∀ st ∈ [(⟨.lr, .ab⟩ : RecipeStep)], st.kind = .lr ∨ st.kind = .cap → st.leg = .ab) :=
  ⟨ready_of rfl rfl rfl (by decide), calm_of (by decide) (by decide), rfl, rfl, by decide, by decide, by decide, by decide, by decide,
    by decide⟩

theorem witness_JobsAreReleasedByRequestAndByDeadline_request : Ready heldState 1#8 ∧ Calm heldState ∧
    heldState.job? 1 = some (job .held) ∧ (job .held).state = .held ∧ (job .held).bus = some 0 ∧ (job .held).head = none ∧
    bus .connected .hold = heldState.busRec 0 ∧ (bus .connected .hold).owner = some 1 ∧ (bus .connected .hold).line = some 5 ∧
    (bus .connected .hold).speech = none ∧ (bus .connected .hold).head = none ∧
    160 = (heldState.intervalOf (heldState.route (5 / 64)).restore).duration :=
  ⟨ready_held, calm_held, rfl, rfl, rfl, rfl, rfl, rfl, rfl, rfl, rfl, rfl⟩
theorem witness_JobsAreReleasedByRequestAndByDeadline_limit : ∀ j s, j = { job .held with holdLimit := some 9 } →
    s = with1 j (bus .connected .hold) →
    Calm s ∧ s.job? 1 = some j ∧ j.bus = some 0 ∧ j.head = none ∧ (s.busRec 0).owner = some 1 ∧ (s.busRec 0).line = some 5 ∧
    (s.busRec 0).speech = none ∧ (s.busRec 0).head = none ∧ j.state = .held ∧ j.holdLimit = some 9 ∧
    (s.busRec 0).access = .connected := by
  intro j s hj hs; subst hj hs
  exact ⟨calm_of (by decide) (by decide), rfl, rfl, rfl, rfl, rfl, rfl, rfl, rfl, rfl, rfl⟩
theorem witness_JobsAreReleasedByRequestAndByDeadline_hazard : ∀ j s, j = { job .suspended with hazardHold := some 9 } →
    s = with1 j (bus .parked .none) →
    Calm s ∧ s.job? 1 = some j ∧ j.bus = some 0 ∧ j.head = none ∧ (s.busRec 0).owner = some 1 ∧ (s.busRec 0).line = some 5 ∧
    (s.busRec 0).speech = none ∧ (s.busRec 0).head = none ∧ j.state = .suspended ∧ j.hazardHold = some 9 ∧
    (s.busRec 0).access = .parked ∧ (s.busRec 0).func = .none := by
  intro j s hj hs; subst hj hs
  exact ⟨calm_of (by decide) (by decide), rfl, rfl, rfl, rfl, rfl, rfl, rfl, rfl, rfl, rfl, rfl⟩

theorem witness_JobReadAnswersTheRecord : Ready (with1 (job .accessing) (bus .guard .none)) 1#8 ∧
    (with1 (job .accessing) (bus .guard .none)).job? 1 = some (job .accessing) ∧
    (∀ k ∈ (with1 (job .accessing) (bus .guard .none)).sched.jobs, k.id = 1 → k = job .accessing) ∧
    (job .accessing).state ≠ .held ∧ (job .accessing).state ≠ .monitoring :=
  ⟨ready_of rfl rfl rfl (by decide), rfl, by decide, by decide, by decide⟩
theorem witness_JobReadAnswersTheRecord_held : Ready heldState 1#8 ∧ heldState.job? 1 = some (job .held) ∧
    (∀ k ∈ heldState.sched.jobs, k.id = 1 → k = job .held) ∧ (job .held).source = .desk 1 ∧ (job .held).state = .held :=
  ⟨ready_held, rfl, by decide, rfl, rfl⟩

/-! ## Witnesses: the Sweep Unit -/

/-- The sweep in a state, with the storm condition as given. -/
def sweeping (x : SweepState) (storm : Bool) : State :=
  { up with sweep := { up.sweep with state := x }, hazards := { up.hazards with storm := ⟨.asserted, storm, false⟩ } }

theorem witness_SweepRequestsChangeTheSweep_storm : Ready (sweeping .stopped true) 1#8 ∧ Calm (sweeping .stopped true) ∧
    (sweeping .stopped true).sweep.state = .stopped ∧ (sweeping .stopped true).hazards.storm.inEffect = true :=
  ⟨ready_of rfl rfl rfl (by decide), calm_of (by decide) (by decide), rfl, rfl⟩

/-- A stopped sweep with a sweep job still in the table. -/
def sweepJobState : State := with1 { job .held with source := .sweep } (bus .connected .hold)

theorem witness_SweepRequestsChangeTheSweep_start : Ready sweepJobState 1#8 ∧ Calm sweepJobState ∧
    sweepJobState.sweep.state = .stopped ∧ sweepJobState.hazards.storm.inEffect = false ∧
    sweepJobState.sweep.concurrency ≤ (sweepJobState.sched.jobs.filter fun k => k.source == .sweep).length :=
  ⟨ready_of rfl rfl rfl (by decide), calm_of (by decide) (by decide), rfl, rfl, by decide⟩
theorem witness_SweepRequestsChangeTheSweep_again : Ready (sweeping .running false) 1#8 ∧ Calm (sweeping .running false) ∧
    (sweeping .running false).sweep.state ≠ .stopped :=
  ⟨ready_of rfl rfl rfl (by decide), calm_of (by decide) (by decide), by decide⟩
theorem witness_SweepRequestsChangeTheSweep_set : Ready up 1#8 ∧ Calm up ∧ up.sweep.state ≠ .running ∧
    ({ up.sweep with pace := 255, concurrency := 2, mask := 1#64 } : Sweep) =
      { up.sweep with
        pace := if 255#8 = 0#8 then up.sweep.pace else (255#8).toNat
        concurrency := if 255#8 = 0#8 then up.sweep.concurrency else min 2 (255#8).toNat
        passMode := (none : Option PassMode).getD up.sweep.passMode, mask := 1#64 } :=
  ⟨ready_up, settled_up.toCalm, by decide, by decide⟩

theorem witness_PaceTimerIssuesTheCursorLine_expired : ∀ s : State, s = { up with sweep := { up.sweep with timer := .running 9 } } →
    s.sweep.timer = .running 9 ∧ s.sweep.state ≠ .running ∧ Calm s := by
  intro s h; subst h; exact ⟨rfl, by decide, calm_of (by decide) (by decide)⟩

/-- A running sweep at line 4094, equipped and in service, with no bus to start its job. -/
def sweepAt : State :=
  { (up.setDirEntry 4094 ⟨1, 0, true⟩).setRoute 63 { Route.initial with allowed := 0#6 } with
    sweep := { up.sweep with state := .running, timer := .running 9, cursor := 4094 } }

theorem witness_PaceTimerIssuesTheCursorLine_issue : sweepAt.sweep.timer = .running 9 ∧ sweepAt.sweep.state = .running ∧
    (∀ b : Bus, (sweepAt.hazardRec b).exit = none) ∧
    (∀ j ∈ sweepAt.sched.jobs, j.state ≠ .waitHead ∧ j.state ≠ .queued ∧ j.source ≠ .sweep ∧ j.line ≠ 4094) ∧
    sweepAt.pins.supplyGood = true ∧ 1 ≤ sweepAt.sweep.concurrency ∧ sweepAt.sched.jobs.length < 16 ∧ sweepAt.sweep.cursor = 4094 ∧
    4094 < 4095 ∧ sweepAt.sweep.revisit = [] ∧
    (∀ t ∈ sweepAt.tickets.table, t.verifyDue = false ∧ t.state ≠ .dispatched ∧ t.line ≠ some 4094) ∧
    sweepAt.sweep.mask.getLsbD (4094 / 64) = true ∧ (sweepAt.route (4094 / 64)).enabled = true ∧
    (sweepAt.dirEntry 4094).cls ≠ 0 ∧ (sweepAt.dirEntry 4094).inService = true ∧
    (∀ b : Bus, inSet (sweepAt.route (4094 / 64)).allowed b = true → sweepAt.allocatable b = false) := by decide

/-! ## Witnesses: heads -/

/-- Head 3 in a state. -/
def head3 (x : HeadState) : State := up.setHeadRec 3 { HeadRecord.initial with state := x }

theorem witness_HeadsAreLostAndAccepted_accept : Ready (head3 .failed) 1#8 ∧ ((head3 .failed).headRec 3).state = .failed ∧
    Calm (head3 .failed) := ⟨ready_of rfl rfl rfl (by decide), rfl, calm_of (by decide) (by decide)⟩
theorem witness_HeadsAreLostAndAccepted_inService : Ready up 1#8 ∧ (up.headRec 0).state = .idle := ⟨ready_up, rfl⟩
theorem witness_HeadsAreLostAndAccepted_absent : Ready (head3 .absent) 1#8 ∧ ((head3 .absent).headRec 3).state = .absent :=
  ⟨ready_of rfl rfl rfl (by decide), rfl⟩
theorem witness_HeadsAreLostAndAccepted_lost : up.resets.active = false ∧ Calm up ∧ (up.headRec 0).state ≠ .attached ∧
    (up.headRec 0).state ≠ .reserved := ⟨rfl, settled_up.toCalm, by decide, by decide⟩
theorem witness_HeadsAreLostAndAccepted_return : (head3 .absent).resets.active = false ∧
    ((head3 .absent).headRec 3).state = .absent ∧ ((head3 .failed).headRec 3).state ≠ .absent := by decide

/-- A SUSPENDED job on a parked bus with head 3 RESERVED for it. -/
def reservedState : State := (with1 { job .suspended with head := some ⟨3, true⟩, losses := 1 } (bus .parked .none)).setHeadRec 3
  { HeadRecord.initial with state := .reserved, bus := some 0, timeBase := some ⟨8, 7, 2, 0, 100⟩ }

theorem witness_HeadsAreLostAndAccepted_reserved : ∀ j, j = { job .suspended with head := some ⟨3, true⟩, losses := 1 } →
    Calm reservedState ∧ reservedState.resets.active = false ∧ (reservedState.headRec 3).state = .reserved ∧
    (reservedState.headRec 3).bus = some 0 ∧ (reservedState.busRec 0).owner = some j.id ∧ reservedState.job? j.id = some j ∧
    j.state = .suspended ∧ j.head = some ⟨3, true⟩ ∧ j.losses < 2 := by
  intro j h; subst h; exact ⟨calm_of (by decide) (by decide), rfl, rfl, rfl, rfl, rfl, rfl, rfl, by decide⟩
theorem witness_HeadsAreLostAndAccepted_reset : held.resets.active = true ∧ Calm held :=
  ⟨rfl, calm_of (by decide) (by decide)⟩

/-- A step of job 1 in hand in LO, with its sums and discards. -/
def inHand (k : StepKind) (discards : Nat) (acc : Accumulators) : StepInHand :=
  ⟨1, 0, k, .ab, StepEntry.initial k, .lo, false, discards, acc⟩

/-- Head 3 measuring a step of job 1, its time base in the given frame, every other head FAILED. -/
def measuring (st : StepInHand) (index : Nat) (outstanding : Bool) (missing : Nat) : State :=
  (([0, 1, 2] : List Head).foldl (fun s h => s.setHeadRec h { HeadRecord.initial with state := .failed })
    (with1 { job .measuring with head := some ⟨3, false⟩, losses := 1 } { bus .connected .measure with head := some 3 })).setHeadRec 3
    ⟨.attached, some 0, missing, outstanding, some ⟨8, 7, 2, index, 100⟩, some st, none⟩

/-- The fifteenth sample of sixteen has been taken. -/
def sums : Accumulators := ⟨15, 120, 0, 8, 8, 8, 8, none, none, false⟩

theorem witness_LostHeadReturnsItsJobToWaitHead : ∀ s : State, s = measuring (inHand .fv 0 sums) 0 true 2 →
    Calm s ∧ s.resets.active = false ∧ (s.headRec 3).state = .attached ∧ (s.headRec 3).step = some (inHand .fv 0 sums) ∧
    s.job? 1 = some { job .measuring with head := some ⟨3, false⟩, losses := 1 } ∧ (job .measuring).bus = some 0 ∧ 1 < 2 ∧
    (job .measuring).priority ≠ .urgent ∧ (s.busRec 0).head = some 3 ∧ (s.busRec 0).func = .measure ∧
    (∀ h' : Head, h' ≠ 3 → (s.headRec h').state ≠ .idle) ∧ (s.headRec 3).timeBase = some ⟨8, 7, 2, 0, 100⟩ ∧
    (s.headRec 3).outstanding = true ∧ (s.headRec 3).missing = 2 := by
  intro s h; subst h
  exact ⟨calm_of (by decide) (by decide), rfl, rfl, rfl, rfl, rfl, by decide, by decide, rfl, rfl, by decide, rfl, rfl, rfl⟩

theorem witness_BoundariesAndTriggersKeepTheFrame_boundary : ∀ s : State, s = measuring (inHand .fv 0 sums) 1 true 0 →
    Calm s ∧ (s.headRec 3).timeBase = some ⟨8, 7, 2, 1, 100⟩ ∧ (s.headRec 3).state ≠ .reserved ∧
    (s.headRec 3).state = .attached ∧ (s.headRec 3).step = some (inHand .fv 0 sums) ∧ (1 : Nat) ≠ 0 := by
  intro s h; subst h; exact ⟨calm_of (by decide) (by decide), rfl, by decide, rfl, rfl, by decide⟩
theorem witness_BoundariesAndTriggersKeepTheFrame_first : ∀ s : State, s = measuring (inHand .fv 0 sums) 0 false 0 →
    Calm s ∧ (s.headRec 3).timeBase = some ⟨8, 7, 2, 0, 100⟩ ∧ (s.headRec 3).state = .attached ∧
    (s.headRec 3).step = some (inHand .fv 0 sums) ∧ (s.headRec 3).outstanding = false := by
  intro s h; subst h; exact ⟨calm_of (by decide) (by decide), rfl, rfl, rfl, rfl⟩
theorem witness_BoundariesAndTriggersKeepTheFrame_missing : ∀ s : State, s = measuring (inHand .fv 0 sums) 0 true 1 →
    Calm s ∧ (s.headRec 3).timeBase = some ⟨8, 7, 2, 0, 100⟩ ∧ (s.headRec 3).state = .attached ∧
    (s.headRec 3).step = some (inHand .fv 0 sums) ∧ (s.headRec 3).outstanding = true ∧ (s.headRec 3).missing < 2 := by
  intro s h; subst h; exact ⟨calm_of (by decide) (by decide), rfl, rfl, rfl, rfl, by decide⟩

theorem witness_SamplePairsAreDiscardedThenAccumulated_unseen : ∀ s : State, s = measuring (inHand .fv 0 sums) 0 false 0 →
    Calm s ∧ (s.headRec 3).state = .attached ∧ (s.headRec 3).step = some (inHand .fv 0 sums) ∧
    (s.headRec 3).outstanding = false := by
  intro s h; subst h; exact ⟨calm_of (by decide) (by decide), rfl, rfl, rfl⟩
theorem witness_SamplePairsAreDiscardedThenAccumulated_discard : ∀ s : State, s = measuring (inHand .ir 0 Accumulators.empty) 0 true 2 →
    Calm s ∧ (s.headRec 3).state = .attached ∧ (s.headRec 3).step = some (inHand .ir 0 Accumulators.empty) ∧
    (s.headRec 3).outstanding = true ∧ (inHand .ir 0 Accumulators.empty).discards < (inHand .ir 0 Accumulators.empty).snapshot.discard := by
  intro s h; subst h; exact ⟨calm_of (by decide) (by decide), rfl, rfl, rfl, by decide⟩
theorem witness_SamplePairsAreDiscardedThenAccumulated_switch : ∀ s : State, s = measuring (inHand .ir 15 Accumulators.empty) 0 true 0 →
    Calm s ∧ (s.headRec 3).state = .attached ∧ (s.headRec 3).step = some (inHand .ir 15 Accumulators.empty) ∧
    (s.headRec 3).outstanding = true ∧ (inHand .ir 15 Accumulators.empty).snapshot.discard ≤ 15 ∧
    (inHand .ir 15 Accumulators.empty).range = .lo ∧ (inHand .ir 15 Accumulators.empty).switched = false ∧
    (0x7FFF#16 = 0x7FFF#16 ∨ 0x7FFF#16 = 0x8000#16) ∧ (0x8000#16 = 0x7FFF#16 ∨ 0x8000#16 = 0x8000#16) := by
  intro s h; subst h; exact ⟨calm_of (by decide) (by decide), rfl, rfl, rfl, by decide, rfl, rfl, by decide, by decide⟩

/-- One sample of sixteen taken. -/
def firstSum : Accumulators := ⟨1, 8, 0, 8, 8, 8, 8, none, none, false⟩

theorem witness_SamplePairsAreDiscardedThenAccumulated_add : ∀ s : State, s = measuring (inHand .fv 15 firstSum) 0 true 0 →
    Calm s ∧ (s.headRec 3).state = .attached ∧ (s.headRec 3).step = some (inHand .fv 15 firstSum) ∧
    (s.headRec 3).outstanding = true ∧ (inHand .fv 15 firstSum).snapshot.discard ≤ 15 ∧
    firstSum.count + 1 < (inHand .fv 15 firstSum).snapshot.samples ∧ 1 ≤ firstSum.count ∧ firstSum.vClip = none ∧
    0x7FFE#16 ≠ 0x7FFF#16 ∧ 0x7FFE#16 ≠ 0x8000#16 := by
  intro s h; subst h
  exact ⟨calm_of (by decide) (by decide), rfl, rfl, rfl, by decide, by decide, by decide, rfl, by decide, by decide⟩

theorem witness_LastPairCompletesTheStep : ∀ (s : State) (j : Job), s = measuring (inHand .fv 15 sums) 0 true 0 →
    j = { job .measuring with head := some ⟨3, false⟩, losses := 1 } →
    Calm s ∧ (s.headRec 3).state = .attached ∧ (s.headRec 3).step = some (inHand .fv 15 sums) ∧ (s.headRec 3).outstanding = true ∧
    (inHand .fv 15 sums).snapshot.discard ≤ 15 ∧ (inHand .fv 15 sums).snapshot.samples = sums.count + 1 ∧ s.job? 1 = some j ∧
    (∀ k ∈ s.sched.jobs, k.id = 1 → k = j) ∧ j.recipe[j.step + 1]? = some ⟨.ir, .ab⟩ ∧
    underDanger j.limits.fvDanger (j.results ++ [computeResult { inHand .fv 15 sums with acc := sums.add 8#16 0#16 }]) = false := by
  intro s j hs hj; subst hs hj
  exact ⟨calm_of (by decide) (by decide), rfl, rfl, rfl, by decide, rfl, rfl, by decide, rfl, by decide⟩

/-! ## Witnesses: tickets -/

/-- The OPEN ticket of line 5, whose group is disabled. -/
def complained : State := (withTickets [ticket .opened]).setRoute 0 { Route.initial with enabled := false }

theorem witness_ComplaintRepeatsOrRaisesATicket_verify : Ready complained 1#8 ∧ 5 ≤ 4095 ∧ 15 ≤ 15 ∧
    complained.lineTicket? 5 = some (ticket .opened) ∧ (ticket .opened).number = 7 ∧ (ticket .opened).state = .opened ∧
    (∀ t ∈ complained.tickets.table, t.number = 7 → t = ticket .opened) ∧ Calm complained ∧
    (complained.route (5 / 64)).enabled = false :=
  ⟨ready_of rfl rfl rfl (by decide), by decide, by decide, rfl, rfl, rfl, by decide, calm_of (by decide) (by decide), rfl⟩

/-- The OPEN ticket of line 5, equipped, with no bus allowed. -/
def complainedAuto : State :=
  ((withTickets [ticket .opened]).setRoute 0 { Route.initial with allowed := 0#6 }).setDirEntry 5 ⟨1, 0, true⟩

theorem witness_ComplaintRepeatsOrRaisesATicket_auto : Ready complainedAuto 1#8 ∧ Settled complainedAuto ∧
    complainedAuto.lineTicket? 5 = some (ticket .opened) ∧ (∀ t ∈ complainedAuto.tickets.table, t.number = 7 → t = ticket .opened) ∧
    complainedAuto.sched.jobs.length < 16 ∧ (complainedAuto.sched.jobs.filter fun k => k.source == .auto).length < 2 ∧
    (∀ k ∈ complainedAuto.sched.jobs, k.line ≠ 5) ∧ (complainedAuto.route (5 / 64)).enabled = true ∧
    (complainedAuto.dirEntry 5).cls ≠ 0 ∧
    (∀ b : Bus, inSet (complainedAuto.route (5 / 64)).allowed b = true → complainedAuto.allocatable b = false) :=
  ⟨ready_of rfl rfl rfl (by decide), settled_of (by decide) (by decide) (by decide) (by decide), rfl, by decide, by decide, by decide,
    by decide, rfl, by decide, by decide⟩

/-- The CLOSED ticket of line 5, whose group is disabled, and the counter at its top. -/
def closedTicket : State := (withTickets [ticket .closed]).setRoute 0 { Route.initial with enabled := false }

theorem witness_ComplaintRepeatsOrRaisesATicket_raise : Ready closedTicket 1#8 ∧ Calm closedTicket ∧ 5 ≤ 4095 ∧ 15 ≤ 15 ∧
    closedTicket.lineTicket? 5 = none ∧ (closedTicket.dirEntry 5).cable = 0 ∧ closedTicket.tickets.table.length < 128 ∧
    closedTicket.tickets.next = 65535 ∧ 1 ≤ 65535 ∧ 65535 ≤ 65535 ∧ (∀ t ∈ closedTicket.tickets.table, t.number < 65535) ∧
    (closedTicket.route (5 / 64)).enabled = false :=
  ⟨ready_of rfl rfl rfl (by decide), calm_of (by decide) (by decide), by decide, by decide, rfl, rfl, by decide, rfl, by decide,
    by decide, by decide, rfl⟩

theorem witness_TicketRequestsChangeTickets_line : ∀ s, s = withTickets [ticket .opened] →
    Ready s 1#8 ∧ s.ticket? 7 = some (ticket .opened) ∧ (∀ t ∈ s.tickets.table, t.number = 7 → t = ticket .opened) ∧
    (ticket .opened).state = .opened ∧ (ticket .opened).kind = .line ∧ (ticket .opened).state ≠ .closed ∧
    (ticket .opened).state ≠ .rolled ∧ (ticket .opened).line = some 5 := by
  intro s h; subst h; exact ⟨ready_of rfl rfl rfl (by decide), rfl, by decide, rfl, rfl, by decide, by decide, rfl⟩
theorem witness_TicketRequestsChangeTickets_closed : ∀ s, s = withTickets [ticket .closed] →
    Ready s 1#8 ∧ s.ticket? 7 = some (ticket .closed) ∧ (∀ t ∈ s.tickets.table, t.number = 7 → t = ticket .closed) ∧
    (ticket .closed).state ≠ .opened ∧ (ticket .closed).state = .closed := by
  intro s h; subst h; exact ⟨ready_of rfl rfl rfl (by decide), rfl, by decide, by decide, rfl⟩
theorem witness_TicketRequestsChangeTickets_rolled : ∀ x, x = { ticket .rolled with cable := 3, parent := some 65535 } →
    Ready rolledTickets 1#8 ∧ rolledTickets.ticket? 7 = some x ∧ (∀ t ∈ rolledTickets.tickets.table, t.number = 7 → t = x) ∧
    x.state = .rolled := by
  intro x h; subst h; exact ⟨ready_of rfl rfl rfl (by decide), rfl, by decide, rfl⟩
theorem witness_TicketRequestsChangeTickets_cable : Ready rolledTickets 1#8 ∧ 1 ≤ 65535 ∧ 65535 ≤ 65535 ∧
    rolledTickets.ticket? 65535 = some cableTicket ∧ (∀ t ∈ rolledTickets.tickets.table, t.number = 65535 → t = cableTicket) ∧
    cableTicket.kind = .cable ∧ cableTicket.state ≠ .rolled ∧ cableTicket.state ≠ .closed :=
  ⟨ready_of rfl rfl rfl (by decide), by decide, by decide, rfl, by decide, rfl, by decide, by decide⟩

theorem witness_EraseEmptiesTheTable : Ready rolledTickets 255#8 := ready_of rfl rfl rfl (by decide)

/-! ## Witnesses: the receiver and the transmitter -/

/-- The receiver in a state, its last character at moment 5. -/
def receiving (rx : Receiver) : State := { up with link := { up.link with rx := rx, rxEnd := 5 } }

theorem witness_CharactersBuildAFrameUntilTheTimeout_length :
    (receiving .hunt).resets.active = false ∧ (receiving .hunt).link.rx = .hunt ∧ (receiving .length).link.rx = .length ∧
    (2 ≤ (2#8).toNat ∧ (2#8).toNat ≤ 250) ∧ (2 ≤ (250#8).toNat ∧ (250#8).toNat ≤ 250) ∧ (1#8).toNat < 2 ∧ 250 < (251#8).toNat := by
  decide
theorem witness_CharactersBuildAFrameUntilTheTimeout_collect :
    (receiving (.collect 2 [0x10#8])).link.rx = .collect 2 [0x10#8] ∧ 2 ≤ 2 ∧ [0x10#8].length < 2 ∧
    (receiving (.collect 2 [0x10#8, 7#8])).link.rx = .collect 2 [0x10#8, 7#8] ∧ [0x10#8, 7#8].length = 2 ∧
    byteSum (byteOf 2 :: ([0x10#8, 7#8] ++ [0xE8#8])) ≠ 0#8 := by decide
theorem witness_CharactersBuildAFrameUntilTheTimeout_timeout :
    165 = max (receiving .hunt).now ((receiving .hunt).link.rxEnd + 160) ∧
    (receiving (.collect 250 [])).link.rx = .collect 250 [] ∧ (receiving (.collect 2 [0x10#8])).link.rx = .collect 2 [0x10#8] ∧
    (receiving (.collect 250 (List.replicate 250 1#8))).link.rx = .collect 250 (1#8 :: 1#8 :: List.replicate 248 1#8) :=
  ⟨by decide, rfl, rfl, rfl⟩

/-- The part sending a frame, with reports waiting and a lost count. -/
def sending (x : Transmitter) (q : List Report) (lost : Nat) : State :=
  { up with link := { up.link with tx := x, queue := q, lost := lost } }

/-- A report and a reply. -/
def aReport : Report := .linkError .tag 0x10#8 0#8 0
def aReply : Reply := ⟨0x10#8, 1#8, .ack (.echo []), false⟩

theorem witness_FrameSentBeginsTheNextFrame_reply :
    (sending (.reply aReply) [] 0).link.tx = .reply aReply ∧ (sending (.reply aReply) [] 0).link.requestReset = false ∧
    (sending (.reply aReply) [] 0).link.queue = [] ∧ (sending (.reply aReply) [aReport] 0).link.queue = aReport :: [] ∧
    (sending (.reply aReply) [aReport] 0).resets.starting = false ∧ (sending (.reply aReply) [aReport] 0).link.lost = 0 ∧
    0 < (sending (.reply aReply) [aReport] 255).link.lost := ⟨rfl, rfl, rfl, rfl, rfl, rfl, by decide⟩
theorem witness_FrameSentBeginsTheNextFrame_noOverflow : ∀ n, Report.overflow n ∉ ([] : List Report) := fun _ => List.not_mem_nil
theorem witness_FrameSentBeginsTheNextFrame_report : ∀ s : State,
    s = { sending (.report aReport) [] 0 with link := { (sending (.report aReport) [] 0).link with slot := some aReply } } →
    s.resets.active = false ∧ s.link.tx = .report aReport ∧ s.link.slot = some aReply ∧ aReply.begun = false ∧
    (sending (.report aReport) [] 0).link.slot = none ∧ (sending (.report aReport) [] 0).link.queue = [] := by
  intro s h; subst h; exact ⟨rfl, rfl, rfl, rfl, rfl, rfl⟩
theorem witness_FrameSentBeginsTheNextFrame_queue : ∀ s : State, s = sending (.report aReport) [aReport] 255 →
    s.resets.active = false ∧ s.link.tx = .report aReport ∧ s.link.slot = none ∧ s.link.queue = aReport :: [] ∧
    s.resets.starting = false ∧ 0 < s.link.lost ∧ (sending (.report aReport) [aReport, .overflow 1] 0).link.lost = 0 ∧
    (∃ n, Report.overflow n ∈ [Report.overflow 1]) := by
  intro s h; subst h; exact ⟨rfl, rfl, rfl, rfl, rfl, by decide, rfl, 1, List.mem_singleton.mpr rfl⟩

/-! ## Witnesses: resets and the supply -/

theorem witness_ResetPinClearsThePart : up.pins.reset = false ∧ up.resets.active = false ∧ (∀ b : Bus, (up.busRec b).line = none) :=
  ⟨rfl, rfl, by decide⟩
theorem witness_ResetPinClearsThePart_line : ∀ s : State, s = heldState.setGroupSel (5 / 64) (some 0) →
    s.pins.reset = false ∧ s.resets.active = false ∧ (s.busRec 0).line = some 5 ∧
    (∀ b' : Bus, b' ≠ 0 → (s.busRec b').line = none) ∧ (s.busRec 0).access = .connected ∧ s.groupSelOf (5 / 64) = some 0 ∧
    160 = (s.intervalOf (s.route (5 / 64)).restore).duration := by
  intro s h; subst h; exact ⟨rfl, rfl, rfl, by decide, rfl, rfl, rfl⟩

/-- The drop with these cuts open. -/
def dropping (ds : List DropEntry) : State := { held with resets := { held.resets with drop := ds } }

theorem witness_ResetDropEndsBeforeTheStartingPhase_interval :
    (dropping [⟨5, 9⟩]).resets.active = true ∧ (dropping [⟨5, 9⟩]).pins.reset = true ∧
    (dropping [⟨5, 9⟩]).resets.drop = ⟨5, 9⟩ :: [] ∧ (∀ e ∈ ([] : List DropEntry), e.line ≠ 5) ∧
    (∀ e ∈ ([] : List DropEntry), e.line / 64 ≠ 5 / 64) ∧ (dropping [⟨5, 9⟩, ⟨63, 9⟩]).resets.drop = ⟨5, 9⟩ :: [⟨63, 9⟩] ∧
    (∀ e ∈ [(⟨63, 9⟩ : DropEntry)], e.line ≠ 5) ∧ (∃ e ∈ [(⟨63, 9⟩ : DropEntry)], e.line / 64 = 5 / 64) := by decide
theorem witness_ResetDropEndsBeforeTheStartingPhase_release :
    held.resets.active = true ∧ held.resets.drop = [] ∧ held.pins.hazards = [] ∧ held.tickets.valid = true ∧
    (dropping [⟨5, 9⟩]).resets.drop ≠ [] := by decide

/-- The starting phase with tickets kept. -/
def starting : State := { rolledTickets with resets := { rolledTickets.resets with starting := true } }

theorem witness_StartingPhaseEndsWithStart : starting.resets.starting = true ∧ TicketLaw starting :=
  ⟨rfl, ⟨ticketLaw_rolled.places, ticketLaw_rolled.distinct, ticketLaw_rolled.ascending, ticketLaw_rolled.numbers, ticketLaw_rolled.next,
    ticketLaw_rolled.oneForALine, ticketLaw_rolled.oneForACable, ticketLaw_rolled.cableNeverRolled⟩⟩

theorem witness_SupplyFallEmptiesAndSupplyRiseResets_fall : heldState.pins.supplyGood = true ∧ heldState.resets.active = false ∧
    (∀ b : Bus, (heldState.hazardRec b).exit = none) ∧ heldState.sched.jobs = [job .held] ∧ (job .held).head = none := by decide
theorem witness_SupplyFallEmptiesAndSupplyRiseResets_rise : SupplyLaw low ∧ low.pins.supplyGood = false ∧
    low.resets.active = false ∧ low.pins.reset = false ∧ low.pins.hazards = [] ∧ low.tickets.valid = true :=
  ⟨fun _ => ⟨rfl, rfl⟩, rfl, rfl, rfl, rfl, rfl⟩

/-! ## Witnesses: the intervals of a bus and the loop -/

theorem witness_GuardedAccessCutsThenConnects_guard : ∀ s : State,
    s = (with1 (job .accessing) (bus .guard .none)).setWatchRec 0 { WatchRecord.initial with guard := some 9 } →
    Calm s ∧ (s.busRec 0).access = .guard ∧ (s.busRec 0).line = some 5 ∧ (s.busRec 0).owner = some 1 ∧
    s.job? 1 = some (job .accessing) ∧ (s.watchRec 0).guard = some 9 ∧ (s.watchRec 0).loop = .absent ∧ 9 = max s.now 9 ∧
    160 = (s.intervalOf (s.route (5 / 64)).connect).duration ∧ (job .accessing).state ≠ .held := by
  intro s h; subst h
  exact ⟨calm_of (by decide) (by decide), rfl, rfl, rfl, rfl, rfl, rfl, rfl, rfl, by decide⟩

/-- Bus 0 in CUTTING for job 1, its interval to run out at moment 9. -/
def cutting (parked : Bool) : BusRecord :=
  { bus .cutting .none with interval := some ⟨.connect, 160, 9⟩, parkMark := parked }

theorem witness_GuardedAccessCutsThenConnects_park : ∀ s : State, s = with1 (job .suspended) (cutting true) →
    Calm s ∧ (s.busRec 0).access = .cutting ∧ (s.busRec 0).interval = some ⟨.connect, 160, 9⟩ ∧ (s.busRec 0).parkMark = true := by
  intro s h; subst h; exact ⟨calm_of (by decide) (by decide), rfl, rfl, rfl⟩
theorem witness_GuardedAccessCutsThenConnects_connect : ∀ s : State,
    s = ([0, 1, 2, 3] : List Head).foldl (fun s h => s.setHeadRec h { HeadRecord.initial with state := .failed })
      (with1 (job .accessing) (cutting false)) →
    Calm s ∧ (s.busRec 0).access = .cutting ∧ (s.busRec 0).interval = some ⟨.connect, 160, 9⟩ ∧ (s.busRec 0).parkMark = false ∧
    (s.busRec 0).line = some 5 ∧ (s.busRec 0).owner = some 1 ∧ s.job? 1 = some (job .accessing) ∧
    (job .accessing).state = .accessing ∧ (job .accessing).step < (job .accessing).recipe.length ∧
    (job .accessing).priority ≠ .urgent ∧ (∀ k ∈ s.sched.jobs, k.takeover ≠ some 1) ∧ (∀ h : Head, (s.headRec h).state ≠ .idle) ∧
    (s.watchRec 0).settings.mode ≠ .loopPresent ∧ (s.watchRec 0).settings.mode ≠ .loopAbsent := by
  intro s h; subst h
  exact ⟨calm_of (by decide) (by decide), rfl, rfl, rfl, rfl, rfl, rfl, rfl, by decide, by decide, by decide, by decide, by decide,
    by decide⟩

theorem witness_RestoreIntervalReturnsTheLine : ∀ (s : State) (j : Job), j = { job .releasing with outcome := some .cancelled } →
    s = with1 j { bus .releasing .none with interval := some ⟨.restore, 160, 9⟩ } →
    Settled s ∧ (s.busRec 0).access = .releasing ∧ (s.busRec 0).interval = some ⟨.restore, 160, 9⟩ ∧ (s.busRec 0).line = some 5 ∧
    (s.busRec 0).owner = some 1 ∧ (s.busRec 0).reserveMark = false ∧ s.job? 1 = some j ∧ j.state = .releasing ∧
    j.outcome = some .cancelled ∧ j.head = none ∧ j.source = .desk 1 ∧
    (∀ k ∈ s.sched.jobs, k.takeover ≠ some 1 ∧ k.claim ≠ some 1) := by
  intro s j hj hs; subst hj hs
  exact ⟨settled_of (by decide) (by decide) (by decide) (by decide), rfl, rfl, rfl, rfl, rfl, rfl, rfl, rfl, rfl, rfl, by decide⟩

/-- The watch of bus 0 with a timer as given. -/
def watched (s : State) (timer : Option DebounceTimer) : State :=
  s.setWatchRec 0 { WatchRecord.initial with settings := WatchSettings.ofDesk, timer := timer }

theorem witness_LoopIsDebouncedAndActedOn_change : (up.busRec 0).access = .idle ∧
    ((watched heldState none).busRec 0).access = .connected ∧ LoopState.ofRaw false = ((watched heldState none).watchRec 0).loop ∧
    LoopState.ofRaw true ≠ ((watched heldState none).watchRec 0).loop ∧ ((watched heldState none).watchRec 0).timer = none ∧
    ((watched heldState (some ⟨16, .present, 9⟩)).watchRec 0).timer.isSome = true ∧
    16 = 2 ^ ((watched heldState none).watchRec 0).settings.n *
      (if ((watched heldState none).watchRec 0).settings.base = .four then 32 else 2) := by decide
theorem witness_LoopIsDebouncedAndActedOn_pending : ∀ s : State, s = watched heldState (some ⟨16, .present, 9⟩) →
    (s.watchRec 0).timer = some ⟨16, .present, 9⟩ ∧ (s.watchRec 0).settings.action = .report ∧ (s.busRec 0).access = .connected ∧
    Calm s ∧ (edgeCause (s.watchRec 0).settings.mode .present).or (levelCause (s.watchRec 0).settings.mode .present) = some .edgeOn ∧
    (s.watchRec 0).pending = false := by
  intro s h; subst h; exact ⟨rfl, rfl, rfl, calm_of (by decide) (by decide), rfl, rfl⟩
theorem witness_LoopIsDebouncedAndActedOn_noCause : ∀ s : State, s = watched heldState (some ⟨16, .absent, 9⟩) →
    (s.watchRec 0).timer = some ⟨16, .absent, 9⟩ ∧ (s.watchRec 0).settings.action = .report ∧ (s.busRec 0).access = .connected ∧
    Calm s ∧ (edgeCause (s.watchRec 0).settings.mode .absent).or (levelCause (s.watchRec 0).settings.mode .absent) = none := by
  intro s h; subst h; exact ⟨rfl, rfl, rfl, calm_of (by decide) (by decide), rfl⟩
theorem witness_LoopIsDebouncedAndActedOn_busy : ∀ s : State,
    s = watched (with1 (job .accessing) (bus .guard .none)) (some ⟨16, .present, 9⟩) →
    (s.watchRec 0).timer = some ⟨16, .present, 9⟩ ∧ (s.watchRec 0).settings.action = .report ∧ (s.busRec 0).access = .guard ∧
    Settled s ∧ (s.busRec 0).line = some 5 ∧ (s.busRec 0).owner = some 1 ∧ s.job? 1 = some (job .accessing) ∧
    (job .accessing).head = none ∧ (job .accessing).source = .desk 1 ∧
    (∀ k ∈ s.sched.jobs, k.takeover ≠ some 1 ∧ k.claim ≠ some 1) := by
  intro s h; subst h
  exact ⟨rfl, rfl, rfl, settled_of (by decide) (by decide) (by decide) (by decide), rfl, rfl, rfl, rfl, rfl, by decide⟩

/-- A MONITORING job on bus 0 with an edge to come, its action YIELD. -/
def yielding : State :=
  let s := watched (with1 (job .monitoring) (bus .monitor .none)) (some ⟨16, .present, 9⟩)
  s.setWatchRec 0 { s.watchRec 0 with settings := { (s.watchRec 0).settings with action := .yield } }

theorem witness_LoopIsDebouncedAndActedOn_yield : ∀ s : State, s = yielding →
    (s.watchRec 0).timer = some ⟨16, .present, 9⟩ ∧ (s.watchRec 0).settings.action = .yield ∧ (s.watchRec 0).pending = false ∧
    (edgeCause (s.watchRec 0).settings.mode .present).or (levelCause (s.watchRec 0).settings.mode .present) = some .edgeOn ∧
    Settled s ∧ (s.busRec 0).access = .monitor ∧ (s.busRec 0).line = some 5 ∧ (s.busRec 0).owner = some 1 ∧
    (s.busRec 0).speech = none ∧ s.job? 1 = some (job .monitoring) ∧ (job .monitoring).bus = some 0 ∧
    (job .monitoring).head = none ∧ (job .monitoring).source = .desk 1 ∧
    (∀ k ∈ s.sched.jobs, k.takeover ≠ some 1 ∧ k.claim ≠ some 1) := by
  intro s h; subst h
  exact ⟨rfl, rfl, rfl, rfl, settled_of (by decide) (by decide) (by decide) (by decide), rfl, rfl, rfl, rfl, rfl, rfl, rfl, rfl,
    by decide⟩

/-! ## Witnesses: hazards -/

/-- Bus 0's hazard A input as given. -/
def hazardIn (s : State) (i : InputState) (inEffect : Bool) (x : HazardState) : State := s.setHazardRec 0 ⟨⟨i, inEffect, false⟩, x, none⟩

theorem witness_HazardOnsetParksTheBus_filtering : (hazardIn up (.filtering 9) true .a).resets.active = false ∧
    Calm (hazardIn up (.filtering 9) true .a) ∧ ((hazardIn up (.filtering 9) true .a).hazardRec 0).a.input = .filtering 9 :=
  ⟨rfl, calm_of (by decide) (by decide), rfl⟩
theorem witness_HazardOnsetParksTheBus_idle : up.resets.active = false ∧ Calm up ∧ (up.hazardRec 5).a.input = .gone ∧
    (up.hazardRec 5).state = .none ∧ inSet up.hazards.settingsA.enable 5 = true ∧ inSet up.hazards.settingsA.isolate 5 = false ∧
    (up.busRec 5).access = .idle ∧ (up.busRec 5).owner = none ∧ (up.busRec 5).speech = none :=
  ⟨rfl, settled_up.toCalm, rfl, rfl, by decide, by decide, rfl, rfl, rfl⟩
theorem witness_HazardOnsetParksTheBus_park : ∀ s : State,
    s = { heldState with tickets := { heldState.tickets with table := [ticket .opened] } } →
    s.resets.active = false ∧ Calm s ∧ (s.hazardRec 0).a.input = .gone ∧ (s.hazardRec 0).state = .none ∧
    inSet s.hazards.settingsA.enable 0 = true ∧ inSet s.hazards.settingsA.isolate 0 = false ∧ (s.busRec 0).access = .connected ∧
    (s.busRec 0).line = some 5 ∧ (s.busRec 0).owner = some 1 ∧ (s.busRec 0).speech = none ∧ (s.busRec 0).head = none ∧
    s.job? 1 = some (job .held) ∧ (∀ k ∈ s.sched.jobs, k.id = 1 → k = job .held) ∧ (job .held).state = .held ∧
    (job .held).head = none ∧ (job .held).source = .desk 1 ∧ s.lineTicket? 5 = some (ticket .opened) ∧
    (ticket .opened).state = .opened ∧ (∀ t ∈ s.tickets.table, t.number = (ticket .opened).number → t = ticket .opened) := by
  intro s h; subst h
  exact ⟨rfl, calm_of (by decide) (by decide), rfl, rfl, by decide, by decide, rfl, rfl, rfl, rfl, rfl, rfl, by decide, rfl, rfl, rfl,
    rfl, rfl, by decide⟩

theorem witness_HazardReleaseEndsAFollowedCondition_filter : (hazardIn up .asserted true .a).resets.active = false ∧
    ((hazardIn up .asserted true .a).hazardRec 0).a.input = .asserted := ⟨rfl, rfl⟩
theorem witness_HazardReleaseEndsAFollowedCondition_latched : ∀ s : State, s = hazardIn up (.filtering 9) true .a →
    Settled s ∧ (s.hazardRec 0).a.input = .filtering 9 ∧ (s.hazardRec 0).a.inEffect = true ∧
    s.hazards.settingsA.mode = .latched ∧ (s.hazardRec 0).a.clearTaken = false := by
  intro s h; subst h; exact ⟨settled_of (by decide) (by decide) (by decide) (by decide), rfl, rfl, rfl, rfl⟩
theorem witness_HazardReleaseEndsAFollowedCondition_follow : ∀ s : State,
    s = hazardIn { up with hazards := { up.hazards with settingsA := { HazardSettings.initialA with mode := .follow } } }
      (.filtering 9) true .a →
    Settled s ∧ (s.hazardRec 0).a.input = .filtering 9 ∧ (s.hazardRec 0).a.inEffect = true ∧ s.hazards.settingsA.mode = .follow ∧
    inSet s.hazards.settingsA.enable 0 = true ∧ (s.hazardRec 0).state = .a ∧ inSet s.hazards.settingsB.enable 0 = false ∧
    (s.busRec 0).owner = none ∧ (∀ h : Head, (s.headRec h).state = .reserved → (s.headRec h).bus ≠ some 0) := by
  intro s h; subst h
  exact ⟨settled_of (by decide) (by decide) (by decide) (by decide), rfl, rfl, rfl, by decide, rfl, by decide, rfl, by decide⟩

/-! ## The arithmetic: the worked cases of chapter 9, and the ends of each case -/

/-- A step at its end: its kind, range, K, Σv and Σi. -/
def ended (k : StepKind) (g : MeasureRange) (n : Nat) (v i : Int) : StepInHand :=
  ⟨1, 0, k, .ab, { StepEntry.initial k with samples := n }, g, false, 0, ⟨n, v, i, 8, -8, 0, 0, none, none, false⟩⟩

theorem witness_ForeignVoltageIsRounded : (ended .fv .lo 1 (-1001) 0).kind = .fv ∧ 1 = (ended .fv .lo 1 (-1001) 0).snapshot.samples ∧
    1 ≤ 1 ∧ (ended .fv .lo 1 (-1001) 0).acc.vMin ≤ (ended .fv .lo 1 (-1001) 0).acc.vMax := by decide

/-- Section 9.2: Σv of 8, −8, −1001 and 524,272 with K = 16; the half rounds away from zero. -/
theorem test_fv_rounds : (computeResult (ended .fv .lo 16 8 0)).value1 = 3 ∧ (computeResult (ended .fv .lo 16 (-8) 0)).value1 = -3 ∧
    (computeResult (ended .fv .lo 16 (-1001) 0)).value1 = -313 ∧ (computeResult (ended .fv .lo 16 524272 0)).value1 = 163835 := by
  decide
/-- Worked case 1: 1,200 Ω in HI. -/
theorem test_lr_1200 : computeResult (ended .lr .hi 16 120000 500000) = ⟨.lr, .ab, some .hi, {}, 1200, 0⟩ := by decide
/-- Worked cases 2 and 3: 10 MΩ in LO, and 881,786 Ω between two ohms. -/
theorem test_ir_worked : computeResult (ended .ir .lo 16 320000 16000) = ⟨.ir, .ab, some .lo, {}, 10000000, 0⟩ ∧
    (computeResult (ended .ir .lo 16 12345 7000)).value1 = 881786 := by decide
/-- Worked case 2: the cap at 50,000,000, and a current below 4 counts on the average. -/
theorem test_ir_over : computeResult (ended .ir .lo 16 320000 1600) = ⟨.ir, .ab, some .lo, { overRange := true }, 50000000, 0⟩ ∧
    computeResult (ended .ir .lo 16 320000 48) = ⟨.ir, .ab, some .lo, { overRange := true }, 50000000, 0⟩ := by decide

/-- A CAP step of K = 12 with Σi = 2,400. -/
def capStep (first last : Int) (clip : Option Nat) (before : Option Int) : StepInHand :=
  ⟨1, 0, .cap, .ab, StepEntry.initial .cap, .lo, false, 0, ⟨12, 0, 2400, 0, 0, first, last, clip, before, false⟩⟩

/-- Worked cases 4 and 5: 150.2 nF, and 1.2 nF with CLIP. -/
theorem test_cap_worked : computeResult (capStep 0 293 none none) = ⟨.cap, .ab, some .lo, {}, 1502, 0⟩ ∧
    computeResult (capStep 5000 32767 (some 9) (some 32200)) = ⟨.cap, .ab, some .lo, { clip := true }, 12, 0⟩ := by decide
/-- Worked cases 4 and 5: 3,004 m and 24 m at 50 nF a kilometre. -/
theorem test_distance_worked : openDistance 1502 50 = 3004 ∧ openDistance 12 50 = 24 := by decide

theorem witness_ResistanceByCases : ((ended .ir .lo 1 0 0).acc.sumV = 0 ∧ (ended .ir .lo 1 0 0).acc.sumI = 0) ∧
    (-1 : Int) * 64 < 0 ∧ ((0 : Int) = 0 ∧ (1 : Int) ≠ 0) ∧ ((5 : Int) ≠ 0 ∧ 0 ≤ (5 : Int) * 3 ∧ (3 : Int).natAbs < 4 * 1) ∧
    (0 < (5 : Int) * 4 ∧ 4 * 1 ≤ (4 : Int).natAbs) ∧ 500000 = (if (ended .ir .lo 1 5 4).range = .lo then 500000 else 5000) ∧
    1 = (ended .ir .lo 1 5 4).snapshot.samples ∧ ((ended .ir .lo 1 5 4).range = .lo ∨ (ended .ir .lo 1 5 4).acc.iClip = false) := by
  decide
theorem witness_ResistanceByCases_under : ∀ st : StepInHand,
    st = { ended .lr .hi 1 5 4 with acc := { (ended .lr .hi 1 5 4).acc with iClip := true, vClip := some 0 } } →
    st.kind = .lr ∧ 1 = st.snapshot.samples ∧ true = st.acc.vClip.isSome ∧ 5000 = (if st.range = .lo then 500000 else 5000) ∧
    0 < st.acc.sumV * st.acc.sumI ∧ 4 * 1 ≤ st.acc.sumI.natAbs ∧ st.range = .hi ∧ st.acc.iClip = true := by
  intro st h; subst h; decide

theorem witness_CapacitanceByCases : (capStep 0 5 none none).kind = .cap ∧ 12 = (capStep 0 5 none none).snapshot.samples ∧
    10000 = (capStep 0 5 none none).snapshot.post * (capStep 0 5 none none).snapshot.period * 125 ∧
    ((capStep 0 5 none none).acc.vClip = none ∧ (5 : Int) = (capStep 0 5 none none).acc.vLast - (capStep 0 5 none none).acc.vFirst) ∧
    (4 : Int) < 5 ∧ (4 : Int) = (capStep 0 4 none none).acc.vLast - (capStep 0 4 none none).acc.vFirst ∧
    1 ≤ 50 := by decide
theorem witness_CapacitanceByCases_clip : (capStep 0 0 (some 1) (some 9)).acc.vClip = some 1 ∧
    (capStep 0 0 (some 1) (some 9)).acc.vBefore = some 9 ∧ (9 : Int) = 9 - (capStep 0 0 (some 1) (some 9)).acc.vFirst ∧ 1 < 2 ∧
    (capStep 0 0 (some 2) (some 9)).acc.vClip = some 2 ∧ 2 ≤ 2 := by decide

theorem witness_CapacitanceByCases_clippedAtOnce : (capStep 0 0 (some 0) none).kind = .cap ∧
    12 = (capStep 0 0 (some 0) none).snapshot.samples ∧ (capStep 0 0 (some 0) none).acc.vClip = some 0 ∧ 0 < 2 := by decide

theorem witness_VerdictIsTheFirstRowThatHolds :
    ({ Findings.none with ae := .earth, be := .marg } : Findings).voltage = false ∧
    ({ Findings.none with ae := .earth, be := .marg } : Findings).ab ≠ .short ∧
    ({ Findings.none with ae := .earth, be := .marg } : Findings).ae = .earth ∧
    ({ Findings.none with ae := .earth, be := .marg } : Findings).be ≠ .earth := by decide

theorem witness_RecipeEndWritesTheLineRecord :
    verdictOf { Findings.none with ab := .marg } = .marginal ∧ verdictOf Findings.none ≠ .marginal ∧
    findingsOf Profile.initial (up.standingFindings 5) (job .held).results = Findings.none := by decide

/-- The state and job of `witness_LastPairCompletesTheStep` with the FV step as the recipe's last. -/
theorem witness_RecipeEndWritesTheLineRecord_last : ∀ (s : State) (j : Job),
    j = { job .measuring with head := some ⟨3, false⟩, step := 1, recipe := [⟨.ir, .ab⟩, ⟨.fv, .ab⟩] } →
    s = (measuring (inHand .fv 15 sums) 0 true 0).setJobs [j] →
    Calm s ∧ (s.headRec 3).state = .attached ∧ (s.headRec 3).step = some (inHand .fv 15 sums) ∧ (s.headRec 3).outstanding = true ∧
    (inHand .fv 15 sums).snapshot.discard ≤ 15 ∧ (inHand .fv 15 sums).snapshot.samples = sums.count + 1 ∧ s.job? 1 = some j ∧
    (∀ k ∈ s.sched.jobs, k.id = 1 → k = j) ∧ j.state = .measuring ∧ j.head = some ⟨3, false⟩ ∧ j.recipe.length = j.step + 1 ∧
    j.bus = some 0 ∧ (s.busRec 0).access = .connected ∧ (s.busRec 0).owner = some 1 ∧ (s.busRec 0).line = some 5 ∧
    (s.busRec 0).head = some 3 ∧ (s.busRec 0).func = .measure ∧ (s.busRec 0).speech = none := by
  intro s j hj hs; subst hj hs
  exact ⟨calm_of (by decide) (by decide), rfl, rfl, rfl, by decide, rfl, rfl, by decide, rfl, rfl, rfl, rfl, rfl, rfl, rfl, rfl, rfl,
    rfl⟩

/-! ## Worked sequences and examples of the spec, one step each -/

/-- The outcome's next state, where there is one. -/
def nextOf (o : Host.Outcome State Fault Refusal) : Option State :=
  match o with
  | .next t => some t
  | .fault _ => none
  | .refused _ => none

/-- Section 1.5: the ACK sent for ECHO with tag 7 is 0xA5 0x02 0x90 0x07 0x67. -/
theorem test_echo_ack : (nextOf (exec (.characterReceived 0xE7#8 true) collecting)).bind State.txd =
    some [0xA5#8, 2#8, 0x90#8, 7#8, 0x67#8] := by decide
/-- Section 1.5: STATUS with tag 8 during that ACK leaves a LINK-ERROR OVERRUN of kind 0x11, tag 8, in the queue. -/
theorem test_status_overrun :
    (nextOf (exec (.status 8#8 []) { up with link := { up.link with
      slot := some ⟨0x10#8, 7#8, .ack (.echo []), true⟩, tx := .reply ⟨0x10#8, 7#8, .ack (.echo []), true⟩ } })).map
      (fun t => t.link.queue) = some [.linkError .overrun 0x11#8 8#8 0] := by decide
/-- Section 1.5: the last character of the ACK empties the slot and starts the LINK-ERROR, and ATTN falls. -/
theorem test_ack_sent : (nextOf (exec .frameSent (sending (.reply aReply) [aReport] 0))).map
    (fun t => (t.link.tx, t.link.slot, t.attn)) = some (.report aReport, none, false) := by decide
/-- Section 1.5, overflow: q1 leaves a queue with two reports lost, and OVERFLOW(2) joins. -/
theorem test_overflow_joins : (nextOf (exec .frameSent (sending (.report aReport) [aReport, .start .pin false 0 false 0#2] 2))).map
    (fun t => (t.link.queue, t.link.lost)) = some ([.start .pin false 0 false 0#2, .overflow 2], 0) := by decide
/-- Section 1.5, overflow: q2 leaves while an OVERFLOW waits, and the count is kept. -/
theorem test_overflow_waits : (nextOf (exec .frameSent (sending (.report aReport) [aReport, .overflow 2] 1))).map
    (fun t => (t.link.queue, t.link.lost)) = some ([.overflow 2], 1) := by decide
/-- TIME-SET of 0x00000E10, its frame A5 06 12 09 10 0E 00 00 C1, is answered A5 06 92 09 10 0E 00 00 41. -/
theorem test_time_set : (nextOf (exec (.timeSet 9#8 [0x10#8, 0x0E#8, 0#8, 0#8]) up)).map (fun t => (t.txd, t.link.time)) =
    some (some [0xA5#8, 6#8, 0x92#8, 9#8, 0x10#8, 0x0E#8, 0#8, 0#8, 0x41#8], 3600#32) := by decide
/-- R14: the counter passes from its top value to 0. -/
theorem test_time_wraps : (nextOf (exec .timeAdvance { up with link := { up.link with time := 0xFFFFFFFF#32 } })).map
    (fun t => t.link.time) = some 0#32 := by decide
/-- R18, R19: after a power reset the queue holds START's place, and the end of the starting phase sends START. -/
theorem test_starting_phase_end : (nextOf (exec .startingPhaseEnd State.reset)).map (fun t => t.link.tx) =
    some (.report (.start .power false 0 false 0#2)) := by decide
/-- Section 2.2, first request: 50; 500; 60,000,000 are stored as 100; 1,000; 50,000,000. -/
theorem test_profile_clamped : (nextOf (exec (.profileSet 1#8 (3#8 :: (long 60000 ++ long 10000 ++ long 5000 ++ long 50 ++ long 500
    ++ long 60000000 ++ word 300 ++ [50#8, 10#8, 3#8]))) up)).map (fun t => (t.profile 3).shOhm :: (t.profile 3).irFail ::
    (t.profile 3).irMarg :: []) = some [100, 1000, 50000000] := by decide
/-- Section 2.2, third request: 200,000 is clamped to 100,000, which equals ir_fail: PROFILE-ORDER. -/
theorem test_profile_order : (nextOf (exec (.profileSet 1#8 (3#8 :: (long 60000 ++ long 10000 ++ long 5000 ++ long 200000
    ++ long 100000 ++ long 800000 ++ word 300 ++ [50#8, 10#8, 3#8]))) up)).bind (fun t => t.link.slot) =
    some ⟨0x1A#8, 1#8, .reject .profileOrder, true⟩ := by decide
/-- R105: a forced CUT names the loop's state, and its JOB-STATE follows the ACK. -/
theorem test_forced_cut : (nextOf (exec (.cut 1#8 [1#8, 1#8]) monitorState)).map
    (fun t => ((t.busRec 0).access, (t.relaysOf 5).cutOpen, t.link.queue.length)) = some (.cutting, true, 1) := by decide
/-- R6: a request for a job that does not exist is refused with NO-JOB. -/
theorem test_no_job : (nextOf (exec (.release 1#8 [2#8]) heldState)).bind (fun t => t.link.slot) =
    some ⟨0x2D#8, 1#8, .reject .noJob, true⟩ := by decide
/-- R51: RELEASE of a HELD job opens its test path and takes the restore interval, 20 units of one millisecond. -/
theorem test_release : (nextOf (exec (.release 1#8 [1#8]) connectedState)).map
    (fun t => ((t.relaysOf 5).testPath, (t.busRec 0).interval)) = some (false, some ⟨.restore, 160, 160⟩) := by decide
/-- R117: the supply falls and the job leaves the table, reported with SUPPLY. -/
theorem test_supply_fall : (nextOf (exec .supplyGoodFall heldState)).map (fun t => (t.sched.jobs.length, t.link.supplyFall)) =
    some (0, true) := by decide
/-- R83: an onset of hazard A parks the connected bus and opens its test path. -/
theorem test_hazard_parks : (nextOf (exec (.hazardInputActive (.a 0)) connectedState)).map
    (fun t => ((t.busRec 0).access, (t.relaysOf 5).testPath)) = some (.parked, false) := by decide
/-- R144: the sixteenth pair completes the FV step: (120 + 8) × 5 / 16 mV, and the IR step follows at its 100 V. -/
theorem test_step_completes : (nextOf (exec (.samplePair 3 8#16 0#16) (measuring (inHand .fv 15 sums) 0 true 0))).map
    (fun t => (t.port, ((t.job? 1).map fun j => j.results.map fun x => x.value1))) =
    some ([.configure 3 ⟨.ab, .voltage 100, .lo⟩], some [40]) := by decide
/-- R181: TICKET-CLOSE of the parent returns the child to OPEN, verify-due. -/
theorem test_cable_close : (nextOf (exec (.ticketClose 1#8 (word 65535)) rolledTickets)).map
    (fun t => t.tickets.table.map fun x => (x.state, x.verifyDue)) = some [(.opened, true), (.closed, false)] := by decide
/-- R4: LINK-ERROR carries the code 3 of OVERRUN, the kind, the tag and no count. -/
theorem test_link_error_bytes : (Report.linkError .overrun 0x11#8 8#8 0).bytes = [3#8, 0x11#8, 8#8, 0#8] := by decide
/-- R119: G00 in the lowest place of the first of eight bytes, G63 in the highest of the eighth. -/
theorem test_group_mask_bytes : groupMaskBytes 0x8000000000000001#64 = [1#8, 0#8, 0#8, 0#8, 0#8, 0#8, 0#8, 0x80#8] := by decide
/-- R140: STEP-READ of a CAP entry in the ten bytes of STEP-SET. -/
theorem test_step_read_bytes : (AckBody.stepEntry .cap ⟨300, 299, 1, 2, 16, some 3, .lo⟩).bytes =
    [3#8, 0x2C#8, 1#8, 0x2B#8, 1#8, 1#8, 2#8, 16#8, 3#8, 0#8] := by decide
/-- R77: HAZARD-SET that replaces the enable set of B0 by that of B1, hazard A in effect on both: the exit of B0 comes before the
entry of B1. -/
theorem test_hazard_set_bus_by_bus : (nextOf (exec (.hazardSet 1#8 [0#8, 0xFF#8, SetForm.replace.code, 2#8, 0xFF#8, 0#8])
    (({ up with hazards := { up.hazards with settingsA := ⟨.follow, 1#6, 0#6⟩ } }.setHazardRec 0 ⟨⟨.asserted, true, false⟩, .a, none⟩).setHazardRec
      1 ⟨⟨.asserted, true, false⟩, .none, none⟩))).map (fun t => t.link.queue.map fun r => match r with
        | .hazard h => some (h.event, h.buses)
        | _ => none) = some [some (.exit, 1#6), some (.enter, 2#6)] := by decide
/-- R69, R53, R61: a rise under YIELD in MONITOR returns the bus to IDLE, and its WATCH-EVENT shows ABSENT after the event. -/
theorem test_yield_in_monitor_shows_absent : (nextOf (exec (.debounceTimerExpiry 0) { yielding with link :=
      { yielding.link with tx := .reply ⟨0x10#8, 1#8, .ack (.echo []), true⟩ } })).map (fun t =>
        t.link.queue.map fun r => match r with
          | .watch e => some (e.cause, e.loop)
          | _ => none) = some [some (.edgeOn, .absent), none] := by decide
/-- R108: the job cancelled while QUEUED is REMOVED in its ACK, though the sweep job issued at its removal receives its id 1. -/
theorem test_cancel_says_removed : (nextOf (exec (.jobCancel 1#8 [1#8]) { up with
      sched := { up.sched with lastId := 255, nextQueue := 2, jobs := [{ job .queued with line := 4000, bus := none }] }
      store := { up.store with directory := [(0, ⟨1, 0, true⟩)] }
      sweep := { up.sweep with state := .running, timer := .expired, mask := 1#64 } })).map (fun t =>
        (t.sched.jobs.map fun j => (j.id, j.source), t.link.slot.map (·.content))) =
    some ([(1, .sweep)], some (.ack (.job 1 none))) := by decide
/-- The step takes the front command and leaves the rest. -/
theorem test_step : (match step { up with pending := [.sweepStop 1#8 [], .timeAdvance] } with
    | .next t => t.pending
    | .fault _ => []
    | .refused _ => []) = [.timeAdvance] := by decide

end Sys2Proof.Tests
end

section
/-! PROOF. ECHO (R15), by way of what the link answers to a request that meets no refusal of R4 and R5. -/

namespace Sys2Proof.Machine

/-! ## The tests of supply and starting phase (R6 items 3 and 4) -/

section Refusals
variable {lengthOk : Bool} {owner : Ctx → Served} {code tag : Byte} {c : Ctx}

theorem serve_supply (hl : lengthOk = true) (hlow : c.s.pins.supplyGood = false) :
    serve lengthOk owner code tag c = (c.upd fun s => s.reply code tag (.reject .supply)).finish := by
  simp [serve, hl, hlow]

theorem serve_starting (hl : lengthOk = true) (hgood : c.s.pins.supplyGood = true) (hstart : c.s.resets.starting = true) :
    serve lengthOk owner code tag c = (c.upd fun s => s.reply code tag (.reject .starting)).finish := by
  simp [serve, hl, hgood, hstart]

end Refusals

/-! ## A frame that passes the tests of R4 and R5 -/

section Passed
variable {s : State} {tag : Byte}

/-- Such a frame comes to the tests of R6 with the receiver in HUNT. -/
theorem requestFrame_eq_serve (hrun : s.resets.active = false) (hslot : s.link.slot = none) (htag : tag ≠ 0#8) (code : Byte)
    (lengthOk : List Byte → Bool) (owner : List Byte → Ctx → Served) (body : List Byte) :
    requestFrame code lengthOk owner tag body s =
      serve (lengthOk body) (owner body) code tag ((Ctx.of s).upd State.hunt) := by
  simp [requestFrame, frameCompleted, hrun, hslot, htag]

/-- An event that only places a reply leaves the state that `answers` describes. -/
theorem Ctx.finish_reply_eq_answers (hrun : s.resets.active = false) (code tag : Byte) (x : ReplyContent) :
    (((Ctx.of s).upd State.hunt).upd fun t => t.reply code tag x).finish = s.answers code tag x := by
  rw [Ctx.finish_silent rfl]
  exact State.pump_reply (s := ((Ctx.of s).upd State.hunt).s) hrun

theorem requestFrame_supply (hrun : s.resets.active = false) (hslot : s.link.slot = none) (htag : tag ≠ 0#8)
    (hlow : s.pins.supplyGood = false) (code : Byte) {lengthOk : List Byte → Bool} (owner : List Byte → Ctx → Served)
    {body : List Byte} (hl : lengthOk body = true) :
    requestFrame code lengthOk owner tag body s = s.answers code tag (.reject .supply) := by
  rw [requestFrame_eq_serve hrun hslot htag, serve_supply hl hlow, Ctx.finish_reply_eq_answers hrun]

theorem requestFrame_starting (hrun : s.resets.active = false) (hslot : s.link.slot = none) (htag : tag ≠ 0#8)
    (hgood : s.pins.supplyGood = true) (hstart : s.resets.starting = true) (code : Byte) {lengthOk : List Byte → Bool}
    (owner : List Byte → Ctx → Served) {body : List Byte} (hl : lengthOk body = true) :
    requestFrame code lengthOk owner tag body s = s.answers code tag (.reject .starting) := by
  rw [requestFrame_eq_serve hrun hslot htag, serve_starting hl hgood hstart, Ctx.finish_reply_eq_answers hrun]

end Passed

/-! ## ECHO (R15) -/

theorem exec_echo (tag : Byte) (body : List Byte) (s : State) :
    exec (.echo tag body) s = .next (requestFrame 0x10#8 lengthEcho ownerEcho tag body s) := rfl

theorem lengthEcho_iff {body : List Byte} : lengthEcho body = true ↔ body.length ≤ 248 := by
  simp [lengthEcho]

/-- The owner of ECHO leaves the event's context as it was, so that placing the ACK is all the event does. -/
theorem requestFrame_echo {s : State} {tag : Byte} {body : List Byte} (hready : Ready s tag)
    (hl : lengthEcho body = true) :
    requestFrame 0x10#8 lengthEcho ownerEcho tag body s = s.acks 0x10#8 tag (.echo body) := by
  rw [requestFrame_ready hready _ hl]
  exact Ctx.finish_reply_eq_answers hready.running _ _ _

/-- Settles O16: a served ECHO is acknowledged with its body; a low supply and the starting phase refuse it before its owner
is asked. -/
theorem echoAnswersItsBody : Obligations.EchoAnswersItsBody := by
  intro s tag body
  rw [exec_echo]
  refine ⟨fun hready hlen => ?ready, fun hrun hslot htag hlen => ⟨fun hlow => ?supply, fun hgood hstart => ?starting⟩⟩
  case ready => rw [requestFrame_echo hready (lengthEcho_iff.2 hlen)]
  case supply => rw [requestFrame_supply hrun hslot htag hlow _ _ (lengthEcho_iff.2 hlen)]
  case starting => rw [requestFrame_starting hrun hslot htag hgood hstart _ _ (lengthEcho_iff.2 hlen)]

end Sys2Proof.Machine
end

section
/-! PROOF. The verdict of five findings (R167): a lemma per row of the table, then the table. -/

namespace Sys2Proof.Machine

/-! ## The rows of R167's table, by rank, each under the failure of the rows above it -/

section VerdictRows
variable {f : Findings}

theorem verdictOf_cross (cross : f.voltage = true) : verdictOf f = .cross := by
  simp [verdictOf, cross]

theorem verdictOf_short (noCross : f.voltage = false) (short : f.ab = .short) : verdictOf f = .short := by
  simp [verdictOf, noCross, short]

theorem verdictOf_earthBoth (noCross : f.voltage = false) (noShort : f.ab ≠ .short) (earthA : f.ae = .earth)
    (earthB : f.be = .earth) : verdictOf f = .earthBoth := by
  simp [verdictOf, noCross, noShort, earthA, earthB]

theorem verdictOf_earthA (noCross : f.voltage = false) (noShort : f.ab ≠ .short) (earthA : f.ae = .earth)
    (noEarthB : f.be ≠ .earth) : verdictOf f = .earthA := by
  simp [verdictOf, noCross, noShort, earthA, noEarthB]

theorem verdictOf_earthB (noCross : f.voltage = false) (noShort : f.ab ≠ .short) (noEarthA : f.ae ≠ .earth)
    (earthB : f.be = .earth) : verdictOf f = .earthB := by
  simp [verdictOf, noCross, noShort, noEarthA, earthB]

/-- Where ranks 1 to 4 fail, the table is its four lower rows. -/
theorem verdictOf_of_noEarth (noCross : f.voltage = false) (noShort : f.ab ≠ .short) (noEarthA : f.ae ≠ .earth)
    (noEarthB : f.be ≠ .earth) :
    verdictOf f =
      if f.ab = .low then .lowIr
      else if f.cap then .openPair
      else if f.ab = .marg ∨ f.ae = .marg ∨ f.be = .marg then .marginal
      else .ok := by
  simp [verdictOf, noCross, noShort, noEarthA, noEarthB]

end VerdictRows

/-! ## The table -/

/-- Settles O58: the rows of ranks 1 to 4 one by one, and under the failure of all of them the four lower rows. -/
theorem verdictIsTheFirstRowThatHolds : Obligations.VerdictIsTheFirstRowThatHolds := by
  intro f
  refine ⟨verdictOf_cross, verdictOf_short, fun noCross noShort => ⟨verdictOf_earthBoth noCross noShort,
    verdictOf_earthA noCross noShort, verdictOf_earthB noCross noShort, fun noEarthA noEarthB => ?lowerRows⟩⟩
  rw [verdictOf_of_noEarth noCross noShort noEarthA noEarthB]
  refine ⟨fun low => ?lowIr, fun noLow isOpen => ?openPair, fun noLow noOpen marg => ?marginal,
    fun noLow noOpen noMargAb noMargA noMargB => ?ok⟩
  case lowIr => rw [if_pos low]
  case openPair => rw [if_neg noLow, if_pos isOpen]
  case marginal => simp [noLow, noOpen, marg]
  case ok => simp [noLow, noOpen, noMargAb, noMargA, noMargB]

end Sys2Proof.Machine
end

section
/-! PROOF. TICKET-ERASE (R183), by way of what a pass over the listed lines that clears their open ticket fields leaves. -/

namespace Sys2Proof

/-- A key that no entry lists reads as the value of an unlisted key. -/
theorem Table.get_of_unlisted {α : Type} (d : α) {t : Table α} {k : Nat} (h : k ∉ t.map Prod.fst) : Table.get d t k = d := by
  induction t with
  | nil => rfl
  | cons p t ih =>
    obtain ⟨hne, hrest⟩ := not_or.1 (List.mem_cons.not.1 h)
    rw [Table.get, if_neg (Ne.symm hne), ih hrest]

namespace Machine

/-! ## The open ticket fields (R161) -/

theorem State.setOpenTicket_lineStatus (s : State) (line l : Nat) (n : Option Nat) :
    (s.setOpenTicket line n).lineStatus l = if l = line then { s.lineStatus line with ticket := n } else s.lineStatus l :=
  State.setLineStatus_lineStatus s l line _

/-- A pass over some lines clears their open ticket fields, also where a line comes twice, and touches the line table alone. -/
theorem State.clearOpenTickets_spec (ps : List (Nat × LineStatus)) (s : State) :
    ∃ ls, ps.foldl (fun s p => s.setOpenTicket p.1 none) s = { s with lines := ls } ∧
      ∀ l, Table.get LineStatus.initial ls l =
        if l ∈ ps.map Prod.fst then { s.lineStatus l with ticket := none } else s.lineStatus l := by
  induction ps generalizing s with
  | nil => exact ⟨s.lines, rfl, fun l => rfl⟩
  | cons p ps ih =>
    obtain ⟨ls, hpass, hread⟩ := ih (s.setOpenTicket p.1 none)
    refine ⟨ls, hpass, fun l => ?_⟩
    rw [hread l, State.setOpenTicket_lineStatus]
    by_cases hl : l = p.1
    · subst hl; simp
    · have hlisted : l ∈ (p :: ps).map Prod.fst ↔ l ∈ ps.map Prod.fst := by simp [hl]
      simp only [if_neg hl, hlisted]

/-- Every line's open ticket field is cleared, a line without a record having none, and only the line table is touched. -/
theorem State.forgetTickets_spec (s : State) :
    ∃ ls, s.forgetTickets = { s with lines := ls } ∧
      ∀ l, Table.get LineStatus.initial ls l = { s.lineStatus l with ticket := none } := by
  obtain ⟨ls, hpass, hread⟩ := State.clearOpenTickets_spec s.lines s
  refine ⟨ls, hpass, fun l => ?_⟩
  rw [hread l]
  by_cases hl : l ∈ s.lines.map Prod.fst
  · rw [if_pos hl]
  · have hinitial : s.lineStatus l = LineStatus.initial := Table.get_of_unlisted _ hl
    rw [if_neg hl, hinitial]
    rfl

/-! ## TICKET-ERASE (R183) -/

theorem exec_ticketErase (tag : Byte) (body : List Byte) (s : State) :
    exec (.ticketErase tag body) s = .next (requestFrame 0x4A#8 (lengthIs 0) ownerTicketErase tag body s) := rfl

/-- A served TICKET-ERASE acknowledges the number of tickets, with the erased ticket table and the cleared line table in place. -/
theorem requestFrame_ticketErase {s : State} {tag : Byte} (hready : Ready s tag) :
    ∃ ls, requestFrame 0x4A#8 (lengthIs 0) ownerTicketErase tag [] s =
        ({ s with lines := ls, tickets := { s.tickets with table := [], next := 1 } } : State).acks 0x4A#8 tag
          (.erased s.tickets.table.length) ∧
      ∀ l, Table.get LineStatus.initial ls l = { s.lineStatus l with ticket := none } := by
  obtain ⟨ls, hforget, hread⟩ := State.forgetTickets_spec ((Ctx.of s).upd State.hunt).s
  refine ⟨ls, ?_, hread⟩
  have howner : ownerTicketErase [] ((Ctx.of s).upd State.hunt) =
      .done ⟨{ ((Ctx.of s).upd State.hunt).s with lines := ls, tickets := { s.tickets with table := [], next := 1 } },
        [], false, false⟩ fun _ => .erased s.tickets.table.length := by
    unfold ownerTicketErase
    simp only [Ctx.upd] at hforget ⊢
    rw [hforget]
    rfl
  rw [requestFrame_silent hready _ rfl howner hready.running]
  rfl

/-- Settles O43: what TICKET-ERASE leaves is an ACK on the state with the ticket table and the open ticket fields emptied, so
each clause is read off that state. -/
theorem eraseEmptiesTheTable : Obligations.EraseEmptiesTheTable := by
  intro s tag hready
  obtain ⟨ls, hframe, hread⟩ := requestFrame_ticketErase hready
  rw [exec_ticketErase, hframe]
  exact ⟨_, rfl, rfl, hread, rfl, rfl, rfl⟩

end Machine
end Sys2Proof
end

section
/-! SUPPORT. The operations of the Access Controller, said once: the bus record, the relays and the watch settings each leaves, and
that it touches nothing else. -/

namespace Sys2Proof.Machine

/-! ## What an operation on a bus leaves alone -/

/-- The state with the bus table, the drive port and the watch records set to one value. -/
def State.offBus (s : State) : State := { s with access := Access.initial, watches := { s.watches with records := [] } }

theorem State.sched_of_offBus {s t : State} (h : t.offBus = s.offBus) : t.sched = s.sched :=
  (congrArg State.sched h : t.offBus.sched = s.offBus.sched)
theorem State.sweep_of_offBus {s t : State} (h : t.offBus = s.offBus) : t.sweep = s.sweep :=
  (congrArg State.sweep h : t.offBus.sweep = s.offBus.sweep)
theorem State.engine_of_offBus {s t : State} (h : t.offBus = s.offBus) : t.engine = s.engine :=
  (congrArg State.engine h : t.offBus.engine = s.offBus.engine)
theorem State.tickets_of_offBus {s t : State} (h : t.offBus = s.offBus) : t.tickets = s.tickets :=
  (congrArg State.tickets h : t.offBus.tickets = s.offBus.tickets)
theorem State.hazards_of_offBus {s t : State} (h : t.offBus = s.offBus) : t.hazards = s.hazards :=
  (congrArg State.hazards h : t.offBus.hazards = s.offBus.hazards)
theorem State.link_of_offBus {s t : State} (h : t.offBus = s.offBus) : t.link = s.link :=
  (congrArg State.link h : t.offBus.link = s.offBus.link)
theorem State.lines_of_offBus {s t : State} (h : t.offBus = s.offBus) : t.lines = s.lines :=
  (congrArg State.lines h : t.offBus.lines = s.offBus.lines)

section
variable (s : State) (b b' : Bus)

theorem State.setBusRec_offBus (r : BusRecord) : (s.setBusRec b r).offBus = s.offBus := rfl
theorem State.setWatchRec_offBus (r : WatchRecord) : (s.setWatchRec b r).offBus = s.offBus := rfl
theorem State.putBus_offBus (r : BusRecord) : (s.putBus b r).offBus = s.offBus := rfl
theorem State.moveRelays_offBus (l : Option Nat) (f : LineRelays → LineRelays) : (s.moveRelays l f).offBus = s.offBus := by
  cases l <;> rfl
theorem State.freeGroup_offBus (l : Option Nat) : (s.freeGroup l).offBus = s.offBus := by
  cases l <;> rfl
theorem State.detachSpeech_offBus : (s.detachSpeech b).offBus = s.offBus := by
  unfold State.detachSpeech; dsimp only; split <;> rfl
theorem State.detachHead_offBus : (s.detachHead b).offBus = s.offBus := by
  unfold State.detachHead; dsimp only; split <;> rfl
theorem State.toIdle_offBus : (s.toIdle b).offBus = s.offBus := by
  unfold State.toIdle; dsimp only; rw [putBus_offBus, freeGroup_offBus]
theorem State.startGuard_offBus : (s.startGuard b).offBus = s.offBus := rfl
theorem State.take_offBus (f : AccessMode) (n l : Nat) (w : WatchSettings) : (s.take f b n l w).offBus = s.offBus := by
  unfold State.take
  cases f <;> simp only [startGuard_offBus, putBus_offBus, moveRelays_offBus] <;> rfl
theorem State.cutFromMonitor_offBus (f : Bool) : (s.cutFromMonitor f b).offBus = s.offBus := by
  cases f
  · exact s.detachSpeech_offBus b
  · exact ((putBus_offBus _ _ _).trans (moveRelays_offBus _ _ _)).trans (s.detachSpeech_offBus b)
theorem State.guardIdleLine_offBus : (s.guardIdleLine b).offBus = s.offBus := by
  unfold State.guardIdleLine; dsimp only; rw [putBus_offBus, moveRelays_offBus]
theorem State.guardBusy_offBus : (s.guardBusy b).offBus = s.offBus := by
  unfold State.guardBusy; dsimp only; rw [toIdle_offBus, setBusRec_offBus, moveRelays_offBus]
theorem State.connectEnds_offBus : (s.connectEnds b).offBus = s.offBus := by
  unfold State.connectEnds; dsimp only
  split
  · rfl
  · rw [putBus_offBus, moveRelays_offBus]
theorem State.restoreEnds_offBus : (s.restoreEnds b).offBus = s.offBus := by
  unfold State.restoreEnds; rw [toIdle_offBus, moveRelays_offBus]
theorem State.attachHead_offBus (h : Head) : (s.attachHead b h).offBus = s.offBus := rfl
theorem State.attachSpeech_offBus (p : Speech) : (s.attachSpeech b p).offBus = s.offBus := rfl
theorem State.transfer_offBus (n : Nat) : (s.transfer b n).offBus = s.offBus := rfl
theorem State.releaseBus_offBus (r : Bool) : (s.releaseBus r b).offBus = s.offBus := by
  unfold State.releaseBus; dsimp only
  cases (s.busRec b).access <;> cases r <;>
    simp [putBus_offBus, setBusRec_offBus, moveRelays_offBus, toIdle_offBus, detachSpeech_offBus, detachHead_offBus]
theorem State.park_offBus : (s.park b).offBus = s.offBus := by
  unfold State.park; dsimp only
  cases (s.busRec b).access <;>
    simp [putBus_offBus, setBusRec_offBus, moveRelays_offBus, detachSpeech_offBus, detachHead_offBus, releaseBus_offBus]
theorem State.resume_offBus : (s.resume b).offBus = s.offBus := by
  unfold State.resume; dsimp only
  cases (s.busRec b).access <;> simp [putBus_offBus, setBusRec_offBus, moveRelays_offBus]
theorem State.hazardAction_offBus (h : Hazard) : (s.hazardAction h b).offBus = s.offBus := by
  unfold State.hazardAction; dsimp only
  split <;> simp [releaseBus_offBus, park_offBus, detachSpeech_offBus]

/-! ## The record a bus holds afterwards -/

/-- A record whose circuit has been detached (R49). -/
def BusRecord.withoutSpeech (r : BusRecord) : BusRecord :=
  if r.speech.isSome then { r with speech := none, func := if r.func = .speak then .hold else r.func } else r

/-- A record whose head has been detached (R48). -/
def BusRecord.withoutHead (r : BusRecord) : BusRecord :=
  if r.head.isSome then { r with head := none, func := if r.func = .measure then .hold else r.func } else r

/-- A record that has returned to IDLE (R40). -/
def BusRecord.atIdle (r : BusRecord) : BusRecord :=
  if r.reserveMark then { BusRecord.initial with line := r.line, owner := r.owner, reserveMark := true } else BusRecord.initial

/-- A record after a release or an isolate with its restore interval (R51 to R53, R56). -/
def BusRecord.released (reserve : Bool) (i : Option HeldInterval) (r : BusRecord) : BusRecord :=
  match r.access with
  | .connected =>
    { r.withoutSpeech.withoutHead with access := .releasing, func := .none, interval := i, reserveMark := reserve }
  | .parked => { r with access := .releasing, interval := i, reserveMark := reserve }
  | .monitor => ({ r.withoutSpeech with reserveMark := reserve } : BusRecord).atIdle
  | .releasing => if reserve then r else { r with reserveMark := false }
  | .idle => if reserve then r else BusRecord.initial
  | _ => ({ r with reserveMark := reserve } : BusRecord).atIdle

/-- A record after a park (R55). -/
def BusRecord.parked (r : BusRecord) : BusRecord :=
  match r.access with
  | .connected => { r.withoutSpeech.withoutHead with access := .parked, func := .none }
  | .cutting => { r with parkMark := true }
  | .guard => r.released true none
  | .monitor => r.released true none
  | _ => r

@[simp] theorem BusRecord.withoutSpeech_access (r : BusRecord) : r.withoutSpeech.access = r.access := by
  unfold withoutSpeech; split <;> rfl
@[simp] theorem BusRecord.withoutSpeech_line (r : BusRecord) : r.withoutSpeech.line = r.line := by
  unfold withoutSpeech; split <;> rfl
@[simp] theorem BusRecord.withoutSpeech_owner (r : BusRecord) : r.withoutSpeech.owner = r.owner := by
  unfold withoutSpeech; split <;> rfl
@[simp] theorem BusRecord.withoutSpeech_head (r : BusRecord) : r.withoutSpeech.head = r.head := by
  unfold withoutSpeech; split <;> rfl
@[simp] theorem BusRecord.withoutSpeech_parkMark (r : BusRecord) : r.withoutSpeech.parkMark = r.parkMark := by
  unfold withoutSpeech; split <;> rfl
@[simp] theorem BusRecord.withoutSpeech_speech (r : BusRecord) : r.withoutSpeech.speech = none := by
  unfold withoutSpeech
  split
  · rfl
  next h => simpa using h
@[simp] theorem BusRecord.withoutHead_access (r : BusRecord) : r.withoutHead.access = r.access := by
  unfold withoutHead; split <;> rfl
@[simp] theorem BusRecord.withoutHead_line (r : BusRecord) : r.withoutHead.line = r.line := by
  unfold withoutHead; split <;> rfl
@[simp] theorem BusRecord.withoutHead_owner (r : BusRecord) : r.withoutHead.owner = r.owner := by
  unfold withoutHead; split <;> rfl
@[simp] theorem BusRecord.withoutHead_speech (r : BusRecord) : r.withoutHead.speech = r.speech := by
  unfold withoutHead; split <;> rfl
@[simp] theorem BusRecord.withoutHead_parkMark (r : BusRecord) : r.withoutHead.parkMark = r.parkMark := by
  unfold withoutHead; split <;> rfl
@[simp] theorem BusRecord.withoutHead_head (r : BusRecord) : r.withoutHead.head = none := by
  unfold withoutHead
  split
  · rfl
  next h => simpa using h
@[simp] theorem BusRecord.atIdle_access (r : BusRecord) : r.atIdle.access = .idle := by unfold atIdle; split <;> rfl
@[simp] theorem BusRecord.atIdle_head (r : BusRecord) : r.atIdle.head = none := by unfold atIdle; split <;> rfl
@[simp] theorem BusRecord.atIdle_speech (r : BusRecord) : r.atIdle.speech = none := by unfold atIdle; split <;> rfl
theorem BusRecord.atIdle_line (r : BusRecord) {l : Nat} (h : r.atIdle.line = some l) : r.line = some l := by
  unfold atIdle at h
  split at h
  · exact h
  · cases h

theorem State.putBus_busRec (r : BusRecord) : (s.putBus b r).busRec b' = if b' = b then r else s.busRec b' := by
  unfold State.putBus; rw [setWatchRec_busRec, setBusRec_busRec]
@[simp] theorem State.moveRelays_busRec (l : Option Nat) (f : LineRelays → LineRelays) :
    (s.moveRelays l f).busRec b = s.busRec b := by cases l <;> rfl
@[simp] theorem State.freeGroup_busRec (l : Option Nat) : (s.freeGroup l).busRec b = s.busRec b := by cases l <;> rfl
theorem State.detachSpeech_busRec :
    (s.detachSpeech b).busRec b' = if b' = b then (s.busRec b).withoutSpeech else s.busRec b' := by
  unfold State.detachSpeech BusRecord.withoutSpeech; dsimp only
  split
  · rw [setBusRec_busRec]; rfl
  · split
    · next h => rw [h]
    · rfl
theorem State.detachHead_busRec :
    (s.detachHead b).busRec b' = if b' = b then (s.busRec b).withoutHead else s.busRec b' := by
  unfold State.detachHead BusRecord.withoutHead; dsimp only
  split
  · rw [setBusRec_busRec]; rfl
  · split
    · next h => rw [h]
    · rfl
theorem State.toIdle_busRec : (s.toIdle b).busRec b' = if b' = b then (s.busRec b).atIdle else s.busRec b' := by
  unfold State.toIdle; dsimp only; rw [putBus_busRec, freeGroup_busRec]; rfl
@[simp] theorem State.startGuard_busRec : (s.startGuard b).busRec b' = s.busRec b' := rfl
theorem State.take_busRec (f : AccessMode) (n l : Nat) (w : WatchSettings) :
    (s.take f b n l w).busRec b' = if b' = b then
      (match f with
        | .guarded => takenRecord .guard n l none
        | .forced => takenRecord .cutting n l (some (s.connectTaken l))
        | .monitorOnly => takenRecord .monitor n l none) else s.busRec b' := by
  cases f
  · exact State.putBus_busRec _ _ _ _
  · exact (State.startGuard_busRec _ _ _).trans (State.putBus_busRec _ _ _ _)
  · exact State.putBus_busRec _ _ _ _
theorem State.cutFromMonitor_busRec (f : Bool) :
    (s.cutFromMonitor f b).busRec b' = if b' = b then
      (if f then { (s.busRec b).withoutSpeech with access := .cutting, interval := s.connectOf (s.busRec b).line }
        else { (s.busRec b).withoutSpeech with access := .guard }) else s.busRec b' := by
  have other : b' ≠ b → (s.detachSpeech b).busRec b' = s.busRec b' := fun h => by rw [detachSpeech_busRec, if_neg h]
  have same : (s.detachSpeech b).busRec b = (s.busRec b).withoutSpeech := by rw [detachSpeech_busRec, if_pos rfl]
  have interval : ∀ l, (s.detachSpeech b).connectOf l = s.connectOf l := by
    intro l; unfold State.detachSpeech; dsimp only; split <;> rfl
  unfold State.cutFromMonitor; dsimp only
  cases f <;> by_cases h : b' = b <;> simp [putBus_busRec, h, other, same, interval]
theorem State.guardIdleLine_busRec : (s.guardIdleLine b).busRec b' = if b' = b then
    { s.busRec b with access := .cutting, interval := s.connectOf (s.busRec b).line } else s.busRec b' := by
  unfold State.guardIdleLine; dsimp only; rw [putBus_busRec, moveRelays_busRec]
theorem State.guardBusy_busRec : (s.guardBusy b).busRec b' = if b' = b then BusRecord.initial else s.busRec b' := by
  unfold State.guardBusy; dsimp only
  rw [toIdle_busRec, setBusRec_busRec, setBusRec_busRec, moveRelays_busRec, if_pos rfl]
  split
  · rfl
  · rw [moveRelays_busRec]
theorem State.connectEnds_busRec : (s.connectEnds b).busRec b' = if b' = b then
    (if (s.busRec b).parkMark then { s.busRec b with access := .parked, func := .none, interval := none, parkMark := false }
      else { s.busRec b with access := .connected, func := .hold, interval := none }) else s.busRec b' := by
  unfold State.connectEnds; dsimp only
  cases (s.busRec b).parkMark
  · exact (putBus_busRec _ _ _ _).trans (by rw [moveRelays_busRec]; rfl)
  · exact putBus_busRec _ _ _ _
theorem State.restoreEnds_busRec : (s.restoreEnds b).busRec b' = if b' = b then (s.busRec b).atIdle else s.busRec b' := by
  unfold State.restoreEnds; rw [toIdle_busRec, moveRelays_busRec, moveRelays_busRec]
theorem State.attachHead_busRec (h : Head) : (s.attachHead b h).busRec b' = if b' = b then
    { s.busRec b with head := some h, func := .measure } else s.busRec b' := State.setBusRec_busRec _ _ _ _
theorem State.attachSpeech_busRec (p : Speech) : (s.attachSpeech b p).busRec b' = if b' = b then
    { s.busRec b with speech := some p, func := if p.mode = .talk then .speak else (s.busRec b).func } else s.busRec b' :=
  State.setBusRec_busRec _ _ _ _
theorem State.transfer_busRec (n : Nat) : (s.transfer b n).busRec b' = if b' = b then
    { s.busRec b with owner := some n } else s.busRec b' := State.setBusRec_busRec _ _ _ _

theorem State.restoreOf_detached (l : Option Nat) :
    ((s.detachSpeech b).detachHead b).restoreOf l = s.restoreOf l := by
  unfold State.detachHead State.detachSpeech
  dsimp only
  (repeat' split) <;> rfl

theorem State.releaseBus_busRec (r : Bool) : (s.releaseBus r b).busRec b' =
    if b' = b then (s.busRec b).released r (s.restoreOf (s.busRec b).line) else s.busRec b' := by
  unfold State.releaseBus BusRecord.released; dsimp only
  by_cases h : b' = b
  · subst h
    cases ha : (s.busRec b').access <;> cases r <;>
      simp [putBus_busRec, toIdle_busRec, detachSpeech_busRec, detachHead_busRec, restoreOf_detached, ha]
  · cases ha : (s.busRec b).access <;> cases r <;>
      simp [putBus_busRec, toIdle_busRec, detachSpeech_busRec, detachHead_busRec, setBusRec_busRec, h]

theorem State.park_busRec : (s.park b).busRec b' = if b' = b then (s.busRec b).parked else s.busRec b' := by
  unfold State.park BusRecord.parked; dsimp only
  by_cases h : b' = b
  · subst h
    cases ha : (s.busRec b').access <;>
      simp [putBus_busRec, detachSpeech_busRec, detachHead_busRec, releaseBus_busRec, BusRecord.released, ha]
  · cases ha : (s.busRec b).access <;>
      simp [putBus_busRec, detachSpeech_busRec, detachHead_busRec, setBusRec_busRec, releaseBus_busRec, h]

theorem State.resume_busRec : (s.resume b).busRec b' = if b' = b then
    (match (s.busRec b).access with
      | .parked => { s.busRec b with access := .connected, func := .hold }
      | .cutting => { s.busRec b with parkMark := false }
      | _ => s.busRec b) else s.busRec b' := by
  unfold State.resume; dsimp only
  by_cases h : b' = b
  · subst h
    cases ha : (s.busRec b').access <;> simp [putBus_busRec]
  · cases ha : (s.busRec b).access <;> simp [putBus_busRec, setBusRec_busRec, h]

/-- The record after a hazard's action (R81 items 2 and 3). -/
theorem State.hazardAction_busRec (h : Hazard) : ∃ i, (s.hazardAction h b).busRec b' =
    if b' = b then (if inSet (s.settingsOf h).isolate b then (s.busRec b).withoutSpeech.released true i
      else (s.busRec b).withoutSpeech.parked) else s.busRec b' := by
  have hset : (s.detachSpeech b).settingsOf h = s.settingsOf h := by
    unfold State.settingsOf; rw [hazards_of_offBus (s.detachSpeech_offBus b)]
  have same : (s.detachSpeech b).busRec b = (s.busRec b).withoutSpeech := by rw [detachSpeech_busRec, if_pos rfl]
  have other : b' ≠ b → (s.detachSpeech b).busRec b' = s.busRec b' := fun h => by rw [detachSpeech_busRec, if_neg h]
  refine ⟨(s.detachSpeech b).restoreOf (s.busRec b).withoutSpeech.line, ?_⟩
  unfold State.hazardAction; dsimp only
  rw [hset]
  by_cases hi : inSet (s.settingsOf h).isolate b = true <;> by_cases hb : b' = b <;>
    simp [hi, hb, releaseBus_busRec, park_busRec, same, other]

/-! ## The relays afterwards -/

@[simp] theorem State.putBus_relaysOf (r : BusRecord) (l : Nat) : (s.putBus b r).relaysOf l = s.relaysOf l := rfl
theorem State.moveRelays_relaysOf (l : Option Nat) (f : LineRelays → LineRelays) (k : Nat) :
    (s.moveRelays l f).relaysOf k = if l = some k then f (s.relaysOf k) else s.relaysOf k := by
  cases l with
  | none => simp [State.moveRelays]
  | some n =>
    by_cases h : k = n
    · subst h; simp [State.moveRelays]
    · simp [State.moveRelays, setRelays_relaysOf, h, Ne.symm h]
@[simp] theorem State.freeGroup_relaysOf (l : Option Nat) (k : Nat) : (s.freeGroup l).relaysOf k = s.relaysOf k := by
  cases l <;> rfl
@[simp] theorem State.detachSpeech_relaysOf (k : Nat) : (s.detachSpeech b).relaysOf k = s.relaysOf k := by
  unfold State.detachSpeech; dsimp only; split <;> rfl
@[simp] theorem State.detachHead_relaysOf (k : Nat) : (s.detachHead b).relaysOf k = s.relaysOf k := by
  unfold State.detachHead; dsimp only; split <;> rfl
@[simp] theorem State.toIdle_relaysOf (k : Nat) : (s.toIdle b).relaysOf k = s.relaysOf k := by
  unfold State.toIdle; dsimp only; rw [putBus_relaysOf, freeGroup_relaysOf]

/-- The relays of a line whose bus is released (R51 to R53, R56). -/
def LineRelays.released (a : AccessState) (x : LineRelays) : LineRelays :=
  match a with
  | .connected => { x with testPath := false }
  | .cutting => { x with cutOpen := false }
  | .guard => { x with bridge := false }
  | .monitor => { x with bridge := false }
  | _ => x

theorem State.releaseBus_relaysOf (r : Bool) (k : Nat) : (s.releaseBus r b).relaysOf k =
    if (s.busRec b).line = some k then (s.relaysOf k).released (s.busRec b).access else s.relaysOf k := by
  unfold State.releaseBus LineRelays.released; dsimp only
  cases ha : (s.busRec b).access <;> cases r <;>
    simp [moveRelays_relaysOf, detachSpeech_busRec, detachHead_busRec]

/-- The relays of a line whose bus is parked (R55). -/
def LineRelays.parked (a : AccessState) (x : LineRelays) : LineRelays :=
  match a with
  | .cutting => x
  | a => x.released a

theorem State.park_relaysOf (k : Nat) : (s.park b).relaysOf k =
    if (s.busRec b).line = some k then (s.relaysOf k).parked (s.busRec b).access else s.relaysOf k := by
  unfold State.park LineRelays.parked; dsimp only
  cases ha : (s.busRec b).access <;>
    simp [moveRelays_relaysOf, releaseBus_relaysOf, LineRelays.released, detachSpeech_busRec, detachHead_busRec, ha]

theorem State.hazardAction_relaysOf (h : Hazard) (k : Nat) : (s.hazardAction h b).relaysOf k =
    if (s.busRec b).line = some k then
      (if inSet (s.settingsOf h).isolate b then (s.relaysOf k).released (s.busRec b).access
        else (s.relaysOf k).parked (s.busRec b).access) else s.relaysOf k := by
  have hset : (s.detachSpeech b).settingsOf h = s.settingsOf h := by
    unfold State.settingsOf; rw [hazards_of_offBus (s.detachSpeech_offBus b)]
  unfold State.hazardAction; dsimp only
  rw [hset]
  by_cases hi : inSet (s.settingsOf h).isolate b = true <;>
    simp [hi, releaseBus_relaysOf, park_relaysOf, detachSpeech_busRec]

theorem State.resume_relaysOf (k : Nat) : (s.resume b).relaysOf k =
    if (s.busRec b).line = some k ∧ (s.busRec b).access = .parked then { s.relaysOf k with testPath := true }
      else s.relaysOf k := by
  unfold State.resume; dsimp only
  cases ha : (s.busRec b).access <;> simp [moveRelays_relaysOf]

end

/-! ## The watch settings afterwards -/

/-- Every watch record's settings are the ones it held or the reset values, but that bus `b` may take the settings `w`. -/
def State.WatchKept (s t : State) (w : Option WatchSettings) : Prop :=
  ∀ b, (t.watchRec b).settings = (s.watchRec b).settings ∨ (t.watchRec b).settings = WatchSettings.initial ∨
    some (t.watchRec b).settings = w

theorem State.WatchKept.refl (s : State) {w : Option WatchSettings} : s.WatchKept s w := fun _ => .inl rfl
theorem State.WatchKept.of_eq {s t : State} {w : Option WatchSettings} (h : t.watches = s.watches) : s.WatchKept t w :=
  fun b => .inl (by unfold State.watchRec; rw [h])
theorem State.WatchKept.trans {s t u : State} {w : Option WatchSettings} (h : s.WatchKept t w) (k : t.WatchKept u w) :
    s.WatchKept u w := fun b => by
  rcases k b with hb | hb
  · rw [hb]; exact h b
  · exact .inr hb

theorem WatchRecord.across_settings (raw : Bool) (now : Moment) (x y : AccessState) (w : WatchRecord) :
    (w.across raw now x y).settings = w.settings ∨ (w.across raw now x y).settings = WatchSettings.initial := by
  unfold WatchRecord.across WatchRecord.compare
  dsimp only
  (repeat' split) <;> first | exact .inl rfl | exact .inr rfl

variable {w : Option WatchSettings} (s : State) (b : Bus)

theorem State.putBus_watchKept (r : BusRecord) : s.WatchKept (s.putBus b r) w := fun b' => by
  unfold State.putBus
  rw [setWatchRec_watchRec]
  split
  · next h =>
    subst h
    exact (WatchRecord.across_settings _ _ _ _ _).imp id .inl
  · exact .inl rfl
theorem State.moveRelays_watchKept (l : Option Nat) (f : LineRelays → LineRelays) : s.WatchKept (s.moveRelays l f) w := by
  cases l <;> exact .of_eq rfl
theorem State.detachSpeech_watchKept : s.WatchKept (s.detachSpeech b) w := by
  unfold State.detachSpeech; dsimp only; split <;> exact .of_eq rfl
theorem State.detachHead_watchKept : s.WatchKept (s.detachHead b) w := by
  unfold State.detachHead; dsimp only; split <;> exact .of_eq rfl
theorem State.setBusRec_watchKept (r : BusRecord) : s.WatchKept (s.setBusRec b r) w := .of_eq rfl
theorem State.toIdle_watchKept : s.WatchKept (s.toIdle b) w := by
  unfold State.toIdle
  refine .trans (.of_eq ?_) (putBus_watchKept _ _ _)
  cases (s.busRec b).line <;> rfl
theorem State.startGuard_watchKept : s.WatchKept (s.startGuard b) w := fun b' => by
  unfold State.startGuard; dsimp only
  rw [setWatchRec_watchRec]
  split
  · next h => subst h; exact .inl rfl
  · exact .inl rfl
theorem State.take_watchKept (f : AccessMode) (n l : Nat) (x : WatchSettings) : s.WatchKept (s.take f b n l x) (some x) := by
  have written : s.WatchKept ((s.writeWatch b x).setGroupSel (groupOf l) (some b)) (some x) := fun b' => by
    show ((s.writeWatch b x).watchRec b').settings = _ ∨ ((s.writeWatch b x).watchRec b').settings = _ ∨
      some ((s.writeWatch b x).watchRec b').settings = _
    unfold State.writeWatch
    rw [setWatchRec_watchRec]
    split
    · exact .inr (.inr rfl)
    · exact .inl rfl
  refine written.trans ?_
  cases f
  · exact (moveRelays_watchKept _ _ _).trans (putBus_watchKept _ _ _)
  · exact ((moveRelays_watchKept _ _ _).trans (putBus_watchKept _ _ _)).trans (startGuard_watchKept _ _)
  · exact (moveRelays_watchKept _ _ _).trans (putBus_watchKept _ _ _)
theorem State.cutFromMonitor_watchKept (f : Bool) : s.WatchKept (s.cutFromMonitor f b) w := by
  refine (s.detachSpeech_watchKept b).trans ?_
  cases f
  · exact (putBus_watchKept _ _ _).trans (startGuard_watchKept _ _)
  · exact (moveRelays_watchKept _ _ _).trans (putBus_watchKept _ _ _)
theorem State.guardIdleLine_watchKept : s.WatchKept (s.guardIdleLine b) w :=
  (moveRelays_watchKept _ _ _).trans (putBus_watchKept _ _ _)
theorem State.guardBusy_watchKept : s.WatchKept (s.guardBusy b) w :=
  ((moveRelays_watchKept _ _ _).trans (setBusRec_watchKept _ _ _)).trans (toIdle_watchKept _ _)
theorem State.connectEnds_watchKept : s.WatchKept (s.connectEnds b) w := by
  unfold State.connectEnds; dsimp only
  split
  · exact putBus_watchKept _ _ _
  · exact (moveRelays_watchKept _ _ _).trans (putBus_watchKept _ _ _)
theorem State.restoreEnds_watchKept : s.WatchKept (s.restoreEnds b) w :=
  (moveRelays_watchKept _ _ _).trans (toIdle_watchKept _ _)
theorem State.releaseBus_watchKept (r : Bool) : s.WatchKept (s.releaseBus r b) w := by
  unfold State.releaseBus; dsimp only
  cases (s.busRec b).access
  case connected =>
    exact ((detachSpeech_watchKept _ _).trans (detachHead_watchKept _ _)).trans
      ((moveRelays_watchKept _ _ _).trans (putBus_watchKept _ _ _))
  case parked => exact putBus_watchKept _ _ _
  case monitor =>
    exact (detachSpeech_watchKept _ _).trans
      (((moveRelays_watchKept _ _ _).trans (setBusRec_watchKept _ _ _)).trans (toIdle_watchKept _ _))
  case cutting => exact ((moveRelays_watchKept _ _ _).trans (setBusRec_watchKept _ _ _)).trans (toIdle_watchKept _ _)
  case guard => exact ((moveRelays_watchKept _ _ _).trans (setBusRec_watchKept _ _ _)).trans (toIdle_watchKept _ _)
  case releasing => cases r <;> exact .of_eq rfl
  case idle => cases r <;> exact .of_eq rfl
theorem State.park_watchKept : s.WatchKept (s.park b) w := by
  unfold State.park; dsimp only
  cases (s.busRec b).access
  case connected =>
    exact ((detachSpeech_watchKept _ _).trans (detachHead_watchKept _ _)).trans
      ((moveRelays_watchKept _ _ _).trans (putBus_watchKept _ _ _))
  case guard => exact releaseBus_watchKept _ _ _
  case monitor => exact releaseBus_watchKept _ _ _
  all_goals exact .of_eq rfl
theorem State.resume_watchKept : s.WatchKept (s.resume b) w := by
  unfold State.resume; dsimp only
  cases (s.busRec b).access
  case parked => exact (moveRelays_watchKept _ _ _).trans (putBus_watchKept _ _ _)
  all_goals exact .of_eq rfl
theorem State.hazardAction_watchKept (h : Hazard) : s.WatchKept (s.hazardAction h b) w := by
  refine (s.detachSpeech_watchKept b).trans ?_
  unfold State.hazardAction; dsimp only
  split
  · exact releaseBus_watchKept _ _ _
  · exact park_watchKept _ _

end Sys2Proof.Machine
end

section
/-! PROOF. The next job id (R92): the first free one after the last one given. -/

namespace Sys2Proof.Machine

variable {s : State}

/-! ## Counting up from 255 to 1 -/

/-- The id counted after `n` (R92). -/
def countId (n : Nat) : Nat := if 255 ≤ n then 1 else n + 1

theorem repeat_shift (f : Nat → Nat) (n a : Nat) : Nat.repeat f (n + 1) a = Nat.repeat f n (f a) := by
  induction n with
  | zero => rfl
  | succ n ih => exact congrArg f ih

/-- The ids counted from `n`: after the first, one cycle of the 255. -/
theorem repeat_countId (n i : Nat) : Nat.repeat countId (i + 1) n = (countId n - 1 + i) % 255 + 1 := by
  have hfirst : 1 ≤ countId n ∧ countId n ≤ 255 := by unfold countId; split <;> omega
  induction i with
  | zero =>
    show countId n = _
    rw [Nat.add_zero, Nat.mod_eq_of_lt (by omega)]
    omega
  | succ i ih =>
    show countId (Nat.repeat countId (i + 1) n) = _
    rw [ih]
    unfold countId
    split <;> split <;> omega

theorem freeId_succ (js : List Job) (fuel n : Nat) : freeId js (fuel + 1) n =
    if js.any (fun j => j.id == countId n) then freeId js fuel (countId n) else countId n := rfl

/-- The search finds the first free id, or every id it counts is taken. -/
theorem freeId_spec (js : List Job) (fuel n : Nat) :
    (∃ k < fuel, freeId js fuel n = Nat.repeat countId (k + 1) n ∧ (js.any fun j => j.id == freeId js fuel n) = false ∧
      ∀ i < k, js.any (fun j => j.id == Nat.repeat countId (i + 1) n) = true) ∨
    ∀ i < fuel, js.any (fun j => j.id == Nat.repeat countId (i + 1) n) = true := by
  induction fuel generalizing n with
  | zero => exact .inr fun i hi => absurd hi (Nat.not_lt_zero i)
  | succ fuel ih =>
    rw [freeId_succ]
    split
    next htaken =>
      have first (p : Nat → Prop) (h0 : p 0) (hs : ∀ i, p (i + 1)) : ∀ i, p i := fun i => by cases i; exacts [h0, hs _]
      rcases ih (countId n) with ⟨k, hk, hfound, hfree, hbefore⟩ | hall
      · refine .inl ⟨k + 1, by omega, by rw [hfound, ← repeat_shift], hfree, first _ (fun _ => htaken) fun i hi => ?_⟩
        rw [repeat_shift]
        exact hbefore i (by omega)
      · refine .inr (first _ (fun _ => htaken) fun i hi => ?_)
        rw [repeat_shift]
        exact hall i (by omega)
    next hfree =>
      exact .inl ⟨0, by omega, rfl, by simpa using hfree, fun i hi => absurd hi (Nat.not_lt_zero i)⟩

/-- No table of at most 16 jobs takes 17 ids in succession. -/
theorem not_all_taken {js : List Job} (hlen : js.length ≤ 16) (n : Nat) :
    ¬ ∀ i < 17, js.any (fun j => j.id == Nat.repeat countId (i + 1) n) = true := by
  intro hall
  have hinj : Set.InjOn (fun i => Nat.repeat countId (i + 1) n) (Finset.range 17) := by
    intro i hi k hk hik
    have hi := Finset.mem_range.1 hi
    have hk := Finset.mem_range.1 hk
    dsimp only at hik
    rw [repeat_countId, repeat_countId] at hik
    omega
  have hsub : Set.MapsTo (fun i => Nat.repeat countId (i + 1) n) (Finset.range 17) (js.map (·.id)).toFinset := by
    intro i hi
    obtain ⟨j, hj, hid⟩ := List.any_eq_true.1 (hall i (Finset.mem_range.1 hi))
    exact List.mem_toFinset.2 (List.mem_map.2 ⟨j, hj, beq_iff_eq.1 hid⟩)
  have hcard := Finset.card_le_card_of_injOn _ hsub hinj
  have hle := List.toFinset_card_le (js.map (·.id))
  rw [Finset.card_range] at hcard
  rw [List.length_map] at hle
  omega

/-- The next id of a table with room is the first free one (R92). -/
theorem State.nextId_spec (hlen : s.sched.jobs.length ≤ 16) :
    ∃ k, s.nextId = Nat.repeat countId (k + 1) s.sched.lastId ∧ s.nextId ∉ s.sched.jobs.map (·.id) ∧
      ∀ i < k, ∃ j ∈ s.sched.jobs, j.id = Nat.repeat countId (i + 1) s.sched.lastId := by
  rcases freeId_spec s.sched.jobs 17 s.sched.lastId with ⟨k, -, hfound, hfree, hbefore⟩ | hall
  · refine ⟨k, hfound, fun hmem => ?_, fun i hi => ?_⟩
    · obtain ⟨j, hj, hid⟩ := List.mem_map.1 hmem
      exact absurd (beq_iff_eq.2 hid) (List.any_eq_false.1 hfree j hj)
    · obtain ⟨j, hj, hid⟩ := List.any_eq_true.1 (hbefore i hi)
      exact ⟨j, hj, beq_iff_eq.1 hid⟩
  · exact absurd hall (not_all_taken hlen _)

theorem State.nextId_range (hlen : s.sched.jobs.length ≤ 16) : 1 ≤ s.nextId ∧ s.nextId ≤ 255 := by
  obtain ⟨k, hk, -⟩ := State.nextId_spec hlen
  rw [hk, repeat_countId]
  omega

/-- Settles O28: the search counts at most 17 ids, and 16 jobs cannot take them all. -/
theorem newJobIdIsTheNextFreeOne : Obligations.NewJobIdIsTheNextFreeOne := by
  unfold Obligations.NewJobIdIsTheNextFreeOne
  intro s next hnext hlen
  obtain rfl : next = countId := funext hnext
  obtain ⟨k, hk, hfree, hbefore⟩ := State.nextId_spec hlen
  obtain ⟨hlo, hhi⟩ := State.nextId_range hlen
  refine ⟨hlo, hhi, List.find?_eq_none.2 fun j hj => ?_, k, hk, fun i hi => ?_⟩
  · exact fun hid => hfree (List.mem_map.2 ⟨j, hj, beq_iff_eq.1 hid⟩)
  · obtain ⟨j, hj, hid⟩ := hbefore i hi
    exact List.find?_isSome.2 ⟨j, hj, beq_iff_eq.2 hid⟩

end Sys2Proof.Machine
end

section
/-! SUPPORT. What a step can do, said once: the moves on the state of which every event is made, each with what holds when it is
made. A law that every move keeps is kept by every step. -/

namespace Sys2Proof.Machine

/-! ## The moves -/

/-- A watch exponent that is in range or stands already in a watch record or in a job's settings. -/
def State.knownExponent (s : State) (n : Nat) : Prop :=
  n ≤ 7 ∨ (∃ b, (s.watchRec b).settings.n = n) ∨ ∃ j ∈ s.sched.jobs, j.watch.n = n

/-- A request is served only so (R6). -/
structure State.Serving (s : State) : Prop where
  running : s.resets.active = false
  supply : s.pins.supplyGood = true

/-- Some job or some access stands. -/
def State.occupied (s : State) : Prop := s.sched.jobs ≠ [] ∨ s.access.buses ≠ []

/-- The moves of the Access Controller, Bus Watch and the Hazard Unit. -/
inductive BusMove (s : State) : State → Prop
  | detachHead (b : Bus) : BusMove s (s.detachHead b)
  | detachSpeech (b : Bus) : BusMove s (s.detachSpeech b)
  | release (b : Bus) : BusMove s (s.releaseBus false b)
  | take (form : AccessMode) (b : Bus) (j : Job) (job : j ∈ s.sched.jobs) (idle : (s.busRec b).access = .idle)
      (safe : (s.hazardRec b).state = .none) (free : (s.sched.jobs.map (·.id)).Nodup → s.groupHeldElsewhere b j.line = false) :
      BusMove s (s.take form b j.id j.line j.watch)
  | guardBusy (b : Bus) (guard : (s.busRec b).access = .guard) : BusMove s (s.guardBusy b)
  | transfer (b : Bus) (id : Nat) (connected : (s.busRec b).access = .connected) : BusMove s (s.transfer b id)
  | resume (b : Bus) (safe : (s.hazardRec b).state = .none) : BusMove s (s.resume b)
  | attachHead (b : Bus) (h : Head) (connected : (s.busRec b).access = .connected) : BusMove s (s.attachHead b h)
  | hazard (h : Hazard) (b : Bus) (r : HazardRecord) : BusMove s ((s.setHazardRec b r).hazardAction h b)
  | idleLine (b : Bus) (guard : (s.busRec b).access = .guard) : BusMove s (s.guardIdleLine b)
  | connectEnds (b : Bus) (cutting : (s.busRec b).access = .cutting) : BusMove s (s.connectEnds b)
  | restoreEnds (b : Bus) (releasing : (s.busRec b).access = .releasing) : BusMove s (s.restoreEnds b)
  | cut (forced : Bool) (b : Bus) (monitor : (s.busRec b).access = .monitor) : BusMove s (s.cutFromMonitor forced b)
  | attachSpeech (b : Bus) (p : Speech) (ok : s.attachSpeechOk b p = true) : BusMove s (s.attachSpeech b p)
  | watch (b : Bus) (w : WatchRecord) (known : s.knownExponent w.settings.n) : BusMove s (s.setWatchRec b w)
  | hazardRec (b : Bus) (r : HazardRecord) (state : r.state = (s.hazardRec b).state ∨ r.state = .none) :
      BusMove s (s.setHazardRec b r)
  | storm (k : Condition) : BusMove s { s with hazards := { s.hazards with storm := k } }

/-- What a removal does but for the job's head (R94). -/
def State.without (s : State) (j : Job) (o : JobOutcome) (id : Nat) : State :=
  let t := (s.setJobs (dropMarks id (s.sched.jobs.filter fun j => j.id != id)).1).setSweep (s.sweep.jobRemoved j o)
  if j.source = .auto ∧ asksVerify o then t.setVerifyDue j.line true else t

/-- A job joins the table (R92). -/
def State.enqueue (s : State) (q : JobRequest) : State :=
  { s with sched := { s.sched with jobs := s.sched.jobs ++ [q.job s.nextId s.sched.nextQueue s.link.time], lastId := s.nextId
                                   nextQueue := s.sched.nextQueue + 1 } }

/-- The revisit list keeps its form (R129). -/
def RevisitKept (old new : List RevisitEntry) : Prop :=
  (old.map (·.line)).Nodup → old.length ≤ 16 → (new.map (·.line)).Nodup ∧ new.length ≤ 16

/-- A change of the Sweep Unit that keeps its settings in range, its list in form, and a stopped sweep stopped. -/
structure SweepKept (s : State) (w : Sweep) : Prop where
  revisit : RevisitKept s.sweep.revisit w.revisit
  pace : 1 ≤ s.sweep.pace ∧ s.sweep.pace ≤ 255 → 1 ≤ w.pace ∧ w.pace ≤ 255
  concurrency : 1 ≤ s.sweep.concurrency ∧ s.sweep.concurrency ≤ 2 → 1 ≤ w.concurrency ∧ w.concurrency ≤ 2
  stopped : s.resets.active = true → s.sweep.state = .stopped → w.state = .stopped

/-- The moves of the job table and the Sweep Unit; `F` says that the table held no more than its 16 jobs as the event began. -/
inductive JobMove (F : Prop) (s : State) : State → Prop
  | upd (id : Nat) (f : Job → Job) (same : ∀ j, (f j).id = j.id ∧ (f j).line = j.line ∧ (f j).watch = j.watch) :
      JobMove F s (s.updJob id f)
  | keepWatch (id : Nat) (w : WatchSettings) (known : s.knownExponent w.n) : JobMove F s (s.keepWatch id w)
  | counters (start wait : Nat) : JobMove F s { s with sched := { s.sched with nextStart := start, nextWait := wait } }
  | remove (j : Job) (o : JobOutcome) (id : Nat) (some : s.sched.jobs ≠ []) : JobMove F s (s.without j o id)
  | enqueue (w : Sweep) (q : JobRequest) (kept : SweepKept s w) (supply : s.pins.supplyGood = true)
      (acts : s.resets.active = false ∨ s.sweep.state = .running) (place : F → s.sched.jobs.length ≤ 16)
      (known : s.knownExponent q.watch.n) : JobMove F s ((s.setSweep w).enqueue q)
  | sweep (w : Sweep) (kept : SweepKept s w) : JobMove F s (s.setSweep w)

/-- The moves of the Ticket Unit and of the line records. -/
inductive TicketMove (s : State) : State → Prop
  | lines (ls : Table LineStatus) : TicketMove s { s with lines := ls }
  | verdict (c : Ctx) (same : c.s = s) (h : HandOver) (v : HandedVerdict) (acts : s.occupied) : TicketMove s (c.handVerdict h v).1.s
  | complain (c : Ctx) (same : c.s = s) (line code : Nat) (acts : s.Serving) : TicketMove s (c.complain line code).1.s
  | verifyLine (line : Nat) (due : Bool) (acts : s.Serving) : TicketMove s (s.setVerifyDue line due)
  | dispatch (t : Ticket) (found : s.ticket? t.number = some t) (opened : t.state = .opened) (acts : s.Serving) :
      TicketMove s (s.updTicket t.number (Ticket.setState s.link.time .dispatched))
  | verify (n : Nat) (acts : s.Serving) : TicketMove s (s.updTicket n fun t => { t with verifyDue := true })
  | close (t : Ticket) (found : s.ticket? t.number = some t) (state : t.state ≠ .rolled) (acts : s.Serving) :
      TicketMove s (s.closeTicket t)
  | erase (acts : s.Serving) : TicketMove s { s with tickets := { s.tickets with table := [], next := 1 } }

/-- The moves of settings, each value in its range (R9). -/
inductive SettingMove (s : State) : State → Prop
  | directory (line : Nat) (e : DirEntry) (range : e.cls ≤ 15) : SettingMove s (s.setDirEntry line e)
  | profile (cls : Nat) (p : Profile) (range : p.inRange) : SettingMove s (s.setProfile cls p)
  | route (g : Nat) (r : Route) : SettingMove s (s.setRoute g r)
  | intervalA (i : ReleaseInterval) (range : 1 ≤ i.count ∧ i.count ≤ 63) :
      SettingMove s { s with store := { s.store with intervalA := i } }
  | intervalB (i : ReleaseInterval) (range : 1 ≤ i.count ∧ i.count ≤ 63) :
      SettingMove s { s with store := { s.store with intervalB := i } }
  | guardLength (n : Nat) (range : 1 ≤ n ∧ n ≤ 50) : SettingMove s { s with watches := { s.watches with guardLength := n } }
  | hazard (h : Hazard) (x : HazardSettings) : SettingMove s (s.setSettings h x)
  | holdTime (n : Nat) (range : 1 ≤ n ∧ n ≤ 255) : SettingMove s { s with hazards := { s.hazards with holdTime := n } }
  | holdLimit (p n : Nat) (range : 1 ≤ n ∧ n ≤ 60) :
      SettingMove s { s with sched := { s.sched with holdLimits := Table.set 10 s.sched.holdLimits p n } }
  | step (kind : StepKind) (e : StepEntry) (range : e.inRange kind) :
      SettingMove s { s with engine := { s.engine with steps := s.engine.steps.put e kind } }
  | rollUp (n w x : Nat) (count : 2 ≤ n ∧ n ≤ 32 ∨ n = s.tickets.rollCount)
      (window : 1 ≤ w ∧ w ≤ 255 ∨ w = s.tickets.rollWindow) (storm : 1 ≤ x ∧ x ≤ 255 ∨ x = s.tickets.stormWindow) :
      SettingMove s { s with tickets := { s.tickets with rollCount := n, rollWindow := w, stormWindow := x } }

/-- The moves of a reset (R18, R59, R186). -/
inductive ResetMove (s : State) : State → Prop
  | cleared (cause : ResetCause) (drop : List DropEntry) : ResetMove s (s.cleared cause drop)
  | ends (r : BitVec 2) (m : Moment) (dropped : s.resets.drop = []) : ResetMove s
      { s with resets := { s.resets with active := false, starting := true }
               link := { s.link with rate := r, nextSecond := m, queue := [], lost := 0 } }
  | checkMarker : ResetMove s s.checkMarker
  | started (q : List Report) : ResetMove s
      { s with resets := { s.resets with starting := false }, link := { s.link with queue := q } }
  | dropped (d : List DropEntry) (line : Nat) (g : Option Nat) (open_ : s.resets.drop ≠ []) : ResetMove s
      (let t := s.setRelays line LineRelays.initial
       let t := match g with | some g => t.setGroupSel g none | none => t
       { t with resets := { t.resets with drop := d } })
  | supplyRises : ResetMove s { s with pins := { s.pins with supplyGood := true } }

/-- One move. The passive ones touch the clock, the messages, the queue of commands, the link, or a pin but that of the supply. -/
inductive Move (F : Prop) (s : State) : State → Prop
  | bus {t : State} (h : BusMove s t) : Move F s t
  | job {t : State} (h : JobMove F s t) : Move F s t
  | ticket {t : State} (h : TicketMove s t) : Move F s t
  | setting {t : State} (h : SettingMove s t) : Move F s t
  | reset {t : State} (h : ResetMove s t) : Move F s t
  | heads (hs : Table HeadRecord) : Move F s { s with engine := { s.engine with heads := hs } }
  | passive (q : List Instr) (m : Moment) (ms : List PortMessage) (l : Link) (p : Pins) (supply : p.supplyGood = s.pins.supplyGood) :
      Move F s { s with pending := q, now := m, port := ms, link := l, pins := p }

/-- Any number of moves. -/
abbrev RawMoves (F : Prop) : State → State → Prop := Relation.ReflTransGen (Move F)

/-- A law that every move keeps is kept by any number of moves. -/
theorem RawMoves.keep {F : Prop} {P : State → Prop} {s t : State} (hP : ∀ s t, Move F s t → P s → P t) (h : RawMoves F s t)
    (hs : P s) : P t := by
  induction h with
  | refl => exact hs
  | tail _ hstep ih => exact hP _ _ hstep ih

end Sys2Proof.Machine
end

section
/-! SUPPORT. What each kind of move leaves as it was. -/

namespace Sys2Proof.Machine

variable {s t : State} {c : Ctx}

/-! ## The Ticket Unit's operations leave all but the ticket table and the line records -/

/-- The state without the ticket table, its counter and the line records. -/
def State.offTickets (s : State) : State := { s with lines := [], tickets := { s.tickets with table := [], next := 1 } }

@[simp] theorem State.setTickets_offTickets (ts : List Ticket) : (s.setTickets ts).offTickets = s.offTickets := rfl
@[simp] theorem State.updTicket_offTickets (n : Nat) (f : Ticket → Ticket) : (s.updTicket n f).offTickets = s.offTickets := rfl
@[simp] theorem State.setOpenTicket_offTickets (l : Nat) (n : Option Nat) : (s.setOpenTicket l n).offTickets = s.offTickets := rfl
@[simp] theorem State.setUnticketed_offTickets (l : Nat) (u : Bool) : (s.setUnticketed l u).offTickets = s.offTickets := rfl
@[simp] theorem State.gather_offTickets (k n : Nat) : (s.gather k n).offTickets = s.offTickets := rfl
@[simp] theorem State.place_offTickets (x : Ticket) : (s.place x).1.offTickets = s.offTickets := rfl
@[simp] theorem State.setVerifyDue_offTickets (l : Nat) (d : Bool) : (s.setVerifyDue l d).offTickets = s.offTickets := by
  unfold State.setVerifyDue; split <;> rfl
@[simp] theorem State.closeTicket_offTickets (x : Ticket) : (s.closeTicket x).offTickets = s.offTickets := by
  unfold State.closeTicket
  split
  · dsimp only; split <;> rfl
  · rfl
@[simp] theorem Ctx.tellTicket_s (e : TicketEventKind) (n : Nat) : (c.tellTicket e n).s = c.s := by
  unfold Ctx.tellTicket; split <;> rfl
@[simp] theorem Ctx.tellAll_s (e : TicketEventKind) (ks : List Nat) : (ks.foldl (fun c k => c.tellTicket e k) c).s = c.s := by
  induction ks generalizing c with
  | nil => rfl
  | cons k ks ih => simp [ih]
@[simp] theorem Ctx.tellFull_s (k : TicketKind) (l : Option Nat) (b : Nat) (x : TicketClass) : (c.tellFull k l b x).s = c.s := rfl
theorem Ctx.makeRoom_offTickets {d : Ctx} (h : c.makeRoom = some d) : d.s.offTickets = c.s.offTickets := by
  unfold Ctx.makeRoom at h
  split at h
  · cases h; rfl
  · split at h
    · cases h
    · cases h; rfl
@[simp] theorem Ctx.gatherCable_offTickets (x : Ticket) : (c.gatherCable x).s.offTickets = c.s.offTickets := by
  unfold Ctx.gatherCable
  split
  · simp
  · split
    · simp
    next h => simp [← Ctx.makeRoom_offTickets h]
@[simp] theorem Ctx.rollCheck_offTickets (n : Nat) : (c.rollCheck n).s.offTickets = c.s.offTickets := by
  unfold Ctx.rollCheck; dsimp only; (repeat' split) <;> simp
@[simp] theorem Ctx.raiseLine_offTickets (l : Nat) (x : TicketClass) (o : TicketOrigin) (m : Ticket → Ticket) :
    (c.raiseLine l x o m).1.s.offTickets = c.s.offTickets := by
  unfold Ctx.raiseLine
  split
  · simp
  next h => simp [← Ctx.makeRoom_offTickets h]
@[simp] theorem Ctx.leaveParent_offTickets (p : Option Nat) : (c.leaveParent p).s.offTickets = c.s.offTickets := by
  unfold Ctx.leaveParent; dsimp only; (repeat' split) <;> simp
@[simp] theorem Ctx.faultOn_offTickets (h : HandOver) (x : TicketClass) (k : Ticket) :
    (c.faultOn h x k).1.s.offTickets = c.s.offTickets := by
  unfold Ctx.faultOn; dsimp only; (repeat' split) <;> simp
@[simp] theorem Ctx.okOn_offTickets (k : Ticket) : (c.okOn k).1.s.offTickets = c.s.offTickets := by
  unfold Ctx.okOn; dsimp only; (repeat' split) <;> simp
@[simp] theorem Ctx.belowLimitOn_offTickets (k : Ticket) : (c.belowLimitOn k).1.s.offTickets = c.s.offTickets := by
  unfold Ctx.belowLimitOn; dsimp only; split <;> simp
@[simp] theorem Ctx.actOnVerdict_offTickets (h : HandOver) (v : HandedVerdict) :
    (c.actOnVerdict h v).1.s.offTickets = c.s.offTickets := by
  unfold Ctx.actOnVerdict; dsimp only; (repeat' split) <;> simp
@[simp] theorem Ctx.handVerdict_offTickets (h : HandOver) (v : HandedVerdict) :
    (c.handVerdict h v).1.s.offTickets = c.s.offTickets := by
  unfold Ctx.handVerdict; dsimp only; split <;> simp
@[simp] theorem Ctx.complain_offTickets (l k : Nat) : (c.complain l k).1.s.offTickets = c.s.offTickets := by
  unfold Ctx.complain; dsimp only; (repeat' split) <;> simp

theorem TicketMove.offTickets (h : TicketMove s t) : t.offTickets = s.offTickets := by
  cases h with
  | lines => rfl
  | verdict c same => subst same; exact Ctx.handVerdict_offTickets _ _
  | complain c same => subst same; exact Ctx.complain_offTickets _ _
  | verifyLine => exact State.setVerifyDue_offTickets _ _
  | dispatch => rfl
  | verify => rfl
  | close => exact State.closeTicket_offTickets _
  | erase => rfl

/-! ## The moves of the buses leave all but accesses, watch records, hazard records and the storm -/

/-- The state without bus table, relays, watch records, hazard records and the storm condition. -/
def State.beyondBuses (s : State) : State :=
  { s.offBus with hazards := { s.hazards with records := [], storm := Condition.initial } }

theorem State.beyondBuses_of_offBus (h : t.offBus = s.offBus) : t.beyondBuses = s.beyondBuses :=
  congrArg (fun u : State => { u with hazards := { u.hazards with records := [], storm := Condition.initial } }) h

theorem BusMove.beyondBuses (h : BusMove s t) : t.beyondBuses = s.beyondBuses := by
  cases h with
  | detachHead => exact State.beyondBuses_of_offBus (State.detachHead_offBus ..)
  | detachSpeech => exact State.beyondBuses_of_offBus (State.detachSpeech_offBus ..)
  | release => exact State.beyondBuses_of_offBus (State.releaseBus_offBus ..)
  | take => exact State.beyondBuses_of_offBus (State.take_offBus ..)
  | guardBusy => exact State.beyondBuses_of_offBus (State.guardBusy_offBus ..)
  | transfer => rfl
  | resume => exact State.beyondBuses_of_offBus (State.resume_offBus ..)
  | attachHead => rfl
  | hazard h b r => exact (State.beyondBuses_of_offBus (State.hazardAction_offBus ..)).trans (rfl : (s.setHazardRec b r).beyondBuses = _)
  | idleLine => exact State.beyondBuses_of_offBus (State.guardIdleLine_offBus ..)
  | connectEnds => exact State.beyondBuses_of_offBus (State.connectEnds_offBus ..)
  | restoreEnds => exact State.beyondBuses_of_offBus (State.restoreEnds_offBus ..)
  | cut => exact State.beyondBuses_of_offBus (State.cutFromMonitor_offBus ..)
  | attachSpeech => rfl
  | watch => rfl
  | hazardRec => rfl
  | storm => rfl

/-! ## The moves of the job table leave all but jobs, sweep and tickets -/

/-- The state without the job table and its counters, the sweep and the ticket table. -/
def State.offJobs (s : State) : State :=
  { s with sched := { Sched.initial with holdLimits := s.sched.holdLimits }, sweep := Sweep.initial
           tickets := { s.tickets with table := [] } }

theorem State.without_offJobs (j : Job) (o : JobOutcome) (id : Nat) : (s.without j o id).offJobs = s.offJobs := by
  unfold State.without State.setVerifyDue
  dsimp only
  (repeat' split) <;> rfl

theorem JobMove.offJobs {F : Prop} (h : JobMove F s t) : t.offJobs = s.offJobs := by
  cases h with
  | upd => rfl
  | keepWatch => rfl
  | counters => rfl
  | remove j o id => exact State.without_offJobs j o id
  | enqueue => rfl
  | sweep => rfl

end Sys2Proof.Machine
end

section
/-! SUPPORT. The law of the job table (R92, R93, R133) as the moves keep it: what it asks of the jobs' faces, and of the steps in
hand; and what each change of the table and of a head keeps of it. -/

namespace Sys2Proof.Machine

variable {F : Prop} {X : Nat → Bool} {s t : State}

/-! ## Faces -/

/-- A job as the law of the table sees it: whose it is, its line, its takeover mark and its state. -/
structure Face where
  id : Nat
  source : JobSource
  line : Nat
  mark : Option Nat
  state : JobState

/-- The job counts for its line (R93). -/
def Face.counted (f : Face) : Bool := f.state != .releasing

def Job.face (j : Job) : Face := ⟨j.id, j.source, j.line, j.takeover, j.state⟩
def State.faces (s : State) : List Face := s.sched.jobs.map Job.face

/-- What no change of a job in the table touches. -/
def Face.key (f : Face) : Nat × JobSource × Nat := (f.id, f.source, f.line)

/-- The jobs that one source may have (R93). -/
def JobSource.limit : JobSource → Nat
  | .desk _ => 4
  | .auto => 2
  | .sweep => 2

/-- What R92 and R93 ask of the jobs but for the table's places and the takeover marks. -/
structure Numbered (fs : List Face) : Prop where
  distinct : (fs.map (·.id)).Nodup
  ids : ∀ f ∈ fs, 1 ≤ f.id ∧ f.id ≤ 255
  counts : ∀ src, (fs.filter fun f => f.source == src).length ≤ src.limit
  oneRoutine : ∀ f ∈ fs, ∀ g ∈ fs, f.line = g.line → f.source.isDesk = false → g.source.isDesk = false → f.id = g.id

/-- Two jobs counted for one line stand only where the mark of one names the other (R93); said but of the jobs in `X`. -/
def Paired (X : Nat → Bool) (fs : List Face) : Prop := ∀ f ∈ fs, ∀ g ∈ fs, X f.id = false → X g.id = false →
  f.line = g.line → f.counted = true → g.counted = true → f.id = g.id ∨ f.mark = some g.id ∨ g.mark = some f.id

/-- Jobs that leave leave no source more than it had. -/
theorem count_of_sublist {fs gs : List Face} (hsub : (gs.map Face.key).Sublist (fs.map Face.key)) (src : JobSource) :
    (gs.filter fun f => f.source == src).length ≤ (fs.filter fun f => f.source == src).length := by
  have hcount (l : List Face) : (l.filter fun f => f.source == src).length =
      ((l.map Face.key).filter fun k => k.2.1 == src).length := by
    rw [List.filter_map, List.length_map]; rfl
  rw [hcount, hcount]
  exact (hsub.filter _).length_le

/-- Jobs that leave, and changes of a mark or of a state, leave the others numbered as they were. -/
theorem Numbered.thin {fs gs : List Face} (h : Numbered fs) (hsub : (gs.map Face.key).Sublist (fs.map Face.key)) : Numbered gs := by
  have old {g : Face} (hg : g ∈ gs) : ∃ f ∈ fs, f.id = g.id ∧ f.source = g.source ∧ f.line = g.line := by
    obtain ⟨f, hf, hk⟩ := List.mem_map.1 (hsub.subset (List.mem_map_of_mem hg))
    simp only [Face.key, Prod.mk.injEq] at hk
    exact ⟨f, hf, hk⟩
  refine ⟨?_, fun g hg => ?_, fun src => ?_, fun f hf g hg hline hfd hgd => ?_⟩
  · have hids := hsub.map Prod.fst
    simp only [List.map_map] at hids
    exact hids.nodup h.distinct
  · obtain ⟨f, hf, hid, -⟩ := old hg
    exact hid ▸ h.ids f hf
  · exact (count_of_sublist hsub src).trans (h.counts src)
  · obtain ⟨f', hf', hid, hsource, hl⟩ := old hf
    obtain ⟨g', hg', hid', hsource', hl'⟩ := old hg
    rw [← hid, ← hid']
    exact h.oneRoutine f' hf' g' hg' (by rw [hl, hl', hline]) (by rw [hsource]; exact hfd) (by rw [hsource']; exact hgd)

/-! ## The law -/

/-- A head's step in hand is that of a MEASURING job with the head attached (R103, R133). -/
def State.StepsLaw (s : State) : Prop := ∀ h st, (s.headRec h).step = some st → (s.headRec h).state = .attached ∧
  ∃ j ∈ s.sched.jobs, j.id = st.job ∧ j.state = .measuring ∧ j.head = some ⟨h, false⟩

/-- The law of the job table, with the concurrency that the sweep's own limit of 2 jobs turns on (R123). The jobs in `X` are left
out of its places and of the pairs of a line: a takeover is made of moves between which the job to be removed still stands (R112). -/
structure JobsOk (X : Nat → Bool) (s : State) : Prop where
  places : ((s.sched.jobs.map (·.id)).filter fun n => !X n).length ≤ 16
  numbered : Numbered s.faces
  paired : Paired X s.faces
  steps : s.StepsLaw
  concurrency : 1 ≤ s.sweep.concurrency ∧ s.sweep.concurrency ≤ 2

theorem State.mem_faces {j : Job} (h : j ∈ s.sched.jobs) : j.face ∈ s.faces := List.mem_map_of_mem h

theorem State.faces_ids (s : State) : s.faces.map (·.id) = s.sched.jobs.map (·.id) := by
  rw [State.faces, List.map_map]; rfl

theorem State.faces_count (s : State) (src : JobSource) : (s.faces.filter fun f => f.source == src).length = s.countOf src := by
  rw [State.faces, List.filter_map, List.length_map]; rfl

/-- No job. -/
def noJob : Nat → Bool := fun _ => false

theorem JobsOk.law (h : JobsOk noJob s) : JobLaw s where
  places := by simpa [noJob] using h.places
  distinct := s.faces_ids ▸ h.numbered.distinct
  ids j hj := h.numbered.ids j.face (State.mem_faces hj)
  ofPosition p := s.faces_count (.desk p) ▸ h.numbered.counts (.desk p)
  ofAuto := s.faces_count .auto ▸ h.numbered.counts .auto
  ofSweep := s.faces_count .sweep ▸ h.numbered.counts .sweep
  oneRoutine j hj k hk := h.numbered.oneRoutine j.face (State.mem_faces hj) k.face (State.mem_faces hk)
  oneForALine j hj k hk := h.paired j.face (State.mem_faces hj) k.face (State.mem_faces hk) rfl rfl
  stepsInHand := h.steps

theorem JobsOk.of_law (h : JobLaw s) (hc : 1 ≤ s.sweep.concurrency ∧ s.sweep.concurrency ≤ 2) : JobsOk noJob s := by
  have face {p : Face → Prop} (hp : ∀ j ∈ s.sched.jobs, p j.face) : ∀ f ∈ s.faces, p f := fun f hf => by
    obtain ⟨j, hj, rfl⟩ := List.mem_map.1 hf
    exact hp j hj
  refine ⟨by simpa [noJob] using h.places, ⟨s.faces_ids ▸ h.distinct, face h.ids, fun src => ?_,
    face fun j hj => face fun k hk => h.oneRoutine j hj k hk⟩,
    face fun j hj => face fun k hk _ _ => h.oneForALine j hj k hk, h.stepsInHand, hc⟩
  rw [s.faces_count]
  cases src with
  | desk p => exact h.ofPosition p
  | auto => exact h.ofAuto
  | sweep => exact h.ofSweep

/-- The table's jobs with the sweep's concurrency and the heads are all that the law looks at. -/
theorem JobsOk.congr (h : JobsOk X s) (jobs : t.sched.jobs = s.sched.jobs) (heads : t.engine.heads = s.engine.heads)
    (concurrency : t.sweep.concurrency = s.sweep.concurrency) : JobsOk X t := by
  have hfaces : t.faces = s.faces := congrArg (List.map Job.face) jobs
  refine ⟨jobs ▸ h.places, hfaces ▸ h.numbered, hfaces ▸ h.paired, ?_, concurrency ▸ h.concurrency⟩
  have hsteps := h.steps
  unfold State.StepsLaw State.headRec at hsteps ⊢
  rw [jobs, heads]
  exact hsteps

/-! ## The job of an id, and its step in hand -/

/-- No step in hand names this job. -/
def State.Stepless (s : State) (id : Nat) : Prop := ∀ h st, (s.headRec h).step = some st → st.job ≠ id

/-- The job counts for its line, and no step in hand names it. -/
def State.AtRest (s : State) (id : Nat) : Prop := (∀ j, s.job? id = some j → j.counted = true) ∧ s.Stepless id

/-- A job in the table is the one its id names. -/
theorem State.job?_of_mem (distinct : (s.sched.jobs.map (·.id)).Nodup) {j : Job} (hj : j ∈ s.sched.jobs) : s.job? j.id = some j := by
  have hfound : (s.job? j.id).isSome := List.find?_isSome.2 ⟨j, hj, by simp⟩
  obtain ⟨k, hk⟩ := Option.isSome_iff_exists.1 hfound
  rw [hk, List.inj_on_of_nodup_map distinct (State.job?_mem hk) hj (State.job?_id hk)]

theorem JobsOk.distinct (h : JobsOk X s) : (s.sched.jobs.map (·.id)).Nodup := s.faces_ids ▸ h.numbered.distinct

theorem JobsOk.job?_of_mem (h : JobsOk X s) {j : Job} (hj : j ∈ s.sched.jobs) : s.job? j.id = some j := State.job?_of_mem h.distinct hj

/-- Whose step is in hand, by the job's id. -/
theorem State.StepsLaw.job? (h : s.StepsLaw) (distinct : (s.sched.jobs.map (·.id)).Nodup) {x : Head} {st : StepInHand}
    (hst : (s.headRec x).step = some st) :
    ∃ j, s.job? st.job = some j ∧ j.state = .measuring ∧ j.head = some ⟨x, false⟩ := by
  obtain ⟨-, j, hj, hid, hstate, hhead⟩ := h x st hst
  exact ⟨j, hid ▸ State.job?_of_mem distinct hj, hstate, hhead⟩

theorem JobsOk.stepless (h : JobsOk X s) {id : Nat} (hid : ∀ j, s.job? id = some j → j.state ≠ .measuring ∨ j.head = none) :
    s.Stepless id := by
  rintro x st hst rfl
  obtain ⟨j, hj, hstate, hhead⟩ := h.steps.job? h.distinct hst
  rcases hid j hj with hno | hno
  · exact hno hstate
  · rw [hno] at hhead; cases hhead

theorem JobsOk.atRest (h : JobsOk X s) {id : Nat} {j : Job} (hj : s.job? id = some j) (counted : j.state ≠ .releasing)
    (still : j.state ≠ .measuring ∨ j.head = none) : s.AtRest id := by
  refine ⟨fun k hk => ?_, h.stepless fun k hk => ?_⟩ <;> obtain rfl : j = k := Option.some.inj (hj.symm.trans hk)
  · simpa [Job.counted] using counted
  · exact still

/-! ## A change of one job -/

/-- The change leaves what the table's numbering looks at, and the takeover mark. -/
def KeepsFace (f : Job → Job) : Prop :=
  ∀ j, (f j).id = j.id ∧ (f j).source = j.source ∧ (f j).line = j.line ∧ (f j).takeover = j.takeover

theorem State.updJob_jobs (s : State) (id : Nat) (f : Job → Job) :
    (s.updJob id f).sched.jobs = s.sched.jobs.map fun j => if j.id = id then f j else j := rfl

theorem State.updJob_ids (id : Nat) (f : Job → Job) (same : ∀ j, (f j).id = j.id) :
    (s.updJob id f).sched.jobs.map (·.id) = s.sched.jobs.map (·.id) := by
  rw [State.updJob_jobs, List.map_map]
  apply List.map_congr_left
  intro j _
  by_cases hj : j.id = id <;> simp [hj, same]

/-- A change of one job leaves the others. -/
theorem State.job?_updJob_other {id n : Nat} (f : Job → Job) (same : ∀ j, (f j).id = j.id) (hn : n ≠ id) :
    (s.updJob id f).job? n = s.job? n := by
  unfold State.job?
  rw [State.updJob_jobs]
  induction s.sched.jobs with
  | nil => rfl
  | cons j js ih =>
    rw [List.map_cons, List.find?_cons, List.find?_cons, ih]
    by_cases hj : j.id = id
    · have hne : (j.id == n) = false := by simpa [hj] using hn.symm
      rw [if_pos hj, same, hne]
    · rw [if_neg hj]

/-- Where a change leaves each job's id, source and line, the table stays numbered. -/
theorem Numbered.updJob (h : Numbered s.faces) (id : Nat) {f : Job → Job}
    (same : ∀ j, (f j).id = j.id ∧ (f j).source = j.source ∧ (f j).line = j.line) : Numbered (s.updJob id f).faces := by
  have hkeys : (s.updJob id f).faces.map Face.key = s.faces.map Face.key := by
    rw [State.faces, State.faces, State.updJob_jobs, List.map_map, List.map_map, List.map_map]
    apply List.map_congr_left
    intro j _
    obtain ⟨hid, hsource, hline⟩ := same j
    by_cases hj : j.id = id <;> simp [hj, Face.key, Job.face, hid, hsource, hline]
  exact h.thin (hkeys ▸ List.Sublist.refl _)

/-- No job that was not counted for its line is so after the change. -/
theorem Paired.updJob (h : Paired X s.faces) {id : Nat} {f : Job → Job} (same : KeepsFace f)
    (counted : ∀ j ∈ s.sched.jobs, j.id = id → (f j).counted = true → j.counted = true) : Paired X (s.updJob id f).faces := by
  have old : ∀ g ∈ (s.updJob id f).faces, ∃ j ∈ s.sched.jobs, j.id = g.id ∧ j.line = g.line ∧ j.takeover = g.mark ∧
      (g.counted = true → j.counted = true) := by
    intro g hg
    obtain ⟨k, hk, rfl⟩ := List.mem_map.1 hg
    obtain ⟨j, hj, rfl⟩ := List.mem_map.1 hk
    refine ⟨j, hj, ?_⟩
    obtain ⟨hid, -, hline, hmark⟩ := same j
    by_cases hjid : j.id = id
    · rw [if_pos hjid]
      exact ⟨hid.symm, hline.symm, hmark.symm, counted j hj hjid⟩
    · rw [if_neg hjid]
      exact ⟨rfl, rfl, rfl, fun hc => hc⟩
  intro f hf g hg hfx hgx hline hfc hgc
  obtain ⟨j, hj, hid, hl, hm, hc⟩ := old f hf
  obtain ⟨k, hk, hid', hl', hm', hc'⟩ := old g hg
  rw [← hid, ← hid', ← hm, ← hm']
  exact h j.face (State.mem_faces hj) k.face (State.mem_faces hk) (by simpa [Job.face, hid] using hfx)
    (by simpa [Job.face, hid'] using hgx) (by simpa [Job.face, hl, hl'] using hline)
    (hc hfc) (hc' hgc)

/-- A change of a job that no step in hand names, or of one that keeps its state and its head. -/
theorem State.StepsLaw.updJob (h : s.StepsLaw) {id : Nat} {f : Job → Job} (same : ∀ j, (f j).id = j.id)
    (still : s.Stepless id ∨ ∀ j ∈ s.sched.jobs, j.id = id → (f j).state = j.state ∧ (f j).head = j.head) :
    (s.updJob id f).StepsLaw := by
  intro x st hst
  obtain ⟨hstate, j, hj, hid, hm, hh⟩ := h x st hst
  refine ⟨hstate, if j.id = id then f j else j, List.mem_map_of_mem (f := fun j => if j.id = id then f j else j) hj, ?_⟩
  by_cases hjid : j.id = id
  · rw [if_pos hjid]
    rcases still with hnone | hsame
    · exact absurd (hid.symm.trans hjid) (hnone x st hst)
    · obtain ⟨hs, hhd⟩ := hsame j hj hjid
      exact ⟨(same j).trans hid, hs.trans hm, hhd.trans hh⟩
  · rw [if_neg hjid]
    exact ⟨hid, hm, hh⟩

theorem JobsOk.updJob (h : JobsOk X s) {id : Nat} {f : Job → Job} (same : KeepsFace f)
    (counted : ∀ j, s.job? id = some j → (f j).counted = true → j.counted = true)
    (still : s.Stepless id ∨ ∀ j, s.job? id = some j → (f j).state = j.state ∧ (f j).head = j.head) :
    JobsOk X (s.updJob id f) where
  places := by rw [State.updJob_ids _ _ fun j => (same j).1]; exact h.places
  numbered := h.numbered.updJob id fun j => ⟨(same j).1, (same j).2.1, (same j).2.2.1⟩
  paired := h.paired.updJob same fun j hj hid => counted j (hid ▸ h.job?_of_mem hj)
  steps := h.steps.updJob (fun j => (same j).1) (still.imp (fun hn => hn) fun hs j hj hid => hs j (hid ▸ h.job?_of_mem hj))
  concurrency := h.concurrency

theorem State.AtRest.congr {id : Nat} (h : s.AtRest id) (jobs : t.sched.jobs = s.sched.jobs)
    (heads : t.engine.heads = s.engine.heads) : t.AtRest id := by
  unfold State.AtRest State.Stepless State.job? State.headRec at h ⊢
  rw [jobs, heads]
  exact h

/-- A job at rest stays so while it counts for its line. -/
theorem State.AtRest.updJob {id : Nat} (h : s.AtRest id) {f : Job → Job} (same : ∀ j, (f j).id = j.id)
    (counted : ∀ j, j.counted = true → (f j).counted = true) : (s.updJob id f).AtRest id := by
  refine ⟨fun k hk => ?_, h.2⟩
  obtain ⟨m, hm, rfl⟩ := Option.map_eq_some_iff.1 ((State.job?_updJob_same same).symm.trans hk)
  exact counted m (h.1 m hm)

/-! ## A removal -/

/-- These jobs and one more. -/
def andJob (X : Nat → Bool) (x : Nat) : Nat → Bool := fun n => X n || n == x

/-- What holds but for some jobs holds but for more. -/
theorem JobsOk.and (h : JobsOk X s) (x : Nat) : JobsOk (andJob X x) s where
  places := by
    refine (List.Sublist.length_le ?_).trans h.places
    refine List.monotone_filter_right _ fun n hn => ?_
    simp only [andJob, Bool.not_or, Bool.and_eq_true] at hn
    exact hn.1
  numbered := h.numbered
  paired f hf g hg hfx hgx := by
    simp only [andJob, Bool.or_eq_false_iff] at hfx hgx
    exact h.paired f hf g hg hfx.1 hgx.1
  steps := h.steps
  concurrency := h.concurrency

theorem State.without_jobs (s : State) (j : Job) (o : JobOutcome) (id : Nat) :
    (s.without j o id).sched.jobs = (dropMarks id (s.sched.jobs.filter fun j => j.id != id)).1 := by
  unfold State.without State.setVerifyDue
  dsimp only
  (repeat' split) <;> rfl

theorem State.without_heads (s : State) (j : Job) (o : JobOutcome) (id : Nat) :
    (s.without j o id).engine.heads = s.engine.heads := by
  unfold State.without State.setVerifyDue
  dsimp only
  (repeat' split) <;> rfl

theorem State.without_concurrency (s : State) (j : Job) (o : JobOutcome) (id : Nat) :
    (s.without j o id).sweep.concurrency = s.sweep.concurrency := by
  refine .trans ?_ (Sweep.jobRemoved_concurrency s.sweep j o)
  unfold State.without State.setVerifyDue
  dsimp only
  (repeat' split) <;> rfl

/-- A job that is left after a removal, as it was before: its mark is kept unless it named the job that is gone. -/
theorem State.without_old {j : Job} {o : JobOutcome} {id : Nat} {k : Job} (hk : k ∈ (s.without j o id).sched.jobs) :
    ∃ m ∈ s.sched.jobs, m.id ≠ id ∧ m.id = k.id ∧ m.source = k.source ∧ m.line = k.line ∧ m.state = k.state ∧
      (m.takeover ≠ some id → k.takeover = m.takeover) := by
  rw [State.without_jobs] at hk
  obtain ⟨m, hm, rfl⟩ := List.mem_map.1 hk
  obtain ⟨hm, hid⟩ := List.mem_filter.1 hm
  exact ⟨m, hm, by simpa using hid, rfl, rfl, rfl, rfl, fun hne => if_neg hne⟩

/-- A job that a removal leaves. -/
theorem State.without_left {m : Job} {id : Nat} (hm : m ∈ s.sched.jobs) (hid : m.id ≠ id) (j : Job) (o : JobOutcome) :
    ∃ k ∈ (s.without j o id).sched.jobs, k.id = m.id ∧ k.state = m.state ∧ k.head = m.head := by
  rw [State.without_jobs]
  exact ⟨_, List.mem_map_of_mem (List.mem_filter.2 ⟨hm, by simpa using hid⟩), rfl, rfl, rfl⟩

theorem State.without_ids (s : State) (j : Job) (o : JobOutcome) (id : Nat) :
    (s.without j o id).sched.jobs.map (·.id) = (s.sched.jobs.map (·.id)).filter (· != id) := by
  rw [State.without_jobs, dropMarks, List.map_map, List.filter_map]
  rfl

theorem State.without_keys (s : State) (j : Job) (o : JobOutcome) (id : Nat) :
    ((s.without j o id).faces.map Face.key).Sublist (s.faces.map Face.key) := by
  have hkeys : (s.without j o id).faces.map Face.key = (s.sched.jobs.filter fun j => j.id != id).map fun j => j.face.key := by
    rw [State.faces, State.without_jobs, dropMarks, List.map_map, List.map_map]
    rfl
  rw [hkeys, State.faces, List.map_map]
  exact List.filter_sublist.map _

/-- A removal makes the law good where only the job that leaves kept it from standing. -/
theorem JobsOk.without {id : Nat} (h : JobsOk (andJob X id) s) (still : s.Stepless id) (j : Job) (o : JobOutcome) :
    JobsOk X (s.without j o id) where
  places := by
    rw [State.without_ids, List.filter_filter]
    refine le_trans (le_of_eq (congrArg List.length (List.filter_congr fun n _ => ?_))) h.places
    simp [andJob, bne]
  numbered := h.numbered.thin (s.without_keys j o id)
  paired := by
    intro f hf g hg hfx hgx hline hfc hgc
    obtain ⟨k, hk, rfl⟩ := List.mem_map.1 hf
    obtain ⟨k', hk', rfl⟩ := List.mem_map.1 hg
    obtain ⟨m, hm, hne, hid, -, hl, hs, hmark⟩ := State.without_old hk
    obtain ⟨m', hm', hne', hid', -, hl', hs', hmark'⟩ := State.without_old hk'
    have hpair := h.paired m.face (State.mem_faces hm) m'.face (State.mem_faces hm')
      (by simpa [Job.face, andJob, ← hid, hne] using hfx) (by simpa [Job.face, andJob, ← hid', hne'] using hgx)
      (by simpa [Job.face, hl, hl'] using hline) (by simpa [Job.face, Face.counted, hs] using hfc)
      (by simpa [Job.face, Face.counted, hs'] using hgc)
    simp only [Job.face] at hpair ⊢
    rw [← hid, ← hid']
    refine hpair.imp (fun h => h) (Or.imp (fun h => ?_) fun h => ?_)
    · rw [hmark fun hx => hne' (Option.some.inj (h.symm.trans hx)), h]
    · rw [hmark' fun hx => hne (Option.some.inj (h.symm.trans hx)), h]
  steps := by
    intro x st hst
    have hrec : (s.without j o id).headRec x = s.headRec x := by unfold State.headRec; rw [State.without_heads]
    rw [hrec] at hst ⊢
    obtain ⟨hstate, k, hk, hid, hm, hh⟩ := h.steps x st hst
    obtain ⟨m, hmem, hi, hs, hd⟩ := State.without_left hk (hid ▸ still x st hst) j o
    exact ⟨hstate, m, hmem, hi.trans hid, hs.trans hm, hd.trans hh⟩
  concurrency := by rw [State.without_concurrency]; exact h.concurrency

/-! ## A job that joins -/

theorem Numbered.enqueue (h : Numbered s.faces) {q : JobRequest} (places : s.sched.jobs.length ≤ 16)
    (count : s.countOf q.source < q.source.limit)
    (routine : q.source.isDesk = false → ∀ j ∈ s.sched.jobs, j.line = q.line → j.source.isDesk = true) :
    Numbered (s.enqueue q).faces := by
  have hfaces : (s.enqueue q).faces = s.faces ++ [⟨s.nextId, q.source, q.line, q.takeover, .queued⟩] := by
    rw [State.faces, State.enqueue, List.map_append]; rfl
  obtain ⟨-, -, hfree, -⟩ := State.nextId_spec places
  have face {p : Face → Prop} (hp : ∀ j ∈ s.sched.jobs, p j.face) : ∀ f ∈ s.faces, p f := fun f hf => by
    obtain ⟨j, hj, rfl⟩ := List.mem_map.1 hf
    exact hp j hj
  rw [hfaces]
  refine ⟨?_, ?_, fun src => ?_, ?_⟩
  · rw [List.map_append, List.nodup_append]
    refine ⟨h.distinct, by simp, fun a ha b hb => ?_⟩
    obtain rfl : b = s.nextId := by simpa using hb
    rintro rfl
    exact hfree (s.faces_ids ▸ ha)
  · intro f hf
    rcases List.mem_append.1 hf with hf | hf
    · exact h.ids f hf
    · obtain rfl := List.mem_singleton.1 hf
      exact State.nextId_range places
  · have hold := h.counts src
    rw [List.filter_append, List.length_append]
    rw [s.faces_count] at hold ⊢
    by_cases hsrc : q.source = src
    · subst hsrc
      simp only [BEq.rfl, List.filter_cons_of_pos, List.filter_nil, List.length_singleton]
      omega
    · simpa [hsrc] using hold
  · intro f hf g hg hline hfd hgd
    rcases List.mem_append.1 hf with hf | hf <;> rcases List.mem_append.1 hg with hg | hg
    · exact h.oneRoutine f hf g hg hline hfd hgd
    · obtain rfl := List.mem_singleton.1 hg
      obtain ⟨j, hj, rfl⟩ := List.mem_map.1 hf
      have := routine hgd j hj hline
      simp only [Job.face] at hfd
      rw [hfd] at this; cases this
    · obtain rfl := List.mem_singleton.1 hf
      obtain ⟨j, hj, rfl⟩ := List.mem_map.1 hg
      have := routine hfd j hj hline.symm
      simp only [Job.face] at hgd
      rw [hgd] at this; cases this
    · rw [List.mem_singleton.1 hf, List.mem_singleton.1 hg]

theorem State.StepsLaw.enqueue (h : s.StepsLaw) (q : JobRequest) : (s.enqueue q).StepsLaw := fun x st hst => by
  obtain ⟨hstate, j, hj, hrest⟩ := h x st hst
  exact ⟨hstate, j, List.mem_append_left _ hj, hrest⟩

/-- A job joins, in a table with a place for it, where each job that counts for its line is one that its mark names or that is
left out. -/
theorem JobsOk.enqueue (h : JobsOk X s) {q : JobRequest} (places : s.sched.jobs.length ≤ 16)
    (place : ((s.sched.jobs.map (·.id)).filter fun n => !X n).length < 16)
    (count : s.countOf q.source < q.source.limit)
    (routine : q.source.isDesk = false → ∀ j ∈ s.sched.jobs, j.line = q.line → j.source.isDesk = true)
    (line : ∀ j ∈ s.sched.jobs, X j.id = false → j.line = q.line → j.counted = true → q.takeover = some j.id) :
    JobsOk X (s.enqueue q) where
  places := by
    have hids : (s.enqueue q).sched.jobs.map (·.id) = s.sched.jobs.map (·.id) ++ [s.nextId] := by
      rw [State.enqueue, List.map_append]; rfl
    have hone := List.length_filter_le (fun n => !X n) [s.nextId]
    rw [hids, List.filter_append, List.length_append]
    rw [List.length_singleton] at hone
    omega
  numbered := h.numbered.enqueue places count routine
  paired := by
    have old {k : Job} (hk : k ∈ (s.enqueue q).sched.jobs) :
        k ∈ s.sched.jobs ∨ k = q.job s.nextId s.sched.nextQueue s.link.time := by
      simpa [State.enqueue] using hk
    intro f hf g hg hfx hgx hline hfc hgc
    obtain ⟨j, hj, rfl⟩ := List.mem_map.1 hf
    obtain ⟨k, hk, rfl⟩ := List.mem_map.1 hg
    rcases old hj with hj | rfl <;> rcases old hk with hk | rfl
    · exact h.paired _ (State.mem_faces hj) _ (State.mem_faces hk) hfx hgx hline hfc hgc
    · exact .inr (.inr (line j hj hfx hline hfc))
    · exact .inr (.inl (line k hk hgx hline.symm hgc))
    · exact .inl rfl
  steps := h.steps.enqueue q
  concurrency := h.concurrency

/-- A change of what no face shows. -/
theorem State.updJob_faces (s : State) (id : Nat) (f : Job → Job) (same : ∀ j, (f j).face = j.face) :
    (s.updJob id f).faces = s.faces := by
  rw [State.faces, State.faces, State.updJob_jobs, List.map_map]
  apply List.map_congr_left
  intro j _
  by_cases hj : j.id = id <;> simp [hj, same]

/-- A job's takeover mark is cleared, where it names no other job than one that is left out. -/
theorem JobsOk.clearMark {id x : Nat} {f : Job → Job} (h : JobsOk (andJob X x) s)
    (same : ∀ j, (f j).id = j.id ∧ (f j).source = j.source ∧ (f j).line = j.line ∧ (f j).state = j.state ∧ (f j).head = j.head)
    (mark : ∀ j, s.job? id = some j → j.takeover = none ∨ j.takeover = some x) : JobsOk (andJob X x) (s.updJob id f) where
  places := by rw [State.updJob_ids _ _ fun j => (same j).1]; exact h.places
  numbered := h.numbered.updJob id fun j => ⟨(same j).1, (same j).2.1, (same j).2.2.1⟩
  paired := by
    have old : ∀ g ∈ (s.updJob id f).faces, ∃ j ∈ s.sched.jobs, j.id = g.id ∧ j.line = g.line ∧ j.state = g.state ∧
        (g.mark = j.takeover ∨ j.takeover = none ∨ j.takeover = some x) := by
      intro g hg
      obtain ⟨k, hk, rfl⟩ := List.mem_map.1 hg
      obtain ⟨j, hj, rfl⟩ := List.mem_map.1 hk
      refine ⟨j, hj, ?_⟩
      obtain ⟨hid, -, hline, hstate, -⟩ := same j
      by_cases hjid : j.id = id
      · rw [if_pos hjid]
        exact ⟨hid.symm, hline.symm, hstate.symm, .inr (mark j (hjid ▸ h.job?_of_mem hj))⟩
      · rw [if_neg hjid]
        exact ⟨rfl, rfl, rfl, .inl rfl⟩
    intro a ha b hb hax hbx hline hac hbc
    obtain ⟨j, hj, hid, hl, hs, hm⟩ := old a ha
    obtain ⟨k, hk, hid', hl', hs', hm'⟩ := old b hb
    have notx {n : Nat} (hn : andJob X x n = false) : n ≠ x := by
      simp only [andJob, Bool.or_eq_false_iff, beq_eq_false_iff_ne] at hn
      exact hn.2
    have kept {j : Job} {a : Face} {n : Nat} (hm : a.mark = j.takeover ∨ j.takeover = none ∨ j.takeover = some x)
        (hn : andJob X x n = false) (h : j.takeover = some n) : a.mark = some n := by
      rcases hm with hm | hm | hm
      · exact hm.trans h
      · rw [hm] at h; cases h
      · exact absurd (Option.some.inj (h.symm.trans hm)) (notx hn)
    have hpair := h.paired j.face (State.mem_faces hj) k.face (State.mem_faces hk) (by simpa [Job.face, hid] using hax)
      (by simpa [Job.face, hid'] using hbx) (by simpa [Job.face, hl, hl'] using hline) (by simpa [Face.counted, Job.face, hs] using hac)
      (by simpa [Face.counted, Job.face, hs'] using hbc)
    simp only [Job.face, hid, hid'] at hpair
    exact hpair.imp (fun h => h) (Or.imp (kept hm hbx) (kept hm' hax))
  steps := h.steps.updJob (fun j => (same j).1) (.inr fun j _ _ => ⟨(same j).2.2.2.1, (same j).2.2.2.2⟩)
  concurrency := h.concurrency

/-! ## A change of a head -/

theorem State.StepsLaw.setHeadRec (h : s.StepsLaw) {x : Head} {r : HeadRecord}
    (hr : ∀ st, r.step = some st → r.state = .attached ∧
      ∃ j ∈ s.sched.jobs, j.id = st.job ∧ j.state = .measuring ∧ j.head = some ⟨x, false⟩) : (s.setHeadRec x r).StepsLaw := by
  intro y st hst
  rw [State.setHeadRec_headRec] at hst ⊢
  split at hst
  next heq =>
    subst heq
    rw [if_pos rfl]
    exact hr st hst
  next hne =>
    rw [if_neg hne]
    exact h y st hst

theorem JobsOk.withSteps (h : JobsOk X s) (jobs : t.sched.jobs = s.sched.jobs) (concurrency : t.sweep.concurrency = s.sweep.concurrency)
    (steps : t.StepsLaw) : JobsOk X t := by
  have hfaces : t.faces = s.faces := congrArg (List.map Job.face) jobs
  exact ⟨jobs ▸ h.places, hfaces ▸ h.numbered, hfaces ▸ h.paired, steps, concurrency ▸ h.concurrency⟩

theorem JobsOk.setHeadRec (h : JobsOk X s) {x : Head} {r : HeadRecord}
    (hr : ∀ st, r.step = some st → r.state = .attached ∧
      ∃ j ∈ s.sched.jobs, j.id = st.job ∧ j.state = .measuring ∧ j.head = some ⟨x, false⟩) : JobsOk X (s.setHeadRec x r) :=
  h.withSteps rfl rfl (h.steps.setHeadRec hr)

end Sys2Proof.Machine
end

section
/-! SUPPORT. Moves that keep the law of the job table: any number of moves, from a state of that law to one of it. -/

namespace Sys2Proof.Machine

/-- Any number of moves, which together keep the law of the job table where `F` holds. Singly they need not: a takeover first passes
the bus on, and then removes the job that held it (R112). -/
structure Moves (F : Prop) (s t : State) : Prop where
  raw : RawMoves F s t
  jobs : F → ∀ {X}, JobsOk X s → JobsOk X t

variable {F : Prop} {X : Nat → Bool} {s t u : State}

/-! ## The moves that look at no job and no head -/

theorem BusMove.jobs (h : BusMove s t) (ok : JobsOk X s) : JobsOk X t :=
  ok.congr (congrArg (fun u : State => u.sched.jobs) h.beyondBuses : t.beyondBuses.sched.jobs = _)
    (congrArg (fun u : State => u.engine.heads) h.beyondBuses : t.beyondBuses.engine.heads = _)
    (congrArg (fun u : State => u.sweep.concurrency) h.beyondBuses : t.beyondBuses.sweep.concurrency = _)

theorem BusMove.atRest (h : BusMove s t) {id : Nat} (rest : s.AtRest id) : t.AtRest id :=
  rest.congr (congrArg (fun u : State => u.sched.jobs) h.beyondBuses : t.beyondBuses.sched.jobs = _)
    (congrArg (fun u : State => u.engine.heads) h.beyondBuses : t.beyondBuses.engine.heads = _)

theorem TicketMove.jobs (h : TicketMove s t) (ok : JobsOk X s) : JobsOk X t :=
  ok.congr (congrArg (fun u : State => u.sched.jobs) h.offTickets : t.offTickets.sched.jobs = _)
    (congrArg (fun u : State => u.engine.heads) h.offTickets : t.offTickets.engine.heads = _)
    (congrArg (fun u : State => u.sweep.concurrency) h.offTickets : t.offTickets.sweep.concurrency = _)

theorem SettingMove.jobs (h : SettingMove s t) (ok : JobsOk X s) : JobsOk X t := by
  cases h with
  | hazard h => cases h <;> exact ok.congr rfl rfl rfl
  | _ => exact ok.congr rfl rfl rfl

/-- A table without jobs, and heads at their reset values. -/
theorem JobsOk.of_reset (jobs : t.sched.jobs = []) (heads : t.engine.heads = [])
    (concurrency : t.sweep.concurrency = Sweep.initial.concurrency) : JobsOk X t := by
  refine ⟨by simp [jobs], ?_, ?_, fun h st hst => ?_, by rw [concurrency]; decide⟩
  · have hnone : t.faces = [] := by rw [State.faces, jobs]; rfl
    rw [hnone]
    exact ⟨.nil, by simp, by simp, by simp⟩
  · intro f hf
    rw [State.faces, jobs] at hf
    cases hf
  · unfold State.headRec at hst
    rw [heads] at hst
    cases hst

theorem ResetMove.jobs (h : ResetMove s t) (ok : JobsOk X s) : JobsOk X t := by
  cases h with
  | cleared => exact .of_reset rfl rfl rfl
  | ends => exact ok.congr rfl rfl rfl
  | checkMarker =>
    unfold State.checkMarker
    dsimp only
    (repeat' split) <;> exact ok.congr rfl rfl rfl
  | started => exact ok.congr rfl rfl rfl
  | dropped d line g => cases g <;> exact ok.congr rfl rfl rfl
  | supplyRises => exact ok.congr rfl rfl rfl

namespace Moves

theorem nothing (s : State) : Moves F s s := ⟨.refl, fun _ _ h => h⟩
theorem trans (h : Moves F s t) (k : Moves F t u) : Moves F s u := ⟨h.raw.trans k.raw, fun hf _ ok => k.jobs hf (h.jobs hf ok)⟩
/-- Moves from a state of which more is known than that it meets the law, because the state before it does. -/
theorem andThen (h : Moves F s t) (raw : RawMoves F t u) (jobs : F → ∀ {X}, JobsOk X s → JobsOk X t → JobsOk X u) :
    Moves F s u := ⟨h.raw.trans raw, fun hf _ ok => jobs hf ok (h.jobs hf ok)⟩
theorem one (h : Move F s t) (jobs : ∀ {X}, JobsOk X s → JobsOk X t) : Moves F s t := ⟨.single h, fun _ => jobs⟩
theorem bus (h : BusMove s t) : Moves F s t := one (.bus h) h.jobs
theorem ticket (h : TicketMove s t) : Moves F s t := one (.ticket h) h.jobs
theorem setting (h : SettingMove s t) : Moves F s t := one (.setting h) h.jobs
theorem reset (h : ResetMove s t) : Moves F s t := one (.reset h) h.jobs
theorem passive (s : State) (q : List Instr) (m : Moment) (ms : List PortMessage) (l : Link) (p : Pins)
    (supply : p.supplyGood = s.pins.supplyGood) : Moves F s { s with pending := q, now := m, port := ms, link := l, pins := p } :=
  one (.passive q m ms l p supply) fun ok => ok.congr rfl rfl rfl
theorem counters (s : State) (start wait : Nat) :
    Moves F s { s with sched := { s.sched with nextStart := start, nextWait := wait } } :=
  one (.job (.counters start wait)) fun ok => ok.congr rfl rfl rfl
theorem sweep {w : Sweep} (h : SweepKept s w) : Moves F s (s.setSweep w) :=
  one (.job (.sweep w h)) fun ok => ⟨ok.places, ok.numbered, ok.paired, ok.steps, h.concurrency ok.concurrency⟩

/-- A law that every move keeps is kept by any number of moves. -/
theorem keep {P : State → Prop} (hP : ∀ s t, Move F s t → P s → P t) (h : Moves F s t) (hs : P s) : P t := h.raw.keep hP hs

/-! ## The moves of heads -/

/-- A head's record is written without a step. -/
theorem setHeadRec (s : State) (h : Head) (r : HeadRecord) (still : r.step = none) : Moves F s (s.setHeadRec h r) :=
  one (.heads _) fun ok => ok.setHeadRec fun st hst => by rw [still] at hst; cases hst

/-- A head's record is written with its step, if it has one, at the job that MEASURES with it. -/
theorem setStep (s : State) (h : Head) (r : HeadRecord) (attached : ∀ {X}, JobsOk X s → ∀ st, r.step = some st → r.state = .attached ∧
    ∃ j ∈ s.sched.jobs, j.id = st.job ∧ j.state = .measuring ∧ j.head = some ⟨h, false⟩) : Moves F s (s.setHeadRec h r) :=
  one (.heads _) fun ok => ok.setHeadRec (attached ok)

/-- A head's record is written with its state and the job of its step as they were. -/
theorem keepStep (s : State) (h : Head) (r : HeadRecord) (state : r.state = (s.headRec h).state)
    (step : r.step.map (·.job) = (s.headRec h).step.map (·.job)) : Moves F s (s.setHeadRec h r) :=
  setStep s h r fun ok st hst => by
    obtain ⟨old, hold, hjob⟩ := Option.map_eq_some_iff.1 (step.symm.trans (congrArg (Option.map (·.job)) hst))
    obtain ⟨hstate, hj⟩ := ok.steps h old hold
    rw [show old.job = st.job from hjob] at hj
    exact ⟨state.trans hstate, hj⟩

/-! ## The moves of jobs -/

/-- A job is changed but for what the law looks at. -/
theorem updJob (s : State) (id : Nat) (f : Job → Job)
    (same : ∀ j, (f j).id = j.id ∧ (f j).line = j.line ∧ (f j).watch = j.watch := by intro j; exact ⟨rfl, rfl, rfl⟩)
    (face : KeepsFace f := by intro j; exact ⟨rfl, rfl, rfl, rfl⟩)
    (still : ∀ j, (f j).state = j.state ∧ (f j).head = j.head := by intro j; exact ⟨rfl, rfl⟩) : Moves F s (s.updJob id f) :=
  one (.job (.upd id f same)) fun ok => ok.updJob face
    (fun j _ hc => by rw [Job.counted, (still j).1] at hc; exact hc) (.inr fun j _ => still j)

/-- A job that no step in hand names is changed in its state or its head. -/
theorem updJobState (s : State) (id : Nat) (f : Job → Job) (still : ∀ {X}, JobsOk X s → s.Stepless id)
    (counted : ∀ {X}, JobsOk X s → ∀ j, s.job? id = some j → (f j).counted = true → j.counted = true)
    (same : ∀ j, (f j).id = j.id ∧ (f j).line = j.line ∧ (f j).watch = j.watch := by intro j; exact ⟨rfl, rfl, rfl⟩)
    (face : KeepsFace f := by intro j; exact ⟨rfl, rfl, rfl, rfl⟩) : Moves F s (s.updJob id f) :=
  one (.job (.upd id f same)) fun ok => ok.updJob face (counted ok) (.inl (still ok))

/-- A job at rest is changed in its state or its head. -/
theorem updJobAtRest (s : State) (id : Nat) (f : Job → Job) (rest : ∀ {X}, JobsOk X s → s.AtRest id)
    (same : ∀ j, (f j).id = j.id ∧ (f j).line = j.line ∧ (f j).watch = j.watch := by intro j; exact ⟨rfl, rfl, rfl⟩)
    (face : KeepsFace f := by intro j; exact ⟨rfl, rfl, rfl, rfl⟩) : Moves F s (s.updJob id f) :=
  updJobState s id f (fun ok => (rest ok).2) (fun ok j hj _ => (rest ok).1 j hj) same face

theorem keepWatch (s : State) (id : Nat) (w : WatchSettings) (known : s.knownExponent w.n) : Moves F s (s.keepWatch id w) :=
  one (.job (.keepWatch id w known)) fun ok => ok.updJob (fun _ => ⟨rfl, rfl, rfl, rfl⟩) (fun _ _ hc => hc)
    (.inr fun _ _ => ⟨rfl, rfl⟩)

/-- A job that no step in hand names leaves the table. -/
theorem remove (s : State) (j : Job) (o : JobOutcome) (id : Nat) (some : s.sched.jobs ≠ []) (still : ∀ {X}, JobsOk X s → s.Stepless id) :
    Moves F s (s.without j o id) :=
  one (.job (.remove j o id some)) fun ok =>
    (ok.and id).without (still ok) j o

theorem reach (s : State) (m : Moment) : Moves F s (s.reach m) := passive s s.pending (max s.now m) s.port s.link s.pins rfl
theorem rawUpdJob (s : State) (id : Nat) (f : Job → Job)
    (same : ∀ j, (f j).id = j.id ∧ (f j).line = j.line ∧ (f j).watch = j.watch := by intro j; exact ⟨rfl, rfl, rfl⟩) :
    RawMoves F s (s.updJob id f) := .single (.job (.upd id f same))
theorem send (c : Ctx) (m : PortMessage) : Moves F c.s (c.send m).s :=
  passive c.s c.s.pending c.s.now (c.s.port ++ [m]) c.s.link c.s.pins rfl

end Moves

end Sys2Proof.Machine
end

section
/-! SUPPORT. Each shared operation of an event is made of moves: the sweep's part, the heads, removal and release, the rise of
pending, and the entry to the waiting states. -/

namespace Sys2Proof.Machine

variable {F : Prop}

/-! ## The revisit list (R129) -/

theorem RevisitKept.refl (l : List RevisitEntry) : RevisitKept l l := fun h k => ⟨h, k⟩
theorem RevisitKept.of_sublist {l k : List RevisitEntry} (h : k.Sublist l) : RevisitKept l k := fun hn hl =>
  ⟨(h.map _).nodup hn, h.length_le.trans hl⟩
theorem RevisitKept.filter (l : List RevisitEntry) (p : RevisitEntry → Bool) : RevisitKept l (l.filter p) :=
  .of_sublist List.filter_sublist

/-- An entry written over the one of its line. -/
theorem RevisitKept.replace (l : List RevisitEntry) (line : Nat) (x : RevisitEntry) (hx : x.line = line) :
    RevisitKept l (l.map fun e => if e.line = line then x else e) := by
  have hlines : (l.map fun e => if e.line = line then x else e).map (·.line) = l.map (·.line) := by
    rw [List.map_map]
    apply List.map_congr_left
    intro e _
    by_cases h : e.line = line <;> simp [h, hx]
  intro hn hl
  rw [hlines, List.length_map]
  exact ⟨hn, hl⟩

/-- An entry for a line that has none joins behind, in a list with room. -/
theorem RevisitKept.append {l k : List RevisitEntry} (h : k.Sublist l) (x : RevisitEntry) (hnew : ∀ e ∈ l, e.line ≠ x.line)
    (hroom : l.length < 16 ∨ k.length + 1 ≤ l.length) : RevisitKept l (k ++ [x]) := by
  intro hn hl
  obtain ⟨hk, hkl⟩ := RevisitKept.of_sublist h hn hl
  have hlen := h.length_le
  refine ⟨?_, by simp only [List.length_append, List.length_singleton]; omega⟩
  rw [List.map_append, List.nodup_append]
  refine ⟨hk, by simp, ?_⟩
  intro a ha b hb
  obtain ⟨e, he, rfl⟩ := List.mem_map.1 ha
  obtain rfl : b = x.line := by simpa using hb
  exact hnew e (h.subset he)

theorem SweepKept.of {s : State} {w : Sweep} (revisit : RevisitKept s.sweep.revisit w.revisit) (pace : w.pace = s.sweep.pace)
    (concurrency : w.concurrency = s.sweep.concurrency) (stopped : s.sweep.state = .stopped → w.state = .stopped) :
    SweepKept s w :=
  ⟨revisit, fun h => by rw [pace]; exact h, fun h => by rw [concurrency]; exact h, fun _ => stopped⟩

theorem Ctx.dropUntestable_moves (c : Ctx) (l : Nat) (r : RevisitReason) (n : Nat) : Moves F c.s (c.dropUntestable l r n).s :=
  .sweep (.of (.filter _ _) rfl rfl id)

theorem Ctx.handOver_moves (c : Ctx) (k l : Nat) (r : RevisitReason) : Moves F c.s (c.handOver k l r).s := by
  unfold Ctx.handOver
  extract_lets w due
  split
  · extract_lets n
    split
    · exact .sweep (.of (.replace _ _ _ rfl) rfl rfl id)
    · exact c.dropUntestable_moves _ _ _
  next hfind =>
  have hnew : ∀ e ∈ c.s.sweep.revisit, e.line ≠ l := by simpa using hfind
  split
  · split
    · next e rest hlist =>
      split
      · refine .sweep (.of (.append ?_ _ hnew (.inr ?_)) rfl rfl id) <;> rw [show c.s.sweep.revisit = e :: rest from hlist]
        · exact List.sublist_cons_self _ _
        · rfl
      · next hroom =>
        exact .sweep (.of (.append (List.Sublist.refl _) _ hnew (.inl (not_le.1 hroom))) rfl rfl id)
    · next hlist =>
      have hempty : c.s.sweep.revisit = [] := hlist
      exact .sweep (.of (fun _ _ => ⟨by simp, by simp⟩) rfl rfl id)
  · exact c.dropUntestable_moves _ _ _

theorem Ctx.handOverJob_moves (c : Ctx) (j : Job) (r : RevisitReason) : Moves F c.s (c.handOverJob j r).s := by
  unfold Ctx.handOverJob
  split
  · exact c.handOver_moves _ _ _
  · exact .nothing _

theorem Sweep.jobRemoved_kept (s : State) (j : Job) (o : JobOutcome) : SweepKept s (s.sweep.jobRemoved j o) := by
  unfold Sweep.jobRemoved
  split
  · dsimp only
    split
    · exact .of (.filter _ _) rfl rfl id
    · exact .of (.refl _) rfl rfl id
  · exact .of (.refl _) rfl rfl id

/-! ## Heads (R136, R148) -/

theorem State.freeHead_moves (s : State) (h : Head) : Moves F s (s.freeHead h) := by
  unfold State.freeHead
  dsimp only
  split
  · exact .setHeadRec _ _ _ rfl
  · exact .nothing _

/-- A head after it is freed has no step in hand (R133). -/
theorem State.freeHead_still (s : State) (h : Head) : ((s.freeHead h).headRec h).step = none ∨
    ((s.freeHead h).headRec h).state ≠ .attached := by
  unfold State.freeHead
  dsimp only
  split
  · exact .inl (by rw [State.setHeadRec_headRec_same]; rfl)
  next hstate => exact .inr fun h => hstate (.inl h)

theorem State.freeHead_sched (s : State) (h : Head) : (s.freeHead h).sched = s.sched := by
  unfold State.freeHead; dsimp only; split <;> rfl

/-- A job whose head has no step in hand has none (R133). -/
theorem JobsOk.stepless_of_head {X : Nat → Bool} {s : State} (ok : JobsOk X s) {id : Nat} {j : Job} (hj : s.job? id = some j)
    (free : ∀ jh, j.head = some jh → (s.headRec jh.head).step = none ∨ (s.headRec jh.head).state ≠ .attached) : s.Stepless id := by
  rintro x st hst rfl
  obtain ⟨k, hk, -, hhead⟩ := ok.steps.job? ok.distinct hst
  obtain rfl : j = k := Option.some.inj (hj.symm.trans hk)
  rcases free _ hhead with hnone | hstate
  · rw [hst] at hnone; cases hnone
  · exact hstate (ok.steps x st hst).1

theorem Ctx.freeJobHead_moves (c : Ctx) (id : Nat) : Moves F c.s (c.freeJobHead id).s := by
  unfold Ctx.freeJobHead
  split
  · exact .nothing _
  next j hj =>
  split
  · exact .nothing _
  next jh hjh =>
  have freed (s : State) (hs : s.sched = c.s.sched) :
      Moves F s ((s.freeHead jh.head).updJob id fun j => { j with head := none }) := by
    have hjob : (s.freeHead jh.head).job? id = some j := by
      unfold State.job? at hj ⊢
      rw [State.freeHead_sched, hs]
      exact hj
    refine (s.freeHead_moves _).trans (.updJobState _ _ _ (fun ok => ok.stepless_of_head hjob fun k hk => ?_) fun _ _ _ hc => hc)
    obtain rfl : jh = k := Option.some.inj (hjh.symm.trans hk)
    exact s.freeHead_still _
  show Moves F c.s (((match j.bus with | some b => c.s.detachHead b | none => c.s).freeHead jh.head).updJob id _)
  cases j.bus with
  | none => exact freed _ rfl
  | some b => exact (Moves.bus (.detachHead b)).trans (freed _ (State.sched_of_offBus (c.s.detachHead_offBus b)))

theorem Ctx.abortEntered_moves (c : Ctx) (id : Nat) : Moves F c.s (c.abortEntered id).s := by
  unfold Ctx.abortEntered
  split
  · exact .nothing _
  split
  · exact .nothing _
  split
  · exact .nothing _
  · exact (Moves.setHeadRec _ _ _ rfl).trans (.updJob _ _ _)

/-- What the freeing of a job's head leaves of the bus records but their head: access, line and owner. -/
theorem Ctx.freeJobHead_busRec (c : Ctx) (id : Nat) (b : Bus) :
    (c.freeJobHead id).s.busRec b = c.s.busRec b ∨ (c.freeJobHead id).s.busRec b = (c.s.busRec b).withoutHead := by
  have freed (s : State) (h : Head) : (s.freeHead h).busRec b = s.busRec b := by
    unfold State.freeHead; dsimp only; split <;> rfl
  unfold Ctx.freeJobHead
  split
  · exact .inl rfl
  next j _ =>
  split
  · exact .inl rfl
  next jh _ =>
  show ((match j.bus with | some b => c.s.detachHead b | none => c.s).freeHead jh.head).busRec b = _ ∨
    ((match j.bus with | some b => c.s.detachHead b | none => c.s).freeHead jh.head).busRec b = _
  rw [freed]
  cases j.bus with
  | none => exact .inl rfl
  | some b' =>
    by_cases h : b = b'
    · subst h; exact .inr (by rw [State.detachHead_busRec, if_pos rfl])
    · exact .inl (by rw [State.detachHead_busRec, if_neg h])

theorem Ctx.freeJobHead_access (c : Ctx) (id : Nat) (b : Bus) :
    ((c.freeJobHead id).s.busRec b).access = (c.s.busRec b).access := by
  rcases c.freeJobHead_busRec id b with h | h <;> rw [h]
  exact BusRecord.withoutHead_access _
theorem Ctx.freeJobHead_line (c : Ctx) (id : Nat) (b : Bus) :
    ((c.freeJobHead id).s.busRec b).line = (c.s.busRec b).line := by
  rcases c.freeJobHead_busRec id b with h | h <;> rw [h]
  exact BusRecord.withoutHead_line _
theorem Ctx.abortEntered_access (c : Ctx) (id : Nat) : (c.abortEntered id).s.access = c.s.access := by
  unfold Ctx.abortEntered
  (repeat' split) <;> rfl

/-! ## The jobs that stand -/

/-- After its head is freed a job has none. -/
theorem Ctx.freeJobHead_headless (c : Ctx) {id : Nat} {j : Job} (h : (c.freeJobHead id).s.job? id = some j) : j.head = none := by
  unfold Ctx.freeJobHead at h
  split at h
  next hnone => rw [hnone] at h; cases h
  next k hk =>
  split at h
  next hhead => rw [hk] at h; cases h; exact hhead
  · have hmap := State.job?_updJob_same (id := id) (f := fun j : Job => { j with head := none }) (fun _ => rfl) |>.symm.trans h
    obtain ⟨k', -, rfl⟩ := Option.map_eq_some_iff.1 hmap
    rfl

theorem Ctx.freeJobHead_stepless (c : Ctx) (id : Nat) {X : Nat → Bool} (ok : JobsOk X (c.freeJobHead id).s) :
    (c.freeJobHead id).s.Stepless id :=
  ok.stepless fun _ hj => .inr (c.freeJobHead_headless hj)

/-- The jobs as what no change of a job in the table touches: id, line and watch settings. -/
def State.keys (s : State) : List (Nat × Nat × WatchSettings) := s.sched.jobs.map fun j => (j.id, j.line, j.watch)

theorem State.updJob_keys (s : State) (id : Nat) (f : Job → Job)
    (same : ∀ j, (f j).id = j.id ∧ (f j).line = j.line ∧ (f j).watch = j.watch) : (s.updJob id f).keys = s.keys := by
  unfold State.keys State.updJob State.setJobs
  rw [List.map_map]
  apply List.map_congr_left
  intro j _
  obtain ⟨hid, hline, hwatch⟩ := same j
  by_cases h : j.id = id <;> simp [h, hid, hline, hwatch]

theorem Ctx.abortEntered_keys (c : Ctx) (id : Nat) : (c.abortEntered id).s.keys = c.s.keys := by
  unfold Ctx.abortEntered
  split
  · rfl
  split
  · rfl
  split
  · rfl
  · exact State.updJob_keys _ _ _ fun _ => ⟨rfl, rfl, rfl⟩

theorem Ctx.freeJobHead_keys (c : Ctx) (id : Nat) : (c.freeJobHead id).s.keys = c.s.keys := by
  unfold Ctx.freeJobHead
  split
  · rfl
  next j _ =>
  split
  · rfl
  next jh _ =>
  have freed (s : State) : ((s.freeHead jh.head).updJob id fun j => { j with head := none }).keys = s.keys := by
    refine (State.updJob_keys _ _ _ ?_).trans ?_
    · exact fun _ => ⟨rfl, rfl, rfl⟩
    · unfold State.freeHead; dsimp only; split <;> rfl
  show (((match j.bus with | some b => c.s.detachHead b | none => c.s).freeHead jh.head).updJob id _).keys = _
  rw [freed]
  cases j.bus with
  | none => rfl
  | some b =>
    unfold State.keys
    rw [State.sched_of_offBus (c.s.detachHead_offBus b)]

/-- What an abort leaves of the jobs: all but results and step index. -/
theorem Ctx.abortEntered_faces (c : Ctx) (id : Nat) : (c.abortEntered id).s.faces = c.s.faces := by
  unfold Ctx.abortEntered
  split
  · rfl
  split
  · rfl
  split
  · rfl
  · exact State.updJob_faces _ _ _ fun _ => rfl

/-- What the freeing of a job's head leaves of the jobs: all but that head. -/
theorem Ctx.freeJobHead_faces (c : Ctx) (id : Nat) : (c.freeJobHead id).s.faces = c.s.faces := by
  unfold Ctx.freeJobHead
  split
  · rfl
  next j _ =>
  split
  · rfl
  next jh _ =>
  refine (State.updJob_faces ((match j.bus with | some b => c.s.detachHead b | none => c.s).freeHead jh.head) id
    (fun j => { j with head := none }) fun _ => rfl).trans ?_
  unfold State.faces
  rw [State.freeHead_sched]
  cases j.bus with
  | none => rfl
  | some b => rw [State.sched_of_offBus (c.s.detachHead_offBus b)]

/-- A job with this face stood in any state with these faces. -/
theorem State.old_of_faces {s t : State} (h : t.faces = s.faces) {k : Job} (hk : k ∈ t.sched.jobs) :
    ∃ m ∈ s.sched.jobs, m.id = k.id ∧ m.source = k.source ∧ m.line = k.line ∧ m.state = k.state := by
  obtain ⟨m, hm, he⟩ := List.mem_map.1 (h ▸ State.mem_faces hk : k.face ∈ s.faces)
  simp only [Job.face, Face.mk.injEq] at he
  exact ⟨m, hm, he.1, he.2.1, he.2.2.1, he.2.2.2.2⟩

theorem State.job?_face (s : State) (n : Nat) : (s.job? n).map Job.face = s.faces.find? fun f => f.id == n := by
  rw [State.faces, List.find?_map]; rfl

/-- The job of an id has the same mark and state in any state with these faces. -/
theorem State.job?_of_faces {s t : State} (h : t.faces = s.faces) {n : Nat} {k : Job} (hk : t.job? n = some k) :
    ∃ m, s.job? n = some m ∧ m.takeover = k.takeover ∧ m.state = k.state := by
  have hface : (s.job? n).map Job.face = some k.face := by rw [s.job?_face, ← h, ← t.job?_face, hk]; rfl
  obtain ⟨m, hm, he⟩ := Option.map_eq_some_iff.1 hface
  simp only [Job.face, Face.mk.injEq] at he
  exact ⟨m, hm, he.2.2.2⟩

theorem State.mem_keys {s : State} {j : Job} (h : j ∈ s.sched.jobs) : (j.id, j.line, j.watch) ∈ s.keys :=
  List.mem_map.2 ⟨j, h, rfl⟩

/-- A job's watch exponent stays known while its key stands. -/
theorem State.knownExponent_of_key {s : State} {id l : Nat} {w : WatchSettings} (h : (id, l, w) ∈ s.keys) :
    s.knownExponent w.n := by
  obtain ⟨j, hj, hk⟩ := List.mem_map.1 h
  exact .inr (.inr ⟨j, hj, by cases hk; rfl⟩)

theorem State.jobs_ne_nil {s : State} {id : Nat} {j : Job} (h : s.job? id = some j) : s.sched.jobs ≠ [] :=
  List.ne_nil_of_mem (State.job?_mem h)

/-- The job of an id is found where the id stands in the table. -/
theorem State.job?_isSome {s : State} {id : Nat} (h : id ∈ s.sched.jobs.map (·.id)) : ∃ j, s.job? id = some j := by
  obtain ⟨j, hj, hid⟩ := List.mem_map.1 h
  exact Option.isSome_iff_exists.1 (List.find?_isSome.2 ⟨j, hj, by simpa using hid⟩)

/-! ## Removal and release (R94, R108) -/

theorem Ctx.removeJob_none (c : Ctx) {id : Nat} (h : c.s.job? id = none) (o : JobOutcome) : c.removeJob id o = c := by
  unfold Ctx.removeJob
  rw [h]

/-- A removal is the freeing of the job's head, and the job is gone. -/
theorem Ctx.removeJob_state (c : Ctx) {id : Nat} {j : Job} (h : c.s.job? id = some j) (o : JobOutcome) :
    ∃ k, (c.removeJob id o).s = (c.freeJobHead id).s.without k o id := by
  unfold Ctx.removeJob
  rw [h]
  dsimp only
  refine ⟨((c.freeJobHead id).s.job? id).getD j, ?_⟩
  split <;> rfl

/-- A job that a removal leaves is as it was, and its mark is kept unless it named the job that is gone. -/
theorem State.job?_without {s : State} {j k : Job} {o : JobOutcome} {id n : Nat} (hk : (s.without j o id).job? n = some k) :
    n ≠ id ∧ ∃ m, s.job? n = some m ∧ m.state = k.state ∧ (m.takeover ≠ some id → k.takeover = m.takeover) := by
  unfold State.job? at hk ⊢
  rw [State.without_jobs, dropMarks, List.find?_map] at hk
  obtain ⟨m, hm, rfl⟩ := Option.map_eq_some_iff.1 hk
  have hn : m.id = n := by simpa using List.find?_some hm
  have hne : m.id ≠ id := by simpa using (List.mem_filter.1 (List.mem_of_find?_eq_some hm)).2
  refine ⟨hn ▸ hne, m, ?_, rfl, fun hmark => if_neg hmark⟩
  rw [List.find?_filter] at hm
  refine .trans (congrArg (fun p => s.sched.jobs.find? p) (funext fun x => ?_)) hm
  by_cases hx : x.id = n
  · simp [hx, ← hn, hne]
  · simp [hx]

theorem Ctx.job?_removeJob (c : Ctx) {id n : Nat} {o : JobOutcome} {k : Job} (hk : (c.removeJob id o).s.job? n = some k) :
    n ≠ id ∧ ∃ m, c.s.job? n = some m ∧ m.state = k.state ∧ (m.takeover ≠ some id → k.takeover = m.takeover) := by
  cases h : c.s.job? id with
  | none =>
    rw [c.removeJob_none h] at hk
    refine ⟨?_, k, hk, rfl, fun _ => rfl⟩
    rintro rfl
    rw [h] at hk; cases hk
  | some j =>
    obtain ⟨k0, hs⟩ := c.removeJob_state h o
    rw [hs] at hk
    obtain ⟨hne, m, hm, hstate, hmark⟩ := State.job?_without hk
    obtain ⟨p, hp, hpm, hps⟩ := State.job?_of_faces (c.freeJobHead_faces id) hm
    exact ⟨hne, p, hp, hps.trans hstate, fun h => (hmark (hpm ▸ h)).trans hpm.symm⟩

/-- A job that a removal leaves is one of the others, with its source, its line and its state. -/
theorem Ctx.removeJob_old (c : Ctx) {id : Nat} {o : JobOutcome} {k : Job} (hk : k ∈ (c.removeJob id o).s.sched.jobs) :
    ∃ m ∈ c.s.sched.jobs, m.id ≠ id ∧ m.id = k.id ∧ m.source = k.source ∧ m.line = k.line ∧ m.state = k.state := by
  cases h : c.s.job? id with
  | none =>
    rw [c.removeJob_none h] at hk
    exact ⟨k, hk, by simpa using List.find?_eq_none.1 h k hk, rfl, rfl, rfl, rfl⟩
  | some j =>
    obtain ⟨k0, hs⟩ := c.removeJob_state h o
    rw [hs] at hk
    obtain ⟨m, hm, hne, hid, hsrc, hline, hstate, -⟩ := State.without_old hk
    obtain ⟨p, hp, hpid, hpsrc, hpline, hpstate⟩ := State.old_of_faces (c.freeJobHead_faces id) hm
    exact ⟨p, hp, hpid ▸ hne, hpid.trans hid, hpsrc.trans hsrc, hpline.trans hline, hpstate.trans hstate⟩

theorem Ctx.removeJob_keys (c : Ctx) (id : Nat) (o : JobOutcome) :
    ((c.removeJob id o).s.faces.map Face.key).Sublist (c.s.faces.map Face.key) := by
  cases h : c.s.job? id with
  | none =>
    rw [c.removeJob_none h]
  | some j =>
    obtain ⟨k0, hs⟩ := c.removeJob_state h o
    rw [hs, ← c.freeJobHead_faces id]
    exact State.without_keys _ _ _ _

theorem Ctx.removeJob_ids (c : Ctx) (id : Nat) (o : JobOutcome) :
    (c.removeJob id o).s.sched.jobs.map (·.id) = (c.s.sched.jobs.map (·.id)).filter (· != id) := by
  cases h : c.s.job? id with
  | none =>
    rw [c.removeJob_none h]
    refine (List.filter_eq_self.2 fun n hn => ?_).symm
    obtain ⟨j, hj, rfl⟩ := List.mem_map.1 hn
    exact bne_iff_ne.2 (by simpa using List.find?_eq_none.1 h j hj)
  | some j =>
    obtain ⟨k0, hs⟩ := c.removeJob_state h o
    rw [hs, State.without_ids, ← State.faces_ids, c.freeJobHead_faces, State.faces_ids]

theorem Ctx.removeJob_access (c : Ctx) (id : Nat) (o : JobOutcome) (b : Bus) :
    ((c.removeJob id o).s.busRec b).access = (c.s.busRec b).access := by
  cases h : c.s.job? id with
  | none =>
    rw [c.removeJob_none h]
  | some j =>
    obtain ⟨k0, hs⟩ := c.removeJob_state h o
    rw [hs, ← c.freeJobHead_access id b]
    unfold State.without State.setVerifyDue
    dsimp only
    (repeat' split) <;> rfl

/-- A removal makes the law good where only the job that leaves kept it from standing. -/
theorem Ctx.removeJob_jobs (c : Ctx) {id : Nat} {j : Job} (h : c.s.job? id = some j) (o : JobOutcome) {X : Nat → Bool}
    (ok : JobsOk (andJob X id) c.s) : JobsOk X (c.removeJob id o).s := by
  obtain ⟨k, hs⟩ := c.removeJob_state h o
  have h1 := (c.freeJobHead_moves (F := True) id).jobs trivial ok
  rw [hs]
  exact h1.without (c.freeJobHead_stepless id h1) k o

theorem Ctx.removeJob_moves (c : Ctx) (id : Nat) (o : JobOutcome) : Moves F c.s (c.removeJob id o).s := by
  cases hj : c.s.job? id with
  | none => rw [c.removeJob_none hj]; exact .nothing _
  | some j =>
    have hsome : (c.freeJobHead id).s.sched.jobs ≠ [] := by
      intro hnil
      have hold := State.mem_keys (State.job?_mem hj)
      rw [← c.freeJobHead_keys id, State.keys, hnil] at hold
      cases hold
    obtain ⟨k, hs⟩ := c.removeJob_state hj o
    rw [hs]
    exact (c.freeJobHead_moves id).trans (.remove _ k o id hsome (c.freeJobHead_stepless id))

theorem Ctx.askRelease_moves (c : Ctx) (id : Nat) (o : JobOutcome) (note : JobNote) : Moves F c.s (c.askRelease id o note).s := by
  unfold Ctx.askRelease
  split
  · exact .nothing _
  next j hj =>
  extract_lets c1 c2 c3
  have h1 : Moves F c.s c1.s := by
    unfold c1
    split
    · exact c.abortEntered_moves id
    · exact .nothing _
  have h3 : Moves F c.s c3.s := (h1.trans (c1.freeJobHead_moves id)).trans
    (.updJobState _ id (fun j => { j with
        state := .releasing, outcome := some o, holdLimit := none, hazardHold := none, suspendedFrom := none })
      (c1.freeJobHead_stepless id) fun _ _ _ hc => by cases hc)
  refine h3.trans ?_
  split
  · exact c3.removeJob_moves id o
  · split
    · extract_lets c4
      have h4 : Moves F c3.s c4.s := .bus (.release _)
      refine h4.trans ?_
      split
      · exact c4.removeJob_moves id o
      · exact .nothing _
    · exact c3.removeJob_moves id o

/-! ## The rise of pending (R66 to R70, R111) -/

theorem Ctx.yieldBus_moves (c : Ctx) (b : Bus) : Moves F c.s (c.yieldBus b).s := by
  unfold Ctx.yieldBus
  split
  · exact .nothing _
  next j _ =>
  extract_lets go
  have hgo : Moves F c.s go.s := (c.handOverJob_moves j .yielded).trans (Ctx.askRelease_moves _ _ _ _)
  cases j.state <;> dsimp only <;> first | exact hgo | exact .nothing _ | (split; exact hgo; exact .nothing _)

theorem Ctx.rise_moves (c : Ctx) (b : Bus) (k : WatchCause) : Moves F c.s (c.rise b k).s := by
  unfold Ctx.rise
  extract_lets w r c1
  have h1 : Moves F c.s c1.s := .bus (.watch b _ (.inr (.inl ⟨b, rfl⟩)))
  refine h1.trans ?_
  split
  · exact c1.yieldBus_moves b
  · exact .nothing _

theorem Ctx.mayRise_moves (c : Ctx) (b : Bus) (k : Option WatchCause) : Moves F c.s (c.mayRise b k).s := by
  unfold Ctx.mayRise
  split
  · exact .nothing _
  · split
    · exact c.rise_moves b _
    · exact .nothing _

theorem Ctx.levelCheck_moves (c : Ctx) (b : Bus) : Moves F c.s (c.levelCheck b).s := c.mayRise_moves b _

/-! ## The waiting states (R102, R110, R115) -/

theorem Ctx.enterHolding_raw (c : Ctx) (id : Nat) (st : JobState) (k : JobNote) (e : Bool) :
    RawMoves F c.s (c.enterHolding id st k e).s := Moves.rawUpdJob _ _ _

theorem Ctx.enterHolding_moves (c : Ctx) (id : Nat) (st : JobState) (k : JobNote) (e : Bool)
    (rest : ∀ {X}, JobsOk X c.s → c.s.AtRest id) : Moves F c.s (c.enterHolding id st k e).s := .updJobAtRest _ _ _ rest

theorem Ctx.preempt_moves (c : Ctx) (j : Job) : Moves F c.s (c.preempt j).s :=
  (c.handOverJob_moves j .preempted).trans (Ctx.askRelease_moves _ _ _ _)

/-- A job that waits for a head preempts a job, or it does nothing (R115). -/
theorem Ctx.preemptHead_eq (c : Ctx) (id : Nat) : c.preemptHead id = c ∨ ∃ v, c.preemptHead id = c.preempt v := by
  unfold Ctx.preemptHead
  split
  · exact .inl rfl
  split
  · split
    next v _ => exact .inr ⟨v, rfl⟩
    · exact .inl rfl
  · exact .inl rfl

theorem Ctx.preemptHead_moves (c : Ctx) (id : Nat) : Moves F c.s (c.preemptHead id).s := by
  rcases c.preemptHead_eq id with h | ⟨v, h⟩ <;> rw [h]
  · exact .nothing _
  · exact c.preempt_moves v

theorem Ctx.enterWaitHead_raw (c : Ctx) (id : Nat) (k : JobNote) : RawMoves F c.s (c.enterWaitHead id k).s := by
  unfold Ctx.enterWaitHead
  extract_lets c1
  have h1 : RawMoves F c.s c1.s := .trans (Moves.rawUpdJob c.s id fun j => { j with
      state := .waitHead, waitOrder := c.s.sched.nextWait, waitTime := c.s.link.time, holdLimit := none, hazardHold := none })
    (Moves.counters _ _ (c.s.sched.nextWait + 1)).raw
  exact h1.trans ((c1.jobChanged id k).preemptHead_moves id).raw

theorem Ctx.enterWaitHead_moves (c : Ctx) (id : Nat) (k : JobNote) (rest : ∀ {X}, JobsOk X c.s → c.s.AtRest id) :
    Moves F c.s (c.enterWaitHead id k).s := by
  refine ⟨c.enterWaitHead_raw id k, fun hf X ok => ?_⟩
  unfold Ctx.enterWaitHead
  extract_lets c1
  have h1 : Moves F c.s c1.s := (Moves.updJobAtRest c.s id (fun j => { j with
      state := .waitHead, waitOrder := c.s.sched.nextWait, waitTime := c.s.link.time, holdLimit := none, hazardHold := none })
    rest).trans (.counters _ _ (c.s.sched.nextWait + 1))
  exact (h1.trans ((c1.jobChanged id k).preemptHead_moves id)).jobs hf ok

end Sys2Proof.Machine
end

section
/-! SUPPORT. A takeover, the grant of a head, the steps of a recipe and its end, and the loss of a head are made of moves. -/

namespace Sys2Proof.Machine

variable {F : Prop}

/-! ## Takeover (R112, R113) -/

/-- The record of a desk job to which the bus of the job it takes over has passed. -/
def Job.takes (b : Bus) (x : Snapshot) (j : Job) : Job :=
  { j with bus := some b, snapshot := some x, kept := .guarded, takeover := none, claim := none }

/-- The state in which a job has received the bus and its watch record. -/
def State.passes (s : State) (new : Nat) (b : Bus) (w : WatchSettings) : State :=
  ((s.setBusRec b { s.busRec b with owner := some new }).updJob new fun j => j.takes b (s.snapshot j.line)).setWatchRec b
    { s.watchRec b with settings := w, pending := false }

theorem State.passes_raw (s : State) (new : Nat) (b : Bus) {jn : Job} (hb : (s.busRec b).access = .connected)
    (hjn : (jn.id, jn.line, jn.watch) ∈ s.keys) : RawMoves F s (s.passes new b jn.watch) := by
  have same (j : Job) : (j.takes b (s.snapshot j.line)).id = j.id ∧ (j.takes b (s.snapshot j.line)).line = j.line ∧
      (j.takes b (s.snapshot j.line)).watch = j.watch := ⟨rfl, rfl, rfl⟩
  have h1 : RawMoves F s ((s.transfer b new).updJob new fun j => j.takes b (s.snapshot j.line)) :=
    .trans (.single (.bus (.transfer b new hb))) (.single (.job (.upd new _ same)))
  refine h1.trans (.single (.bus (.watch b _ ?_)))
  apply State.knownExponent_of_key (id := jn.id) (l := jn.line)
  rw [State.updJob_keys _ _ _ same]
  exact hjn

/-- The mark of the job that takes the bus goes with the job that held it. -/
theorem State.passes_jobs {s : State} {X : Nat → Bool} {old : Nat} (ok : JobsOk (andJob X old) s) (new : Nat) (b : Bus)
    (w : WatchSettings) (mark : ∀ j, s.job? new = some j → j.takeover = none ∨ j.takeover = some old) :
    JobsOk (andJob X old) (s.passes new b w) := by
  have h1 : JobsOk (andJob X old) (s.transfer b new) := ok.congr rfl rfl rfl
  have h2 := h1.clearMark (id := new) (f := fun j => j.takes b (s.snapshot j.line)) (fun _ => ⟨rfl, rfl, rfl, rfl, rfl⟩) mark
  exact h2.congr rfl rfl rfl

theorem State.passes_ids (s : State) (new : Nat) (b : Bus) (w : WatchSettings) :
    (s.passes new b w).sched.jobs.map (·.id) = s.sched.jobs.map (·.id) :=
  State.updJob_ids (s := s.transfer b new) new (fun j => j.takes b (s.snapshot j.line)) fun _ => rfl

theorem State.job?_passes {s : State} {new : Nat} {b : Bus} {w : WatchSettings} {k : Job} (hk : (s.passes new b w).job? new = some k) :
    ∃ m, s.job? new = some m ∧ m.state = k.state := by
  have hmap := State.job?_updJob_same (s := s.transfer b new) (id := new) (f := fun j => j.takes b (s.snapshot j.line)) fun _ => rfl
  obtain ⟨m, hm, rfl⟩ := Option.map_eq_some_iff.1 (hmap.symm.trans hk)
  exact ⟨m, hm, rfl⟩

/-- What a takeover does before the job that takes the bus goes on: the job that held it is gone. -/
def Ctx.handBus (c : Ctx) (b : Bus) (jn : Job) (old new : Nat) : Ctx :=
  (((c.abortEntered old).freeJobHead old).upd fun s => s.passes new b jn.watch).removeJob old .taken

/-- The job that has taken the bus waits for a head, or it is HELD (R112). -/
def Ctx.goesOn (c : Ctx) (jn : Job) (new : Nat) (b : Bus) : Ctx :=
  (if jn.step < jn.recipe.length then c.enterWaitHead new .takeover else c.enterHolding new .held .takeover).levelCheck b

theorem Ctx.handBus_first (c : Ctx) (old : Nat) : Moves F c.s ((c.abortEntered old).freeJobHead old).s :=
  (c.abortEntered_moves old).trans (Ctx.freeJobHead_moves _ old)

theorem Ctx.handBus_faces (c : Ctx) (old : Nat) : ((c.abortEntered old).freeJobHead old).s.faces = c.s.faces :=
  (Ctx.freeJobHead_faces _ old).trans (c.abortEntered_faces old)

theorem Ctx.handBus_raw (c : Ctx) (b : Bus) {jn : Job} (old new : Nat) (hb : (c.s.busRec b).access = .connected)
    (hjn : c.s.job? new = some jn) : RawMoves F c.s (c.handBus b jn old new).s := by
  have hkeys : ((c.abortEntered old).freeJobHead old).s.keys = c.s.keys :=
    (Ctx.freeJobHead_keys _ old).trans (c.abortEntered_keys old)
  have h2 : RawMoves F ((c.abortEntered old).freeJobHead old).s (((c.abortEntered old).freeJobHead old).s.passes new b jn.watch) := by
    refine State.passes_raw _ new b ?_ ?_
    · rw [Ctx.freeJobHead_access]
      unfold State.busRec
      rw [c.abortEntered_access]
      exact hb
    · rw [hkeys]
      exact State.mem_keys (State.job?_mem hjn)
  have h3 := Ctx.removeJob_moves (F := F) (((c.abortEntered old).freeJobHead old).upd fun s => s.passes new b jn.watch) old .taken
  exact ((c.handBus_first old).raw.trans h2).trans h3.raw

theorem Ctx.handBus_jobs (c : Ctx) (b : Bus) {jo jn : Job} {old new : Nat} {X : Nat → Bool} (ok : JobsOk (andJob X old) c.s)
    (hjo : c.s.job? old = some jo) (hjn : c.s.job? new = some jn) (mark : jn.takeover = none ∨ jn.takeover = some old) :
    JobsOk X (c.handBus b jn old new).s := by
  have hfaces := c.handBus_faces old
  have h2 := State.passes_jobs ((c.handBus_first (F := True) old).jobs trivial ok) new b jn.watch fun j hj => by
    obtain ⟨m, hm, hmark, -⟩ := State.job?_of_faces hfaces hj
    rw [hjn] at hm
    cases hm
    rw [← hmark]
    exact mark
  obtain ⟨k, hk⟩ : ∃ k, (((c.abortEntered old).freeJobHead old).s.passes new b jn.watch).job? old = some k := by
    apply State.job?_isSome
    rw [State.passes_ids, ← State.faces_ids, hfaces, State.faces_ids]
    exact List.mem_map.2 ⟨jo, State.job?_mem hjo, State.job?_id hjo⟩
  exact Ctx.removeJob_jobs (((c.abortEntered old).freeJobHead old).upd fun s => s.passes new b jn.watch) hk .taken h2

/-- The job that takes the bus is as it was, QUEUED. -/
theorem Ctx.handBus_queued (c : Ctx) {b : Bus} {jn k : Job} {old new : Nat}
    (hjn : c.s.job? new = some jn) (hqueued : jn.state = .queued) (hk : (c.handBus b jn old new).s.job? new = some k) :
    k.state = .queued := by
  obtain ⟨-, m, hm, hstate, -⟩ := Ctx.job?_removeJob (((c.abortEntered old).freeJobHead old).upd fun s => s.passes new b jn.watch) hk
  obtain ⟨p, hp, hstate'⟩ := State.job?_passes hm
  obtain ⟨q, hq, -, hstate''⟩ := State.job?_of_faces (c.handBus_faces old) hp
  rw [hjn] at hq
  cases hq
  rw [← hstate, ← hstate', ← hstate'', hqueued]

/-- A QUEUED job takes the line of a job on a CONNECTED bus (R112). -/
theorem Ctx.passOwnership_acts (c : Ctx) {old new : Nat} {jo jn : Job} {b : Bus} (hjo : c.s.job? old = some jo)
    (hjn : c.s.job? new = some jn) (hbus : jo.bus = some b) (hconnected : (c.s.busRec b).access = .connected)
    (hline : jn.line = jo.line) (hqueued : jn.state = .queued) :
    c.passOwnership old new = (c.handBus b jn old new).goesOn jn new b := by
  unfold Ctx.passOwnership
  rw [hjo, hjn]
  dsimp only
  rw [hbus]
  dsimp only
  rw [if_neg (by simp [hconnected, hline, hqueued])]
  rfl

/-- A takeover passes the bus on, or it does nothing. -/
theorem Ctx.passOwnership_eq (c : Ctx) (old new : Nat) : c.passOwnership old new = c ∨
    ∃ jo jn b, c.s.job? old = some jo ∧ c.s.job? new = some jn ∧ (c.s.busRec b).access = .connected ∧ jn.state = .queued ∧
      c.passOwnership old new = (c.handBus b jn old new).goesOn jn new b := by
  unfold Ctx.passOwnership
  split
  next jo jn hjo hjn =>
    split
    · exact .inl rfl
    next b _ =>
      split
      · exact .inl rfl
      next hok =>
        obtain ⟨hconnected, -, hqueued⟩ : (c.s.busRec b).access = .connected ∧ _ ∧ jn.state = .queued := by
          simpa only [not_or, not_not] using hok
        exact .inr ⟨jo, jn, b, hjo, hjn, hconnected, hqueued, rfl⟩
  · exact .inl rfl

theorem Ctx.goesOn_moves (c : Ctx) (b : Bus) {jn : Job} {old new : Nat} (hjn : c.s.job? new = some jn)
    (hqueued : jn.state = .queued) : Moves F (c.handBus b jn old new).s ((c.handBus b jn old new).goesOn jn new b).s := by
  have rest : ∀ {X}, JobsOk X (c.handBus b jn old new).s → (c.handBus b jn old new).s.AtRest new := fun ok => by
    refine ⟨fun k hk => ?_, ok.stepless fun k hk => .inl ?_⟩
    · rw [Job.counted, c.handBus_queued hjn hqueued hk]; rfl
    · rw [c.handBus_queued hjn hqueued hk]; exact nofun
  unfold Ctx.goesOn
  refine .trans ?_ (Ctx.levelCheck_moves _ b)
  split
  · exact Ctx.enterWaitHead_moves _ _ _ rest
  · exact Ctx.enterHolding_moves _ _ _ _ _ rest

theorem Ctx.passOwnership_raw (c : Ctx) (old new : Nat) : RawMoves F c.s (c.passOwnership old new).s := by
  rcases c.passOwnership_eq old new with h | ⟨jo, jn, b, -, hjn, hb, hqueued, h⟩ <;> rw [h]
  exact (c.handBus_raw b old new hb hjn).trans (c.goesOn_moves b hjn hqueued).raw

/-- A takeover keeps the law, where the mark of the job that takes the bus names the one that held it (R112). -/
theorem Ctx.passOwnership_moves (c : Ctx) (old new : Nat)
    (mark : ∀ {X}, JobsOk X c.s → ∀ jo jn, c.s.job? old = some jo → c.s.job? new = some jn → jn.takeover = some old) :
    Moves F c.s (c.passOwnership old new).s := by
  refine ⟨c.passOwnership_raw old new, fun _ X ok => ?_⟩
  rcases c.passOwnership_eq old new with h | ⟨jo, jn, b, hjo, hjn, hb, hqueued, h⟩ <;> rw [h]
  · exact ok
  · exact (c.goesOn_moves (F := True) b hjn hqueued).jobs trivial
      (c.handBus_jobs b (ok.and old) hjo hjn (.inr (mark ok jo jn hjo hjn)))

/-- The job that carries the mark is found by its id. -/
theorem State.markedFor?_spec {X : Nat → Bool} {s : State} {id : Nat} {m : Job} (h : s.markedFor? id = some m) (ok : JobsOk X s) :
    ∀ j, s.job? m.id = some j → j.takeover = some id := by
  intro j hj
  rw [ok.job?_of_mem (List.mem_of_find?_eq_some h)] at hj
  cases hj
  have hfound := List.find?_some h
  simp only [Bool.and_eq_true, beq_iff_eq] at hfound
  exact hfound.1

theorem Ctx.moveConnected_moves (c : Ctx) (id : Nat) (k : JobNote) (rest : ∀ {X}, JobsOk X c.s → c.s.AtRest id) :
    Moves F c.s (c.moveConnected id k).s := by
  unfold Ctx.moveConnected
  split
  next m hm => exact c.passOwnership_moves _ _ fun ok _ j _ hj => State.markedFor?_spec hm ok j hj
  · split
    · exact .nothing _
    · split
      · exact c.enterWaitHead_moves _ _ rest
      · exact c.enterHolding_moves _ _ _ _ rest

/-! ## Steps and heads handed (R102, R142) -/

theorem Ctx.configure_moves (c : Ctx) (h : Head) (k : Configure) : Moves F c.s (c.configure h k).s :=
  (Moves.keepStep c.s h { c.s.headRec h with standing := some k } rfl rfl).trans
    (.send (c.upd fun s => s.setHeadRec h { s.headRec h with standing := some k }) _)
theorem Ctx.strobe_moves (c : Ctx) (h : Head) : Moves F c.s (c.strobe h).s :=
  (Moves.keepStep c.s h { c.s.headRec h with outstanding := true } rfl rfl).trans
    (.send (c.upd fun s => s.setHeadRec h { s.headRec h with outstanding := true }) _)

/-- The job of this id measures with this head (R103, R133). -/
def State.Measures (s : State) (id : Nat) (h : Head) : Prop :=
  (s.headRec h).state = .attached ∧ ∀ j, s.job? id = some j → j.state = .measuring ∧ j.head = some ⟨h, false⟩

theorem Ctx.startStep_raw (c : Ctx) (id : Nat) (h : Head) : RawMoves F c.s (c.startStep id h).s := by
  unfold Ctx.startStep
  split
  · exact .refl
  split
  · exact .refl
  extract_lets e hand c1 c2
  have h2 : RawMoves F c.s c2.s := .trans (.single (.heads _)) (c1.configure_moves _ _).raw
  refine h2.trans ?_
  split
  · exact (c2.strobe_moves h).raw
  · exact .refl

theorem Ctx.startStep_moves (c : Ctx) (id : Nat) (h : Head) (measures : ∀ {X}, JobsOk X c.s → c.s.Measures id h) :
    Moves F c.s (c.startStep id h).s := by
  refine ⟨c.startStep_raw id h, fun _ X ok => ?_⟩
  unfold Ctx.startStep
  split
  · exact ok
  next j hj =>
  split
  · exact ok
  extract_lets e hand c1 c2
  have h1 : JobsOk _ c1.s := ok.setHeadRec fun st hst => by
    cases hst
    obtain ⟨hstate, hjob⟩ := measures ok
    exact ⟨hstate, j, State.job?_mem hj, State.job?_id hj, hjob j hj⟩
  have h2 : JobsOk _ c2.s := (c1.configure_moves (F := True) _ _).jobs trivial h1
  split
  · exact (c2.strobe_moves (F := True) h).jobs trivial h2
  · exact h2

/-- The record of a job that is handed a head (R102). -/
def Job.granted (h : Head) (j : Job) : Job :=
  { j with head := some ⟨h, false⟩, state := .measuring, hazardHold := none, holdLimit := none }

/-- What a head's grant changes before its first step starts (R102). -/
def State.grant (s : State) (id : Nat) (b : Bus) (h : Head) : State :=
  let s := s.attachHead b h
  let s := s.setHeadRec h { s.headRec h with state := .attached, bus := some b }
  s.updJob id (Job.granted h)

theorem State.grant_raw (s : State) (id : Nat) (b : Bus) (h : Head) (hb : (s.busRec b).access = .connected) :
    RawMoves F s (s.grant id b h) :=
  .trans (.single (.bus (.attachHead b h hb))) (.trans (.single (.heads _)) (Moves.rawUpdJob _ _ _))

theorem State.grant_job?_same (s : State) (id : Nat) (b : Bus) (h : Head) :
    (s.grant id b h).job? id = (s.job? id).map (Job.granted h) :=
  State.job?_updJob_same (s := (s.attachHead b h).setHeadRec h
    { (s.attachHead b h).headRec h with state := .attached, bus := some b }) fun _ => rfl

theorem State.grant_jobs {X : Nat → Bool} {s : State} (ok : JobsOk X s) (id : Nat) (b : Bus) (h : Head) (rest : s.AtRest id) :
    JobsOk X (s.grant id b h) ∧ (s.grant id b h).Measures id h := by
  have h1 : JobsOk X (s.attachHead b h) := ok.congr rfl rfl rfl
  have h2 := h1.setHeadRec (x := h) (r := { (s.attachHead b h).headRec h with state := .attached, bus := some b })
    fun st hst => ⟨rfl, (ok.steps h st hst).2⟩
  have still : ((s.attachHead b h).setHeadRec h
      { (s.attachHead b h).headRec h with state := .attached, bus := some b }).Stepless id := by
    intro x st hst
    rw [State.setHeadRec_headRec] at hst
    split at hst
    next hx => exact rest.2 h st hst
    · exact rest.2 x st hst
  refine ⟨h2.updJob (fun _ => ⟨rfl, rfl, rfl, rfl⟩) (fun j hj _ => rest.1 j hj) (.inl still), ?_, fun j hj => ?_⟩
  · show (((s.attachHead b h).setHeadRec h _).headRec h).state = _
    rw [State.setHeadRec_headRec_same]
  · rw [State.grant_job?_same] at hj
    obtain ⟨k, -, rfl⟩ := Option.map_eq_some_iff.1 hj
    exact ⟨rfl, rfl⟩

theorem Ctx.giveHead_raw (c : Ctx) (id : Nat) (b : Bus) (h : Head) (k : JobNote) (hb : (c.s.busRec b).access = .connected) :
    RawMoves F c.s (c.giveHead id b h k).s :=
  (c.s.grant_raw id b h hb).trans (((c.upd fun s => s.grant id b h).jobChanged id k).startStep_raw id h)

theorem Ctx.giveHead_moves (c : Ctx) (id : Nat) (b : Bus) (h : Head) (k : JobNote) (hb : (c.s.busRec b).access = .connected)
    (rest : ∀ {X}, JobsOk X c.s → c.s.AtRest id) : Moves F c.s (c.giveHead id b h k).s := by
  refine ⟨c.giveHead_raw id b h k hb, fun _ X ok => ?_⟩
  obtain ⟨h1, hm⟩ := State.grant_jobs ok id b h (rest ok)
  exact (((c.upd fun s => s.grant id b h).jobChanged id k).startStep_moves (F := True) id h fun _ => hm).jobs trivial h1

theorem Ctx.startStep_sched (c : Ctx) (id : Nat) (h : Head) : (c.startStep id h).s.sched = c.s.sched := by
  unfold Ctx.startStep
  split
  · rfl
  split
  · rfl
  dsimp only
  split <;> rfl

/-- A grant of a head leaves the other jobs. -/
theorem Ctx.giveHead_job?_other (c : Ctx) (id : Nat) (b : Bus) (h : Head) (k : JobNote) {n : Nat} (hn : n ≠ id) :
    (c.giveHead id b h k).s.job? n = c.s.job? n := by
  have hsched : (c.giveHead id b h k).s.sched = (c.s.grant id b h).sched :=
    ((c.upd fun s => s.grant id b h).jobChanged id k).startStep_sched id h
  have hjob : (c.giveHead id b h k).s.job? n = (c.s.grant id b h).job? n := by unfold State.job?; rw [hsched]
  exact hjob.trans (State.job?_updJob_other (s := (c.s.attachHead b h).setHeadRec h
    { (c.s.attachHead b h).headRec h with state := .attached, bus := some b }) (Job.granted h) (fun _ => rfl) hn)

/-- A job that is handed a head stands in WAIT-HEAD on the CONNECTED bus it owns, and the head is IDLE (R41, R102). -/
theorem State.nextHandout?_spec {s : State} {j : Job} {b : Bus} {h : Head} (hn : s.nextHandout? = some (j, b, h)) :
    j ∈ s.sched.jobs ∧ j.state = .waitHead ∧ j.bus = some b ∧ s.attachHeadOk b j.id h = true ∧ (s.headRec h).state = .idle := by
  have first_mem (order : Job → Nat) (js : List Job) : ∀ (best : Option Job) (x : Job),
      js.foldl (fun best j => match best with | none => some j | some b => if aheadBy order j b then some j else some b) best =
        some x → best = some x ∨ x ∈ js := by
    induction js with
    | nil => exact fun best x hx => .inl hx
    | cons k ks ih =>
      intro best x hx
      rcases ih _ x hx with hbest | hmem
      · cases best with
        | none => exact .inr (List.mem_cons.2 (.inl (Option.some.inj hbest).symm))
        | some y =>
          dsimp only at hbest
          split at hbest
          · exact .inr (List.mem_cons.2 (.inl (Option.some.inj hbest).symm))
          · exact .inl hbest
      · exact .inr (List.mem_cons_of_mem _ hmem)
  unfold State.nextHandout? at hn
  split at hn
  · cases hn
  next h' hidle =>
  split at hn
  · cases hn
  next j' hfirst =>
  obtain ⟨b', hb', he⟩ := Option.map_eq_some_iff.1 hn
  obtain ⟨rfl, rfl, rfl⟩ : j' = j ∧ b' = b ∧ h' = h := by simpa using he
  have hmem := (first_mem Job.waitOrder _ none j' hfirst).resolve_left (by simp)
  rw [List.mem_filter, hb'] at hmem
  obtain ⟨hj, hcond⟩ := hmem
  obtain ⟨hw, hok⟩ : j'.state = .waitHead ∧ s.attachHeadOk b' j'.id h' = true := by simpa using hcond
  exact ⟨hj, hw, hb', hok, by simpa using List.find?_some hidle⟩

theorem State.attachHeadOk_connected {s : State} {b : Bus} {id : Nat} {h : Head} (hok : s.attachHeadOk b id h = true) :
    (s.busRec b).access = .connected := by
  unfold State.attachHeadOk at hok
  simp only [Bool.and_eq_true, beq_iff_eq] at hok
  obtain ⟨⟨⟨⟨hc, -⟩, -⟩, -⟩, -⟩ := hok
  exact hc

theorem State.nextHandout?_atRest {X : Nat → Bool} {s : State} {j : Job} {b : Bus} {h : Head}
    (hn : s.nextHandout? = some (j, b, h)) (ok : JobsOk X s) : s.AtRest j.id := by
  obtain ⟨hmem, hstate, -⟩ := State.nextHandout?_spec hn
  exact ok.atRest (ok.job?_of_mem hmem) (by rw [hstate]; exact nofun) (.inl (by rw [hstate]; exact nofun))

theorem Ctx.handOut_moves (n : Nat) (c : Ctx) : Moves F c.s (Ctx.handOut n c).s := by
  induction n generalizing c with
  | zero => exact .nothing _
  | succ n ih =>
    unfold Ctx.handOut
    split
    · exact .nothing _
    next j b h hn =>
      obtain ⟨-, -, -, hok, -⟩ := State.nextHandout?_spec hn
      exact (c.giveHead_moves j.id b h .none (State.attachHeadOk_connected hok) (State.nextHandout?_atRest hn)).trans (ih _)

/-- Heads go to jobs in WAIT-HEAD: any other job is left as it is. -/
theorem Ctx.handOut_job? {X : Nat → Bool} {n : Nat} {c : Ctx} (ok : JobsOk X c.s) {id : Nat}
    (hstate : ∀ j, c.s.job? id = some j → j.state ≠ .waitHead) : (Ctx.handOut n c).s.job? id = c.s.job? id := by
  induction n generalizing c with
  | zero => rfl
  | succ n ih =>
    unfold Ctx.handOut
    split
    · rfl
    next k b h hn =>
      obtain ⟨hmem, hwait, -, hok, -⟩ := State.nextHandout?_spec hn
      have hne : id ≠ k.id := fun he => hstate k (he ▸ ok.job?_of_mem hmem) hwait
      have hother := c.giveHead_job?_other k.id b h .none hne
      exact (ih ((c.giveHead_moves (F := True) k.id b h .none (State.attachHeadOk_connected hok)
        (State.nextHandout?_atRest hn)).jobs trivial ok) (hother ▸ hstate)).trans hother

/-! ## The recipe's end and the loss of a head (R87, R103, R104, R144, R170) -/

theorem Ctx.formVerdict_moves (c : Ctx) (j : Job) (p : Profile) (acts : c.s.occupied) : Moves F c.s (c.formVerdict j p).1.s :=
  by
  unfold Ctx.formVerdict
  extract_lets st f v rec0 streak evidence distance c1 r
  exact (Moves.ticket (.lines _)).trans (.ticket (.verdict c1 rfl _ _ acts))

theorem Ctx.formVerdict_sched (c : Ctx) (j : Job) (p : Profile) : (c.formVerdict j p).1.s.sched = c.s.sched := by
  unfold Ctx.formVerdict
  extract_lets st f v rec0 streak evidence distance c1 r
  have hoff : r.1.s.offTickets = c1.s.offTickets := c1.handVerdict_offTickets _ _
  exact (congrArg State.sched hoff : r.1.s.offTickets.sched = _)

/-- The job whose recipe ends is counted, and has no head and so no step in hand, once its head is handed on. -/
theorem Ctx.recipeEnd_still (c : Ctx) {id : Nat} {X : Nat → Bool} (ok : JobsOk X c.s)
    (measuring : ∀ j, c.s.job? id = some j → j.state = .measuring) {j : Job}
    (hj : ((c.freeJobHead id).handOut 4).s.job? id = some j) : j.state = .measuring ∧ j.head = none := by
  have hstate : ∀ k, (c.freeJobHead id).s.job? id = some k → k.state = .measuring := fun k hk => by
    obtain ⟨m, hm, -, hs⟩ := State.job?_of_faces (c.freeJobHead_faces id) hk
    exact hs ▸ measuring m hm
  rw [Ctx.handOut_job? ((c.freeJobHead_moves (F := True) id).jobs trivial ok) fun k hk => by rw [hstate k hk]; exact nofun] at hj
  exact ⟨hstate j hj, c.freeJobHead_headless hj⟩

/-- The recipe of a MEASURING job ends. -/
theorem Moves.recipeEnd {s : State} {c : Ctx} (h : Moves F s c.s) (id : Nat)
    (measuring : ∀ {X}, JobsOk X s → ∀ j, c.s.job? id = some j → j.state = .measuring) : Moves F s (c.recipeEnd id).s := by
  unfold Ctx.recipeEnd
  extract_lets c1
  have h1 : Moves F s c1.s := h.trans ((c.freeJobHead_moves id).trans (Ctx.handOut_moves _ _))
  split
  · exact h1
  next j hj =>
  extract_lets r
  have hr : Moves F s r.1.s := h1.trans (c1.formVerdict_moves j _ (.inl (State.jobs_ne_nil hj)))
  have hjr : r.1.s.job? id = some j := by
    unfold State.job?
    rw [c1.formVerdict_sched]
    exact hj
  have rest (hf : F) {X : Nat → Bool} (ok : JobsOk X s) : r.1.s.AtRest id := by
    obtain ⟨hstate, hhead⟩ := c.recipeEnd_still (h.jobs hf ok) (measuring ok) hj
    exact (hr.jobs hf ok).atRest hjr (by rw [hstate]; exact nofun) (.inr hhead)
  split
  · let c2 := r.1.upd fun s => s.updJob id fun j => { j with verdict := some r.2 }
    have h2 : Moves F s c2.s := hr.trans (.updJob r.1.s id fun j => { j with verdict := some r.2 })
    exact h2.andThen (c2.enterHolding_raw id .held .none true) fun hf _ ok ok2 =>
      (c2.enterHolding_moves (F := F) id .held .none true fun _ => (rest hf ok).updJob (fun _ => rfl) fun _ hc => hc).jobs hf ok2
  · let c2 := r.1.upd fun s => s.updJob id fun j => { j with due := some r.2, state := .releasing }
    have h2 : Moves F s c2.s := hr.andThen (Moves.rawUpdJob r.1.s id fun j => { j with due := some r.2, state := .releasing })
      fun hf _ ok ok2 => ok2.updJob (fun _ => ⟨rfl, rfl, rfl, rfl⟩) (fun _ _ hc => by cases hc) (.inl (rest hf ok).2)
    exact h2.trans (c2.askRelease_moves id .complete .none)

theorem Job.skip_same (j : Job) : j.skip.id = j.id ∧ j.skip.line = j.line ∧ j.skip.watch = j.watch := ⟨rfl, rfl, rfl⟩

/-- A step of the job that MEASURES with this head is complete. -/
theorem Moves.completeStep {s : State} {c : Ctx} (h0 : Moves F s c.s) (id : Nat) (h : Head) (r : StepResult)
    (measures : ∀ {X}, JobsOk X s → c.s.Measures id h) : Moves F s (c.completeStep id h r).s := by
  unfold Ctx.completeStep
  extract_lets c1
  have h1 : Moves F s c1.s := h0.trans ((Moves.setHeadRec _ _ _ rfl).trans (.updJob _ _ _ fun _ => Job.skip_same _))
  have hm {X : Nat → Bool} (ok : JobsOk X s) : c1.s.Measures id h := by
    obtain ⟨hstate, hjob⟩ := measures ok
    refine ⟨?_, fun j hj => ?_⟩
    · show ((c.s.dropStep h).headRec h).state = _
      unfold State.dropStep
      rw [State.setHeadRec_headRec_same]
      exact hstate
    · have hmap := State.job?_updJob_same (s := c.s.dropStep h) (id := id) (f := fun j =>
        ({ j with results := j.results ++ [r], step := j.step + 1 }).skip) (fun _ => rfl)
      obtain ⟨m, hm, rfl⟩ := Option.map_eq_some_iff.1 (hmap.symm.trans hj)
      exact hjob m hm
  split
  · exact h1
  split
  · exact h1.andThen (c1.startStep_raw _ _) fun hf _ ok ok1 => (c1.startStep_moves (F := F) id h fun _ => hm ok).jobs hf ok1
  · exact h1.recipeEnd id fun ok j hj => ((hm ok).2 j hj).1

/-- A job loses its head, whose step in hand is gone. -/
theorem Moves.headLost {s : State} {c : Ctx} (h : Moves F s c.s) (st : StepInHand)
    (rest : ∀ {X}, JobsOk X s → c.s.AtRest st.job) : Moves F s (c.headLost st).s := by
  unfold Ctx.headLost
  split
  · exact h
  next j hj =>
  extract_lets c1
  rw [State.job?_id hj]
  have detached (s1 : State) (h1 : Moves F s s1) (rest1 : ∀ {X}, JobsOk X s → s1.AtRest st.job) :
      Moves F s (s1.updJob st.job fun j => { j with head := none }) ∧
        ∀ {X}, JobsOk X s → (s1.updJob st.job fun j => { j with head := none }).AtRest st.job :=
    ⟨h1.andThen (Moves.rawUpdJob _ _ _) fun hf _ ok ok1 => (Moves.updJobAtRest (F := F) s1 st.job _ fun _ => rest1 ok).jobs hf ok1,
      fun ok => (rest1 ok).updJob (fun _ => rfl) fun _ hc => hc⟩
  obtain ⟨h1, rest1⟩ : Moves F s c1.s ∧ ∀ {X}, JobsOk X s → c1.s.AtRest st.job := by
    have hc1 : c1.s = (match j.bus with | some b => c.s.detachHead b | none => c.s).updJob st.job
        fun j => { j with head := none } := by
      rw [← State.job?_id hj]
      rfl
    rw [hc1]
    cases j.bus with
    | none => exact detached _ h rest
    | some b =>
      exact detached _ (h.trans (.bus (.detachHead b))) fun ok => BusMove.atRest (.detachHead b) (rest ok)
  split
  · let c2 := c1.upd fun s => s.updJob st.job fun j => { j with losses := j.losses + 1 }
    have h2 : Moves F s c2.s := h1.trans (.updJob c1.s st.job fun j => { j with losses := j.losses + 1 })
    exact h2.andThen (c2.enterWaitHead_raw _ _) fun hf _ ok ok2 =>
      (c2.enterWaitHead_moves (F := F) _ _ fun _ => (rest1 ok).updJob (fun _ => rfl) fun _ hc => hc).jobs hf ok2
  · refine h1.trans (.trans ?_ (Ctx.askRelease_moves _ _ _ _))
    exact .updJob _ _ _

theorem Ctx.reservedLost_moves (c : Ctx) (h : Head) (b : Bus) : Moves F c.s (c.reservedLost h b).s := by
  unfold Ctx.reservedLost
  split
  · exact .nothing _
  next j hj =>
  split
  next hsusp =>
    extract_lets c1
    obtain ⟨id, -, hid⟩ := Option.bind_eq_some_iff.1 hj
    have h1 : Moves F c.s c1.s := .updJobAtRest _ _ _ fun ok =>
      ok.atRest (State.job?_id hid ▸ hid) (by rw [hsusp.1]; exact nofun) (.inl (by rw [hsusp.1]; exact nofun))
    refine h1.trans ?_
    split
    · exact .updJob _ _ _
    · exact c1.askRelease_moves _ _ _
  · exact .nothing _

end Sys2Proof.Machine
end

section
/-! SUPPORT. The Hazard Unit's operations, the takes, the queue walk, the issue of sweep jobs and the settling of an event are
made of moves. -/

namespace Sys2Proof.Machine

variable {F : Prop}

/-- Moves over a list, in its order. -/
theorem Moves.foldl {α : Type} (f : State → α → State) (h : ∀ s a, Moves F s (f s a)) (l : List α) (s : State) :
    Moves F s (l.foldl f s) := by
  induction l generalizing s with
  | nil => exact .nothing _
  | cons a l ih => exact (h s a).trans (ih _)
theorem Moves.foldlCtx {α : Type} (f : Ctx → α → Ctx) (h : ∀ c a, Moves F c.s (f c a).s) (l : List α) (c : Ctx) :
    Moves F c.s (l.foldl f c).s := by
  induction l generalizing c with
  | nil => exact .nothing _
  | cons a l ih => exact (h c a).trans (ih _)

/-- Where a bus is out of IDLE, an access stands. -/
theorem State.occupied_of_access {s : State} {b : Bus} (h : (s.busRec b).access ≠ .idle) : s.occupied := by
  refine .inr fun hnil => h ?_
  unfold State.busRec
  rw [hnil]
  rfl

/-! ## What operations leave of a record -/

theorem Ctx.freeJobHead_hazards (c : Ctx) (id : Nat) : (c.freeJobHead id).s.hazards = c.s.hazards := by
  unfold Ctx.freeJobHead
  split
  · rfl
  next j _ =>
  split
  · rfl
  next jh _ =>
  have freed (s : State) (h : Head) : (s.freeHead h).hazards = s.hazards := by unfold State.freeHead; dsimp only; split <;> rfl
  show ((match j.bus with | some b => c.s.detachHead b | none => c.s).freeHead jh.head).hazards = _
  rw [freed]
  cases j.bus with
  | none => rfl
  | some b => exact State.hazards_of_offBus (c.s.detachHead_offBus b)

/-- A job that shares its id with another has its line too, where ids are distinct. -/
theorem State.line_of_key {s : State} (hn : (s.sched.jobs.map (·.id)).Nodup) {id l l' : Nat} {w w' : WatchSettings}
    (h : (id, l, w) ∈ s.keys) (h' : (id, l', w') ∈ s.keys) : l = l' := by
  obtain ⟨j, hj, hk⟩ := List.mem_map.1 h
  obtain ⟨j', hj', hk'⟩ := List.mem_map.1 h'
  obtain ⟨hid, rfl, -⟩ : j.id = id ∧ j.line = l ∧ j.watch = w := by simpa using hk
  obtain ⟨hid', rfl, -⟩ : j'.id = id ∧ j'.line = l' ∧ j'.watch = w' := by simpa using hk'
  rw [List.inj_on_of_nodup_map hn hj hj' (hid.trans hid'.symm)]

theorem State.ids_eq_keys (s : State) : s.sched.jobs.map (·.id) = s.keys.map (·.1) := by
  rw [State.keys, List.map_map]; rfl

/-! ## Suspension and the hazard's onset (R81, R84) -/

theorem Ctx.suspend_moves (c : Ctx) {j : Job} (hj : c.s.job? j.id = some j) (counted : j.counted = true) (b : Bus) (h : Hazard) :
    Moves F c.s (c.suspend j b h).s := by
  let s1 := match j.head with
    | some jh => c.s.setHeadRec jh.head
        { c.s.headRec jh.head with state := .reserved, bus := some b, step := none, outstanding := false }
    | none => c.s
  have hs1 : Moves F c.s s1 ∧ s1.sched = c.s.sched ∧ ∀ jh, j.head = some jh → (s1.headRec jh.head).step = none := by
    unfold s1
    cases j.head with
    | none => exact ⟨.nothing _, rfl, nofun⟩
    | some jh =>
      refine ⟨.setHeadRec _ _ _ rfl, rfl, fun k hk => ?_⟩
      cases hk
      dsimp only
      rw [State.setHeadRec_headRec_same]
  obtain ⟨h1, hsched, freed⟩ := hs1
  have hjob : s1.job? j.id = some j := by unfold State.job? at hj ⊢; rw [hsched]; exact hj
  refine h1.trans (.updJobAtRest s1 j.id _ fun ok => ⟨fun k hk => ?_, ok.stepless_of_head hjob fun jh hjh => .inl (freed jh hjh)⟩)
  rw [hjob] at hk
  cases hk
  exact counted

theorem Ctx.jobInHazard_moves (c : Ctx) (b : Bus) (h : Hazard) : Moves F c.s (c.jobInHazard b h).s := by
  unfold Ctx.jobInHazard
  split
  · exact .nothing _
  next j hj =>
  extract_lets hit
  obtain ⟨id, -, hid⟩ := Option.bind_eq_some_iff.1 hj
  have hhit (hc : j.state ≠ .releasing) : Moves F c.s hit.s := by
    unfold hit
    split
    · exact (c.handOverJob_moves j _).trans (Ctx.askRelease_moves _ _ _ _)
    · exact c.suspend_moves (State.job?_id hid ▸ hid) (by simpa [Job.counted] using hc) b h
  cases hstate : j.state with
  | suspended =>
    dsimp only
    split
    · exact .updJob _ _ _
    · exact .nothing _
  | queued => exact .nothing _
  | releasing => exact .nothing _
  | accessing => exact hhit (by rw [hstate]; exact nofun)
  | monitoring => exact hhit (by rw [hstate]; exact nofun)
  | waitHead => exact hhit (by rw [hstate]; exact nofun)
  | measuring => exact hhit (by rw [hstate]; exact nofun)
  | held => exact hhit (by rw [hstate]; exact nofun)

/-- A hazard that acts on a CONNECTED bus parks it or releases it (R81). -/
theorem State.hazardAction_access {s : State} {h : Hazard} {b : Bus} (hb : (s.busRec b).access = .connected) :
    ((s.hazardAction h b).busRec b).access ≠ .idle := by
  obtain ⟨i, hi⟩ := s.hazardAction_busRec (b := b) (b' := b) h
  rw [hi, if_pos rfl]
  split <;> simp [BusRecord.released, BusRecord.parked, hb]

theorem Ctx.onsetActs_moves (c : Ctx) (h : Hazard) (b : Bus) : Moves F c.s (c.onsetActs h b).s := by
  unfold Ctx.onsetActs
  extract_lets marked c1 c2 c3
  have h2 : Moves F c.s c2.s := .bus (.hazard h b _)
  refine h2.trans (.trans ?_ (c3.jobInHazard_moves b h))
  unfold c3
  have hmarked : c.s.marksLine h b = marked := rfl
  clear_value marked
  cases marked with
  | none => exact .nothing _
  | some l =>
    have hconnected : (c.s.busRec b).access = .connected := by
      unfold State.marksLine at hmarked
      split at hmarked
      next hmarks => exact hmarks.2.2
      · cases hmarked
    exact .ticket (.verdict c2 rfl _ _ (State.occupied_of_access (State.hazardAction_access (s := c1.s) hconnected)))

theorem Ctx.applyHazard_moves (c : Ctx) (h : Hazard) (b : Bus) : Moves F c.s (c.applyHazard h b).s := by
  unfold Ctx.applyHazard
  extract_lets r
  split
  · exact c.onsetActs_moves h b
  · exact .bus (.hazardRec b _ (.inl rfl))

theorem State.setCondition_moves (s : State) (i : HazardInput) (k : Condition) : Moves F s (s.setCondition i k) := by
  cases i with
  | a b => exact .bus (.hazardRec b _ (.inl rfl))
  | storm => exact .bus (.storm k)

theorem State.holdSweep_moves (s : State) : Moves F s s.holdSweep := by
  unfold State.holdSweep
  split
  next hrun => exact .sweep (.of (.refl _) rfl rfl fun hstop => by rw [hrun] at hstop; cases hstop)
  · exact .nothing _

theorem Ctx.inputOnset_moves (c : Ctx) (i : HazardInput) : Moves F c.s (c.inputOnset i).s := by
  unfold Ctx.inputOnset
  extract_lets c1 c2 hit changed c3
  have h2 : Moves F c1.s c2.s := by
    unfold c2
    split
    · exact State.holdSweep_moves _
    · exact .nothing _
  exact ((c.s.setCondition_moves i _).trans h2).trans (.foldlCtx _ (fun c b => c.applyHazard_moves _ b) hit c3)

/-! ## The end of a condition (R78, R85) -/

theorem State.stopApplying_moves (s : State) (h : Hazard) (b : Bus) : Moves F s (s.stopApplying h b) := by
  have written (e : Option ExitTarget) : Moves F s (s.setHazardRec b { s.hazardRec b with exit := e }) :=
    .bus (.hazardRec b _ (.inl rfl))
  unfold State.stopApplying
  dsimp only
  split
  · exact written _
  · exact written _
  · split
    · exact written _
    · exact .nothing _
  · exact .nothing _

theorem Ctx.releaseSweep_moves (c : Ctx) : Moves F c.s c.releaseSweep.s := by
  unfold Ctx.releaseSweep
  split
  next hheld => exact .sweep (.of (.refl _) rfl rfl fun hstop => by rw [hheld] at hstop; cases hstop)
  · exact .nothing _

theorem Ctx.endCondition_moves (c : Ctx) (i : HazardInput) : Moves F c.s (c.endCondition i).s := by
  unfold Ctx.endCondition
  extract_lets hit c1 c2
  have h2 : Moves F c.s c2.s :=
    (c.s.setCondition_moves i _).trans (.foldl _ (fun s b => s.stopApplying_moves (hazardOf i) b) hit _)
  refine h2.trans ?_
  split
  · exact c2.releaseSweep_moves
  · exact .nothing _

/-! ## Takes (R42 to R45, R100) -/

theorem Ctx.judgeBusy_moves (c : Ctx) (b : Bus) (guard : (c.s.busRec b).access = .guard) : Moves F c.s (c.judgeBusy b).s := by
  unfold Ctx.judgeBusy
  extract_lets owner c1
  have h1 : Moves F c.s c1.s := .bus (.guardBusy b guard)
  refine h1.trans ?_
  clear_value owner
  cases owner with
  | none => exact .nothing _
  | some j => exact (c1.handOverJob_moves j _).trans (Ctx.removeJob_moves _ _ _)

theorem Ctx.guardBegun_moves (c : Ctx) (b : Bus) : Moves F c.s (c.guardBegun b).s := by
  unfold Ctx.guardBegun
  split
  next h => exact c.judgeBusy_moves b h.1
  · exact .nothing _

/-- A job at rest takes its line (R42 to R45). -/
theorem Moves.takeLine {s : State} {c : Ctx} (h : Moves F s c.s) (id : Nat) (form : AccessMode) (b : Bus) (note : JobNote)
    (rest : ∀ {X}, JobsOk X s → c.s.AtRest id) (idle : (c.s.busRec b).access = .idle) (safe : (c.s.hazardRec b).state = .none)
    (free : ∀ j, c.s.job? id = some j → (c.s.sched.jobs.map (·.id)).Nodup → c.s.groupHeldElsewhere b j.line = false) :
    Moves F s (c.takeLine id form b note).s := by
  unfold Ctx.takeLine
  split
  · exact h
  next j hj =>
  extract_lets loop c1
  have htake : BusMove c.s c1.s := by
    have hid := State.job?_id hj
    subst hid
    exact .take form b j (State.job?_mem hj) idle safe (free j hj)
  have h1 : Moves F s c1.s := h.trans (.bus htake)
  cases form with
  | guarded => exact h1.trans (Ctx.guardBegun_moves (c1.jobChanged id note) b)
  | forced => exact h1
  | monitorOnly =>
    exact (h1.andThen (c1.enterHolding_raw _ _ _ _) fun hf _ ok ok1 =>
      (c1.enterHolding_moves (F := F) _ _ _ _ fun _ => htake.atRest (rest ok)).jobs hf ok1).trans (Ctx.levelCheck_moves _ _)

/-! ## The exit (R85, R86) -/

theorem State.groupHeldElsewhere_of_lines {s t : State} (h : ∀ b, (t.busRec b).line = (s.busRec b).line) (b : Bus) (l : Nat) :
    t.groupHeldElsewhere b l = s.groupHeldElsewhere b l := by
  unfold State.groupHeldElsewhere
  simp only [h]

theorem Ctx.retake_moves (c : Ctx) {j : Job} (hfound : c.s.job? j.id = some j) (counted : j.counted = true) (b : Bus) :
    Moves F c.s (c.retake j b).s := by
  have hj := State.job?_mem hfound
  unfold Ctx.retake
  split
  next hok =>
    unfold State.takeOk at hok
    simp only [Bool.and_eq_true, beq_iff_eq, Bool.not_eq_true'] at hok
    obtain ⟨⟨⟨⟨-, hsafe⟩, hidle⟩, -⟩, hfree⟩ := hok
    extract_lets c1
    have rest : ∀ {X}, JobsOk X (c.freeJobHead j.id).s → (c.freeJobHead j.id).s.AtRest j.id := fun ok => by
      refine ⟨fun k hk => ?_, c.freeJobHead_stepless j.id ok⟩
      obtain ⟨m, hm, -, hstate⟩ := State.job?_of_faces (c.freeJobHead_faces j.id) hk
      rw [hfound] at hm
      cases hm
      rw [Job.counted, ← hstate]
      exact counted
    have h1 : Moves F (c.freeJobHead j.id).s c1.s := .updJobAtRest _ _ _ rest
    have rest1 : ∀ {X}, JobsOk X (c.freeJobHead j.id).s → c1.s.AtRest j.id := fun ok =>
      (rest ok).updJob (fun _ => rfl) fun _ _ => rfl
    have hkeys : c1.s.keys = c.s.keys := by
      refine (State.updJob_keys _ _ _ ?_).trans (c.freeJobHead_keys j.id)
      exact fun _ => ⟨rfl, rfl, rfl⟩
    have hhaz : (c1.s.hazardRec b).state = .none := by
      show ((c.freeJobHead j.id).s.hazardRec b).state = .none
      unfold State.hazardRec
      rw [c.freeJobHead_hazards]
      exact hsafe
    refine (c.freeJobHead_moves j.id).trans (h1.takeLine _ _ _ _ rest1 ((c.freeJobHead_access j.id b).trans hidle) hhaz fun k hk hn => ?_)
    rw [State.ids_eq_keys, hkeys, ← State.ids_eq_keys] at hn
    have hmem := State.mem_keys (State.job?_mem hk)
    rw [hkeys, State.job?_id hk] at hmem
    rw [State.line_of_key hn hmem (State.mem_keys hj)]
    exact (State.groupHeldElsewhere_of_lines (c.freeJobHead_line j.id) b j.line).trans hfree
  · exact .nothing _

theorem Ctx.removeJob_gone (c : Ctx) (id : Nat) (o : JobOutcome) : (c.removeJob id o).s.job? id = none := by
  by_contra h
  obtain ⟨k, hk⟩ := Option.ne_none_iff_exists'.1 h
  exact (c.job?_removeJob hk).1 rfl

/-- A job that has asked for its release is gone or RELEASING. -/
theorem Ctx.askRelease_gone (c : Ctx) (id : Nat) (o : JobOutcome) (note : JobNote) {j : Job}
    (h : (c.askRelease id o note).s.job? id = some j) : j.state = .releasing := by
  unfold Ctx.askRelease at h
  split at h
  next hnone => rw [hnone] at h; cases h
  next j0 hj0 =>
  extract_lets c1 c2 c3 at h
  have h3 : ∀ k, c3.s.job? id = some k → k.state = .releasing := by
    intro k hk
    have hmap := State.job?_updJob_same (s := (c1.freeJobHead id).s) (id := id) (f := fun j =>
      { j with state := .releasing, outcome := some o, holdLimit := none, hazardHold := none, suspendedFrom := none })
      fun _ => rfl
    obtain ⟨k', -, rfl⟩ := Option.map_eq_some_iff.1 (hmap.symm.trans hk)
    rfl
  have removed (d : Ctx) {k : Job} (hk : (d.removeJob id o).s.job? id = some k) : k.state = .releasing := by
    rw [d.removeJob_gone] at hk; cases hk
  split at h
  · exact removed _ h
  next b _ =>
  split at h
  · extract_lets c4 at h
    have hsched : c4.s.sched = c3.s.sched := State.sched_of_offBus (c3.s.releaseBus_offBus b false)
    split at h
    · exact removed _ h
    · refine h3 j ?_
      unfold State.job? at h ⊢
      rw [hsched] at h
      exact h
  · exact removed _ h

theorem Ctx.handOver_sched (c : Ctx) (k l : Nat) (r : RevisitReason) : (c.handOver k l r).s.sched = c.s.sched := by
  unfold Ctx.handOver Ctx.dropUntestable
  dsimp only
  (repeat' split) <;> rfl
theorem Ctx.handOver_access (c : Ctx) (k l : Nat) (r : RevisitReason) : (c.handOver k l r).s.access = c.s.access := by
  unfold Ctx.handOver Ctx.dropUntestable
  dsimp only
  (repeat' split) <;> rfl
theorem Ctx.handOverJob_sched (c : Ctx) (j : Job) (r : RevisitReason) : (c.handOverJob j r).s.sched = c.s.sched := by
  unfold Ctx.handOverJob
  split
  · exact c.handOver_sched _ _ _
  · rfl
theorem Ctx.handOverJob_access (c : Ctx) (j : Job) (r : RevisitReason) : (c.handOverJob j r).s.access = c.s.access := by
  unfold Ctx.handOverJob
  split
  · exact c.handOver_access _ _ _
  · rfl

/-- A level check leaves the accesses, or it makes the bus's owner yield. -/
theorem Ctx.levelCheck_spec (c : Ctx) (b : Bus) {j : Job} (hown : (c.s.busRec b).owner.bind c.s.job? = some j) :
    (c.levelCheck b).s.access = c.s.access ∨ ∀ k, (c.levelCheck b).s.job? j.id = some k → k.state = .releasing := by
  have hyield (d : Ctx) (hd : (d.s.busRec b).owner.bind d.s.job? = some j) : (d.yieldBus b).s.access = d.s.access ∨
      ∀ k, (d.yieldBus b).s.job? j.id = some k → k.state = .releasing := by
    have gone : ∀ k, ((d.handOverJob j .yielded).askRelease j.id .yielded).s.job? j.id = some k → k.state = .releasing :=
      fun k hk => Ctx.askRelease_gone _ _ _ _ hk
    unfold Ctx.yieldBus
    rw [hd]
    dsimp only
    split
    · exact .inr gone
    · exact .inr gone
    · exact .inr gone
    · exact .inr gone
    · split
      · exact .inr gone
      · exact .inl rfl
    · split
      · exact .inr gone
      · exact .inl rfl
    · exact .inl rfl
    · exact .inl rfl
  unfold Ctx.levelCheck Ctx.mayRise
  split
  · exact .inl rfl
  · split
    · unfold Ctx.rise
      extract_lets w r c1
      split
      · exact hyield c1 hown
      · exact .inl rfl
    · exact .inl rfl

/-- A job that a release leaves carries its mark, unless the mark named the job that is gone. -/
theorem Ctx.job?_askRelease (c : Ctx) {i n : Nat} {o : JobOutcome} {note : JobNote} {k : Job}
    (hk : (c.askRelease i o note).s.job? n = some k) : ∃ m, c.s.job? n = some m ∧
      (k.takeover = m.takeover ∨ m.takeover = some i ∧ (c.askRelease i o note).s.job? i = none) := by
  unfold Ctx.askRelease at hk ⊢
  split at hk
  · exact ⟨k, hk, .inl rfl⟩
  next j hj =>
  extract_lets c1 c2 c3 at hk
  have h1 : c1.s.faces = c.s.faces := by
    unfold c1
    split
    · exact c.abortEntered_faces i
    · rfl
  have h3 {p : Job} (hp : c3.s.job? n = some p) : ∃ m, c.s.job? n = some m ∧ m.takeover = p.takeover := by
    let f : Job → Job := fun j =>
      { j with state := .releasing, outcome := some o, holdLimit := none, hazardHold := none, suspendedFrom := none }
    have hold : ∃ q, (c1.freeJobHead i).s.job? n = some q ∧ q.takeover = p.takeover := by
      by_cases hn : n = i
      · subst hn
        obtain ⟨q, hq, rfl⟩ := Option.map_eq_some_iff.1
          ((State.job?_updJob_same (s := (c1.freeJobHead n).s) (id := n) (f := f) fun _ => rfl).symm.trans hp)
        exact ⟨q, hq, rfl⟩
      · exact ⟨p, (State.job?_updJob_other (s := (c1.freeJobHead i).s) f (fun _ => rfl) hn).symm.trans hp, rfl⟩
    obtain ⟨q, hq, hqp⟩ := hold
    obtain ⟨m, hm, hmq, -⟩ := State.job?_of_faces ((c1.freeJobHead_faces i).trans h1) hq
    exact ⟨m, hm, hmq.trans hqp⟩
  have removed (d : Ctx) (hd : d.s.sched = c3.s.sched) (hdk : (d.removeJob i o).s.job? n = some k) :
      ∃ m, c.s.job? n = some m ∧ (k.takeover = m.takeover ∨ m.takeover = some i ∧ (d.removeJob i o).s.job? i = none) := by
    obtain ⟨-, p, hp, -, hmark⟩ := d.job?_removeJob hdk
    obtain ⟨m, hm, hmp⟩ := h3 (by unfold State.job? at hp ⊢; rw [← hd]; exact hp)
    refine ⟨m, hm, ?_⟩
    by_cases hi : m.takeover = some i
    · exact .inr ⟨hi, d.removeJob_gone i o⟩
    · exact .inl ((hmark (hmp ▸ hi)).trans hmp.symm)
  split at hk
  · exact removed c3 rfl hk
  next b _ =>
  split at hk
  next howner =>
    extract_lets c4 at hk
    rw [if_pos howner]
    have hsched : c4.s.sched = c3.s.sched := State.sched_of_offBus (c3.s.releaseBus_offBus b false)
    split at hk
    next hidle => rw [if_pos hidle]; exact removed c4 hsched hk
    · obtain ⟨m, hm, hmp⟩ := h3 (by unfold State.job? at hk ⊢; rw [← hsched]; exact hk)
      exact ⟨m, hm, .inl hmp.symm⟩
  next howner => rw [if_neg howner]; exact removed c3 rfl hk

/-- A mark that names the job which enters WAIT-HEAD stays while that job stands. -/
theorem Ctx.enterWaitHead_mark (c : Ctx) {id n : Nat} {k : JobNote} {jo jn : Job} (ho : (c.enterWaitHead id k).s.job? id = some jo)
    (hn : (c.enterWaitHead id k).s.job? n = some jn) (mark : ∀ m, c.s.job? n = some m → m.takeover = some id) :
    jn.takeover = some id := by
  unfold Ctx.enterWaitHead at ho hn
  extract_lets c1 at hn
  have mark1 : ∀ m, c1.s.job? n = some m → m.takeover = some id := by
    intro m hm
    let f : Job → Job := fun j => { j with
      state := .waitHead, waitOrder := c.s.sched.nextWait, waitTime := c.s.link.time, holdLimit := none, hazardHold := none }
    by_cases hni : n = id
    · subst hni
      obtain ⟨q, hq, rfl⟩ := Option.map_eq_some_iff.1
        ((State.job?_updJob_same (s := c.s) (id := n) (f := f) fun _ => rfl).symm.trans hm)
      exact mark q hq
    · exact mark m ((State.job?_updJob_other (s := c.s) f (fun _ => rfl) hni).symm.trans hm)
  rcases (c1.jobChanged id k).preemptHead_eq id with h | ⟨v, h⟩ <;> rw [h] at ho hn
  · exact mark1 jn hn
  · obtain ⟨m, hm, hmark⟩ := Ctx.job?_askRelease _ hn
    have hm1 : c1.s.job? n = some m := by
      unfold State.job? at hm ⊢
      rw [Ctx.handOverJob_sched] at hm
      exact hm
    rcases hmark with hmark | ⟨hv, hgone⟩
    · rw [hmark, mark1 m hm1]
    · have hid : v.id = id := Option.some.inj (hv.symm.trans (mark1 m hm1))
      have hnone : ((c1.jobChanged id k).preempt v).s.job? id = none := by rw [← hid] at hgone ⊢; exact hgone
      rw [ho] at hnone
      cases hnone

theorem Ctx.resumeJob_moves (c : Ctx) (id : Nat) (b : Bus)
    (connected : ∀ j, c.s.job? id = some j → j.state = .suspended → (c.s.busRec b).access = .connected) :
    Moves F c.s (c.resumeJob id b).s := by
  unfold Ctx.resumeJob
  split
  · exact .nothing _
  next j hj =>
  split
  · exact .nothing _
  next hsusp =>
  extract_lets c1
  have h1 : Moves F c.s c1.s := .updJob _ _ _
  have hconn : (c1.s.busRec b).access = .connected := connected j hj (not_not.1 hsusp)
  have rest : ∀ {X}, JobsOk X c1.s → c1.s.AtRest id := fun ok => by
    have hmap := State.job?_updJob_same (s := c.s) (id := id) (f := fun j => { j with suspendedFrom := none, hazardHold := none })
      fun _ => rfl
    rw [hj] at hmap
    exact ok.atRest hmap (by rw [show j.state = _ from not_not.1 hsusp]; exact nofun)
      (.inl (by rw [show j.state = _ from not_not.1 hsusp]; exact nofun))
  refine h1.trans ?_
  split
  next jh _ =>
    extract_lets c2
    have h2 : Moves F c1.s c2.s := c1.giveHead_moves id b jh.head _ hconn rest
    refine h2.trans ?_
    split
    next m hm => exact c2.passOwnership_moves _ _ fun ok _ k _ hk => State.markedFor?_spec hm ok k hk
    · exact .nothing _
  · split
    next m hm =>
      refine (c1.enterWaitHead_moves _ _ rest).andThen (Ctx.passOwnership_raw _ _ _) fun hf _ ok ok2 =>
        (Ctx.passOwnership_moves (F := F) (c1.enterWaitHead id .resumed) _ _ fun _ jo jn ho hn => ?_).jobs hf ok2
      exact c1.enterWaitHead_mark ho hn fun k hk => State.markedFor?_spec hm ok k hk
    · exact c1.moveConnected_moves _ _ rest

theorem Ctx.returnToNormal_moves (c : Ctx) (b : Bus) (safe : (c.s.hazardRec b).state = .none) :
    Moves F c.s (c.returnToNormal b).s := by
  unfold Ctx.returnToNormal
  extract_lets r
  split
  · exact .nothing _
  next j hj =>
  have hfound : c.s.job? j.id = some j := by
    obtain ⟨id, -, hid⟩ := Option.bind_eq_some_iff.1 hj
    exact State.job?_id hid ▸ hid
  split
  · exact .nothing _
  next hsusp =>
  have hstate : j.state = .suspended := not_not.1 hsusp
  split
  next hparked =>
    have hpark : (c.s.busRec b).access = .parked := hparked
    have hrec : (c.s.resume b).busRec b = { c.s.busRec b with access := .connected, func := .hold } := by
      rw [State.resume_busRec, if_pos rfl, hpark]
    have hown : ((c.s.resume b).busRec b).owner.bind (c.s.resume b).job? = some j := by
      have hjob : (c.s.resume b).job? = c.s.job? := by
        funext id; unfold State.job?; rw [State.sched_of_offBus (c.s.resume_offBus b)]
      rw [hrec, hjob]
      exact hj
    refine .trans (.trans (.bus (.resume b safe)) (Ctx.levelCheck_moves (c.upd fun s => s.resume b) b))
      (Ctx.resumeJob_moves _ _ _ fun k hk hsusp => ?_)
    rcases Ctx.levelCheck_spec (c.upd fun s => s.resume b) b hown with hsame | hgone
    · unfold State.busRec
      rw [hsame]
      show ((c.s.resume b).busRec b).access = _
      rw [hrec]
    · rw [hgone k hk] at hsusp
      cases hsusp
  · refine .trans (.bus (.resume b safe)) (.updJobAtRest _ _ _ fun ok => ok.atRest (j := j) ?_ ?_ (.inl ?_))
    · unfold State.job? at hfound ⊢
      rw [State.sched_of_offBus (c.s.resume_offBus b)]
      exact hfound
    · rw [hstate]; exact nofun
    · rw [hstate]; exact nofun
  · exact c.retake_moves hfound (by rw [Job.counted, hstate]; rfl) b
  · exact .updJob _ _ _
  · exact .nothing _

theorem Ctx.makeExit_moves (c : Ctx) (b : Bus) : Moves F c.s (c.makeExit b).s := by
  unfold Ctx.makeExit
  extract_lets r h tell
  split
  · exact .nothing _
  · exact .bus (.hazard .b b _)
  next c1 _ _ =>
    have h1 : Moves F c.s c1.s := by
      refine .trans (.bus (.hazardRec b { r with state := .none, exit := none } (.inr rfl)))
        (Ctx.returnToNormal_moves (tell (c.upd fun s => s.setHazardRec b { r with state := .none, exit := none }) .none) b ?_)
      show ((c.s.setHazardRec b { r with state := .none, exit := none }).hazardRec b).state = .none
      simp
    refine h1.trans ?_
    split <;> exact .nothing _

end Sys2Proof.Machine
end

section
/-! SUPPORT. The queue walk, the issue of sweep jobs and the settling of an event are made of moves. -/

namespace Sys2Proof.Machine

variable {F : Prop}

/-! ## The queue and its walk (R99, R100, R114) -/

theorem insertJob_mem {j k : Job} {l : List Job} (h : k ∈ insertJob j l) : k = j ∨ k ∈ l := by
  induction l with
  | nil => exact .inl (List.mem_singleton.1 h)
  | cons x xs ih =>
    unfold insertJob at h
    split at h
    · exact List.mem_cons.1 h
    · rcases List.mem_cons.1 h with rfl | h
      · exact .inr List.mem_cons_self
      · exact (ih h).imp id (List.mem_cons_of_mem _)

theorem State.queue_mem {s : State} {j : Job} (h : j ∈ s.queue) : j ∈ s.sched.jobs ∧ j.state = .queued := by
  have sorted (l : List Job) : ∀ k ∈ l.foldr insertJob [], k ∈ l := by
    induction l with
    | nil => exact fun k hk => hk
    | cons x xs ih =>
      intro k hk
      rcases insertJob_mem hk with rfl | hk
      · exact List.mem_cons_self
      · exact List.mem_cons_of_mem _ (ih k hk)
  simpa using sorted _ j h

/-- A job starts on a bus that is allocatable, with no bus that names a line of its group (R99). -/
theorem State.startBus?_spec {s : State} {l : Nat} {b : Bus} (h : s.startBus? l = some b) :
    s.groupHeld (groupOf l) = false ∧ s.allocatable b = true ∧ s.pins.supplyGood = true := by
  unfold State.startBus? at h
  split at h
  · cases h
  next hheld =>
    have hstart := List.find?_some h
    simp only [State.startable, Bool.and_eq_true] at hstart
    exact ⟨by simpa using hheld, hstart.1.2, hstart.1.1⟩

theorem State.not_groupHeldElsewhere {s : State} {l : Nat} (h : s.groupHeld (groupOf l) = false) (b : Bus) :
    s.groupHeldElsewhere b l = false := by
  simp only [State.groupHeld, State.groupHeldElsewhere, List.any_eq_false] at h ⊢
  intro b' hb' hboth
  exact h b' hb' (by simpa using (Bool.and_eq_true _ _ ▸ hboth).2)

theorem State.allocatable_spec {s : State} {b : Bus} (h : s.allocatable b = true) :
    (s.busRec b).access = .idle ∧ (s.busRec b).owner = none ∧ (s.hazardRec b).state = .none := by
  simpa [State.allocatable, and_assoc] using h

theorem Ctx.startJob_moves (c : Ctx) (j : Job) (b : Bus) (hj : j ∈ c.s.sched.jobs) (hq : j.state = .queued)
    (hb : c.s.startBus? j.line = some b) :
    Moves F c.s (c.startJob j b).s := by
  obtain ⟨hheld, halloc, -⟩ := State.startBus?_spec hb
  obtain ⟨hidle, -, hsafe⟩ := State.allocatable_spec halloc
  unfold Ctx.startJob
  extract_lets c1
  have hkeys : c1.s.keys = c.s.keys := by
    refine State.updJob_keys c.s j.id (fun k => { k with
      state := .accessing, startMark := some c.s.sched.nextStart, bus := some b, snapshot := some (c.s.snapshot k.line) }) ?_
    exact fun _ => ⟨rfl, rfl, rfl⟩
  have rest : ∀ {X}, JobsOk X c.s → c.s.AtRest j.id := fun ok =>
    ok.atRest (ok.job?_of_mem hj) (by rw [hq]; exact nofun) (.inl (by rw [hq]; exact nofun))
  have h1 : Moves F c.s c1.s := by
    refine .trans (.updJobAtRest c.s j.id (fun k => { k with
      state := .accessing, startMark := some c.s.sched.nextStart, bus := some b, snapshot := some (c.s.snapshot k.line) }) rest)
      (.counters _ (c.s.sched.nextStart + 1) c.s.sched.nextWait)
  have rest1 : ∀ {X}, JobsOk X c.s → c1.s.AtRest j.id := fun ok =>
    State.AtRest.congr ((rest ok).updJob (f := fun k => { k with
      state := .accessing, startMark := some c.s.sched.nextStart, bus := some b, snapshot := some (c.s.snapshot k.line) })
      (fun _ => rfl) fun _ _ => rfl) rfl rfl
  refine h1.takeLine _ _ _ _ rest1 hidle hsafe fun k hk hn => ?_
  rw [State.ids_eq_keys, hkeys, ← State.ids_eq_keys] at hn
  have hmem := State.mem_keys (State.job?_mem hk)
  rw [hkeys, State.job?_id hk] at hmem
  rw [State.line_of_key hn hmem (State.mem_keys hj)]
  exact State.not_groupHeldElsewhere hheld b

theorem Ctx.walkList_moves {c d : Ctx} {js : List Job} (hjs : ∀ j ∈ js, j ∈ c.s.sched.jobs ∧ j.state = .queued)
    (h : c.walkList js = some d) : Moves F c.s d.s := by
  induction js with
  | nil => cases h
  | cons j js ih =>
    have hrest := ih fun k hk => hjs k (List.mem_cons_of_mem _ hk)
    unfold Ctx.walkList at h
    split at h
    · cases h; exact c.removeJob_moves _ _
    split at h
    · exact hrest h
    split at h
    next b hb => cases h; exact c.startJob_moves j b (hjs j List.mem_cons_self).1 (hjs j List.mem_cons_self).2 hb
    split at h
    · split at h
      · cases h
        refine .trans ?_ (Ctx.preempt_moves _ _)
        exact .updJob _ _ _
      · exact hrest h
    · exact hrest h

/-! ## The issue of a sweep job (R123 to R127) -/

theorem SweepKept.refl (s : State) : SweepKept s s.sweep := .of (.refl _) rfl rfl id

/-- A change of the sweep upon a change. -/
theorem SweepKept.trans {s : State} {w x : Sweep} (h : SweepKept s w) (k : SweepKept (s.setSweep w) x) : SweepKept s x where
  revisit hn hl := by obtain ⟨hn', hl'⟩ := h.revisit hn hl; exact k.revisit hn' hl'
  pace hp := k.pace (h.pace hp)
  concurrency hc := k.concurrency (h.concurrency hc)
  stopped ha hs := k.stopped ha (h.stopped ha hs)

theorem State.startPace_moves (s : State) : Moves F s s.startPace := by
  unfold State.startPace
  split
  · exact .sweep (.of (.refl _) rfl rfl id)
  · exact .nothing _

theorem State.mayIssue_spec {s : State} (h : s.mayIssue = true) :
    s.sweep.state = .running ∧ s.pins.supplyGood = true ∧ s.sched.jobs.length < 16 ∧ s.countOf .sweep < s.sweep.concurrency := by
  simp only [State.mayIssue, Bool.and_eq_true, beq_iff_eq, decide_eq_true_eq] at h
  obtain ⟨⟨⟨⟨hrun, -⟩, hsupply⟩, hcount⟩, hroom⟩ := h
  exact ⟨hrun, hsupply, hroom, hcount⟩

theorem State.place_lt {X : Nat → Bool} {s : State} (h : s.sched.jobs.length < 16) :
    ((s.sched.jobs.map (·.id)).filter fun n => !X n).length < 16 := by
  have hle := List.length_filter_le (fun n => !X n) (s.sched.jobs.map (·.id))
  rw [List.length_map] at hle
  omega

/-- A job for a line that no job names joins a table that has room for it (R93, R126). -/
theorem JobsOk.enqueueFree {X : Nat → Bool} {s : State} (ok : JobsOk X s) {q : JobRequest} (room : s.sched.jobs.length < 16)
    (count : s.countOf q.source < q.source.limit) (free : s.lineBusy q.line = false) : JobsOk X (s.enqueue q) := by
  have none : ∀ j ∈ s.sched.jobs, j.line ≠ q.line := by simpa [State.lineBusy] using free
  exact ok.enqueue room.le (State.place_lt room) count (fun _ j hj hl => absurd hl (none j hj)) fun j hj _ hl => absurd hl (none j hj)

/-- An issue from a state that may issue, after changes of the sweep alone. -/
theorem Ctx.issueJob_moves {s : State} {w : Sweep} {c : Ctx} (may : s.mayIssue = true) (hc : c.s = s.setSweep w)
    (kept : SweepKept s w) {l : Nat} (free : s.lineBusy l = false) (n : Nat) (x : Bool) : Moves F s (c.issueJob l n x).s := by
  obtain ⟨hrun, hsupply, hroom, hcount⟩ := State.mayIssue_spec may
  unfold Ctx.issueJob
  extract_lets verify id
  have h1 : Moves F s (c.s.enqueue (JobRequest.routine .sweep l verify)) := by
    rw [hc]
    exact .one (.job (.enqueue w _ kept hsupply (.inr hrun) (fun _ => hroom.le) (.inl (show WatchSettings.ofSweep.n ≤ 7 by decide))))
      fun ok => ((Moves.sweep (F := True) kept).jobs trivial ok).enqueueFree hroom (hcount.trans_le ok.concurrency.2) free
  refine h1.trans (.trans ?_ (State.startPace_moves _))
  exact .sweep (.of (.refl _) rfl rfl fun h => h)

theorem Ctx.tierTwo_spec (c : Ctx) (es : List RevisitEntry) : ∃ w, (c.tierTwo es).1.s = c.s.setSweep w ∧ SweepKept c.s w ∧
    ∀ e, (c.tierTwo es).2 = some e → c.s.lineBusy e.line = false := by
  induction es generalizing c with
  | nil => exact ⟨c.s.sweep, rfl, .refl _, nofun⟩
  | cons e es ih =>
    unfold Ctx.tierTwo
    split
    · exact ih c
    split
    next hjudged =>
      refine ⟨c.s.sweep, rfl, .refl _, fun x hx => ?_⟩
      cases hx
      unfold State.judgeRevisit at hjudged
      split at hjudged
      · cases hjudged
      next hfree => simpa using fun h => hfree (.inl h)
    · exact ih c
    · obtain ⟨w, hw, hk, hfree⟩ := ih (c.dropUnequipped e)
      have hdrop : SweepKept c.s { c.s.sweep with
          revisit := c.s.sweep.revisit.filter fun x => x.line != e.line, stats := c.s.sweep.stats.addUntestable } :=
        .of (.filter _ _) rfl rfl id
      exact ⟨w, hw, hdrop.trans hk, hfree⟩

/-- A pass end changes the sweep alone. -/
theorem Ctx.passEnd_spec (c : Ctx) : ∃ w, c.passEnd.s = c.s.setSweep w ∧ SweepKept c.s w := by
  cases h : c.s.sweep.passMode with
  | single =>
    refine ⟨{ c.s.sweep with pass := (c.s.sweep.pass + 1) % 65536, stats := PassStats.zero, cursor := 0
                             state := .stopped, timer := .none }, ?_, .of (.refl _) rfl rfl fun _ => rfl⟩
    simp [Ctx.passEnd, h]
  | continuous =>
    refine ⟨{ c.s.sweep with pass := (c.s.sweep.pass + 1) % 65536, stats := PassStats.zero, cursor := 0 }, ?_,
      .of (.refl _) rfl rfl fun h => h⟩
    simp [Ctx.passEnd, h]

/-- The line at which the cursor's walk stops is eligible (R124). -/
theorem State.cursorWalk_eligible {s : State} {n line k l : Nat} (h : (s.cursorWalk n line k).2 = some l) : s.eligible l = true := by
  induction n generalizing line k with
  | zero => cases h
  | succ n ih =>
    unfold State.cursorWalk at h
    split at h
    next he => cases h; exact he
    · exact ih h

theorem State.eligible_free {s : State} {l : Nat} (h : s.eligible l = true) : s.lineBusy l = false := by
  simp only [State.eligible, Bool.and_eq_true, Bool.not_eq_true'] at h
  obtain ⟨⟨-, hfree⟩, -⟩ := h
  exact hfree

theorem Ctx.tierThree_moves {s : State} {w : Sweep} {c : Ctx} (may : s.mayIssue = true) (hc : c.s = s.setSweep w)
    (kept : SweepKept s w) : Moves F s c.tierThree.s := by
  unfold Ctx.tierThree
  extract_lets w0 r c1
  have hstats : SweepKept c.s { c.s.sweep with
      stats := { c.s.sweep.stats with skipped := min 65535 (c.s.sweep.stats.skipped + r.1) } } := .of (.refl _) rfl rfl id
  rw [hc] at hstats
  have h1 := kept.trans hstats
  have hc1 : c1.s = s.setSweep { w with stats := { w.stats with skipped := min 65535 (w.stats.skipped + r.1) } } := by
    show c.s.setSweep _ = _
    rw [hc]
    rfl
  obtain ⟨x, hx, hxk⟩ := c1.passEnd_spec
  rw [hc1] at hx hxk
  have hend := h1.trans hxk
  split
  · extract_lets stays
    next l hl =>
    have hfree : s.lineBusy l = false := by
      have hwalk : c.s.lineBusy l = false := State.eligible_free (State.cursorWalk_eligible hl)
      rw [hc] at hwalk
      exact hwalk
    split
    · refine Ctx.issueJob_moves may (w := { c1.s.sweep with cursor := l + 1 }) ?_ (h1.trans ?_) hfree _ _
      · show c1.s.setSweep _ = _
        rw [hc1]
        rfl
      · rw [hc1]
        exact .of (.refl _) rfl rfl id
    · exact Ctx.issueJob_moves may hx hend hfree _ _
  · show Moves F s c1.passEnd.s.startPace
    rw [hx]
    exact (Moves.sweep hend).trans (State.startPace_moves _)

/-- The line of a verify-due ticket is issued where no job names it (R124). -/
theorem State.tierOne_free {s : State} {l : Nat} (h : s.tierOne = some l) : s.lineBusy l = false := by
  obtain ⟨t, ht, hl⟩ := Option.bind_eq_some_iff.1 h
  have hcand := List.find?_some ht
  simp only [State.verifyCandidate, hl, Bool.and_eq_true, Bool.not_eq_true'] at hcand
  obtain ⟨-, ⟨⟨hfree, -⟩, -⟩, -⟩ := hcand
  exact hfree

theorem Ctx.issueAttempt_moves (c : Ctx) : Moves F c.s c.issueAttempt.s := by
  unfold Ctx.issueAttempt
  split
  next may =>
    split
    next l hl => exact Ctx.issueJob_moves may (w := c.s.sweep) rfl (.refl _) (State.tierOne_free hl) _ _
    extract_lets r
    obtain ⟨w, hw, hk, hfree⟩ := c.tierTwo_spec c.s.sweep.revisit
    split
    next e he =>
      refine Ctx.issueJob_moves may (w := { w with revisit := w.revisit.filter fun x => x.line != e.line }) ?_ (hk.trans ?_)
        (hfree e he) _ _
      · show (c.tierTwo c.s.sweep.revisit).1.s.setSweep _ = _
        rw [hw]
        rfl
      · exact .of (.filter _ _) rfl rfl id
    · exact Ctx.tierThree_moves may hw hk
  · exact .nothing _

/-! ## The settling of an event (log 13) -/

theorem Ctx.settleStep_moves {c d : Ctx} (h : c.settleStep = some d) : Moves F c.s d.s := by
  unfold Ctx.settleStep at h
  split at h
  · cases h; exact c.makeExit_moves _
  split at h
  next j b hd hn =>
    cases h
    obtain ⟨-, -, -, hok, -⟩ := State.nextHandout?_spec hn
    exact c.giveHead_moves _ _ _ _ (State.attachHeadOk_connected hok) (State.nextHandout?_atRest hn)
  split at h
  · cases h
    cases hw : c.walkList c.s.queue with
    | none => exact .nothing _
    | some d => exact Ctx.walkList_moves (fun j hj => State.queue_mem hj) hw
  split at h
  · cases h
    exact Ctx.issueAttempt_moves { c with issueDue := false }
  · cases h

theorem Ctx.settle_moves (n : Nat) (c : Ctx) : Moves F c.s (Ctx.settle n c).s := by
  induction n generalizing c with
  | zero => exact .nothing _
  | succ n ih =>
    unfold Ctx.settle
    split
    · exact .nothing _
    next d hd => exact (Ctx.settleStep_moves hd).trans (ih d)

end Sys2Proof.Machine
end

section
/-! SUPPORT. The end of an event, and what the owner of each request does, are made of moves. -/

namespace Sys2Proof.Machine

variable {F : Prop}

/-! ## The end of an event (R10, R11) -/

theorem Moves.link (s : State) (l : Link) : Moves F s { s with link := l } := .passive s s.pending s.now s.port l s.pins rfl
theorem Moves.portLink (s : State) (ms : List PortMessage) (l : Link) : Moves F s { s with port := ms, link := l } :=
  .passive s s.pending s.now ms l s.pins rfl

theorem State.raise_moves (s : State) (r : Report) : Moves F s (s.raise r) := by
  unfold State.raise
  split <;> exact .link _ _

theorem State.pump_moves (s : State) : Moves F s s.pump := by
  unfold State.pump
  split
  · exact .nothing _
  split
  · split
    · exact .link _ _
    split
    · exact .nothing _
    split
    · exact .nothing _
    · exact .link _ _
  · exact .nothing _

theorem Ctx.finish_moves (c : Ctx) : Moves F c.s c.finish :=
  (Moves.foldl _ State.raise_moves _ _).trans (State.pump_moves _)

theorem event_moves (f : Ctx → Ctx) (s : State) (h : ∀ c, Moves F c.s (f c).s) : Moves F s (event f s) :=
  (Moves.portLink s [] s.link).trans ((h (Ctx.of s)).trans (Ctx.finish_moves _))

theorem settled_moves (f : Ctx → Ctx) (s : State) (h : ∀ c, Moves F c.s (f c).s) : Moves F s (settled f s) :=
  event_moves _ s fun c => (h c).trans (Ctx.settle_moves _ _)

/-! ## What an owner answers (R6) -/

/-- The effects of a request that is taken are moves. -/
def Served.MovesFrom (F : Prop) (s : State) (x : Served) : Prop := ∀ c b, x = .done c b → Moves F s c.s

theorem Served.movesFrom_rejected (s : State) (r : Reason) : (Served.rejected r).MovesFrom F s := fun _ _ h => by cases h
theorem Served.movesFrom_done {s : State} {c : Ctx} {b : State → AckBody} (h : Moves F s c.s) : (Served.done c b).MovesFrom F s :=
  fun _ _ he => by cases he; exact h

theorem Served.movesFrom_settle {s : State} {c : Ctx} {b : State → AckBody} (h : Moves F s c.s) :
    (Served.done (c.settle settleFuel) b).MovesFrom F s := movesFrom_done (h.trans (c.settle_moves _))

theorem clamp_range {lo hi : Nat} (h : lo ≤ hi) (n : Nat) : lo ≤ clamp lo hi n ∧ clamp lo hi n ≤ hi := by
  unfold clamp; omega

theorem byteAt_le (body : List Byte) (i : Nat) : byteAt body i ≤ 255 := by
  unfold byteAt; have := (body.getD i 0#8).isLt; omega

/-! ## The Desk Link's own requests and the Configuration Store's -/

theorem ownerEcho_moves (body : List Byte) (c : Ctx) : (ownerEcho body c).MovesFrom F c.s := Served.movesFrom_done (.nothing _)
theorem ownerStatus_moves (body : List Byte) (c : Ctx) : (ownerStatus body c).MovesFrom F c.s :=
  Served.movesFrom_done (.link _ _)
theorem ownerTimeSet_moves (body : List Byte) (c : Ctx) : (ownerTimeSet body c).MovesFrom F c.s :=
  Served.movesFrom_done (.link _ _)
theorem ownerReset_moves (body : List Byte) (c : Ctx) : (ownerReset body c).MovesFrom F c.s :=
  Served.movesFrom_done (.link _ _)

theorem readEntries_cls {bs : List Byte} {es : List DirEntry} (h : readEntries bs = some es) : ∀ e ∈ es, e.cls ≤ 15 := by
  induction bs using readEntries.induct generalizing es with
  | case1 cls cable srv rest v es' hv hsrv ih =>
    simp only [readEntries, hv, hsrv, Option.some.injEq] at h
    subst h
    intro e he
    rcases List.mem_cons.1 he with rfl | he
    · exact Nat.min_le_left _ _
    · exact ih hv e he
  | case2 cls cable srv rest hno =>
    unfold readEntries at h
    split at h
    · exact absurd ‹_› (hno _ _ ‹_›)
    · cases h
  | case3 l hno =>
    unfold readEntries at h
    split at h
    · exact absurd rfl (hno _ _ _ _)
    · cases h; intro e he; cases he

theorem State.writeEntries_moves (s : State) (line : Nat) (es : List DirEntry) (h : ∀ e ∈ es, e.cls ≤ 15) :
    Moves F s (s.writeEntries line es) := by
  induction es generalizing s line with
  | nil => exact .nothing _
  | cons e es ih =>
    exact (Moves.setting (.directory line e (h e List.mem_cons_self))).trans
      (ih _ _ fun x hx => h x (List.mem_cons_of_mem _ hx))

theorem ownerDirLoad_moves (body : List Byte) (c : Ctx) : (ownerDirLoad body c).MovesFrom F c.s := by
  unfold ownerDirLoad
  dsimp only
  split
  · exact Served.movesFrom_rejected _ _
  split
  · exact Served.movesFrom_rejected _ _
  next es hes =>
  split
  · exact Served.movesFrom_rejected _ _
  · exact Served.movesFrom_done (State.writeEntries_moves _ _ _ (readEntries_cls hes))

theorem ownerDirRead_moves (body : List Byte) (c : Ctx) : (ownerDirRead body c).MovesFrom F c.s := by
  unfold ownerDirRead
  dsimp only
  split
  · exact Served.movesFrom_rejected _ _
  split
  · exact Served.movesFrom_rejected _ _
  · exact Served.movesFrom_done (.nothing _)

theorem candidateProfile_inRange {body : List Byte} (h : (candidateProfile body).ordered = true) :
    (candidateProfile body).inRange := by
  simp only [Profile.ordered, Bool.and_eq_true, decide_eq_true_eq] at h
  obtain ⟨⟨hsh, hir⟩, hfv⟩ := h
  refine ⟨?_, ?_, ?_, ?_, ?_, ?_, ?_, ?_, ?_, ?_, ?_, ?_, ?_, ?_, ?_, ?_, ?_, ?_, hsh, hir, hfv⟩ <;>
    simp only [candidateProfile, clamp] <;> omega

theorem ownerProfileSet_moves (body : List Byte) (c : Ctx) : (ownerProfileSet body c).MovesFrom F c.s := by
  unfold ownerProfileSet
  dsimp only
  split
  · exact Served.movesFrom_rejected _ _
  split
  next hord => exact Served.movesFrom_done (.setting (.profile _ _ (candidateProfile_inRange hord)))
  · exact Served.movesFrom_rejected _ _

theorem ownerProfileRead_moves (body : List Byte) (c : Ctx) : (ownerProfileRead body c).MovesFrom F c.s := by
  unfold ownerProfileRead
  dsimp only
  split
  · exact Served.movesFrom_rejected _ _
  · exact Served.movesFrom_done (.nothing _)

theorem Ctx.disableGroup_moves (c : Ctx) (g : Nat) : Moves F c.s (c.disableGroup g).s :=
  .foldlCtx (fun c (j : Job) => c.removeJob j.id .groupDisabled) (fun c j => c.removeJob_moves j.id .groupDisabled) _ c

theorem ownerRouteSet_moves (body : List Byte) (c : Ctx) : (ownerRouteSet body c).MovesFrom F c.s := by
  unfold ownerRouteSet
  dsimp only
  split
  · exact Served.movesFrom_rejected _ _
  split
  · exact Served.movesFrom_rejected _ _
  next r _ =>
  split
  · exact Served.movesFrom_done (.nothing _)
  · have hset : Moves F c.s (c.s.setRoute (byteAt body 0) r) := .setting (.route _ _)
    refine Served.movesFrom_settle (hset.trans ?_)
    split
    · exact Ctx.disableGroup_moves (c.upd fun s => s.setRoute (byteAt body 0) r) _
    · exact .nothing _

theorem ownerRouteRead_moves (body : List Byte) (c : Ctx) : (ownerRouteRead body c).MovesFrom F c.s := by
  unfold ownerRouteRead
  dsimp only
  split
  · exact Served.movesFrom_rejected _ _
  · exact Served.movesFrom_done (.nothing _)

theorem ownerIntervalSet_moves (body : List Byte) (c : Ctx) : (ownerIntervalSet body c).MovesFrom F c.s := by
  unfold ownerIntervalSet
  split
  next w u _ _ =>
    dsimp only
    refine Served.movesFrom_done ?_
    have hrange := clamp_range (lo := 1) (hi := 63) (by decide) (byteAt body 1)
    cases w
    · exact .setting (.intervalA _ hrange)
    · exact .setting (.intervalB _ hrange)
  · exact Served.movesFrom_rejected _ _

/-! ## Bus Watch's requests -/

theorem State.setGuardLength_moves (s : State) (n : Nat) : Moves F s (s.setGuardLength n) := by
  unfold State.setGuardLength
  split
  · exact .nothing _
  next hn => exact .setting (.guardLength _ ⟨by omega, Nat.min_le_left _ _⟩)

/-- The settings in force for a bus are a job's or a watch record's. -/
theorem State.watchInForce_known (s : State) (b : Bus) : s.knownExponent (s.watchInForce b).n := by
  unfold State.watchInForce
  split
  · split
    next j hj =>
      obtain ⟨id, -, hid⟩ := Option.bind_eq_some_iff.1 hj
      exact .inr (.inr ⟨j, State.job?_mem hid, rfl⟩)
    · exact .inr (.inl ⟨b, rfl⟩)
  · exact .inr (.inl ⟨b, rfl⟩)

theorem watchTaken_exponent {body : List Byte} {w x : WatchSettings} (h : watchTaken body w = some x) :
    x.n ≤ 7 ∨ x.n = w.n := by
  unfold watchTaken at h
  dsimp only at h
  split at h
  · cases h
    dsimp only
    split
    · exact .inr rfl
    · exact .inl (Nat.min_le_left _ _)
  · cases h

/-- An exponent that is known stays so as a job takes settings with it. -/
theorem State.knownExponent_keepWatch {s : State} {id : Nat} {w : WatchSettings} (h : s.knownExponent w.n) :
    (s.keepWatch id w).knownExponent w.n := by
  rcases h with h | h | ⟨j, hj, hn⟩
  · exact .inl h
  · exact .inr (.inl h)
  · refine .inr (.inr ⟨if j.id = id then { j with watch := w } else j, List.mem_map.2 ⟨j, hj, rfl⟩, ?_⟩)
    split
    · rfl
    · exact hn

theorem State.knownExponent_setGuardLength {s : State} {g n : Nat} (h : s.knownExponent n) :
    (s.setGuardLength g).knownExponent n := by
  unfold State.setGuardLength
  split <;> exact h

theorem ownerWatchSet_moves (body : List Byte) (c : Ctx) : (ownerWatchSet body c).MovesFrom F c.s := by
  unfold ownerWatchSet
  dsimp only
  split
  · split
    · exact Served.movesFrom_done (State.setGuardLength_moves _ _)
    · exact Served.movesFrom_rejected _ _
  next b _ =>
  split
  · exact Served.movesFrom_done (State.setGuardLength_moves _ _)
  next id _ =>
  split
  · exact Served.movesFrom_rejected _ _
  next w hw =>
  have hknown : c.s.knownExponent w.n := by
    rcases watchTaken_exponent hw with h | h
    · exact .inl h
    · rw [h]; exact c.s.watchInForce_known b
  have hlength := State.knownExponent_setGuardLength (g := byteAt body 5) hknown
  have hkeep : Moves F c.s ((c.s.setGuardLength (byteAt body 5)).keepWatch id w) :=
    (c.s.setGuardLength_moves _).trans (.keepWatch _ id w hlength)
  refine Served.movesFrom_settle (hkeep.trans ?_)
  split
  · exact .nothing _
  · exact .trans (.bus (.watch b _ (State.knownExponent_keepWatch hlength)))
      (Ctx.levelCheck_moves ((c.upd fun s => (s.setGuardLength (byteAt body 5)).keepWatch id w).upd fun s => s.writeWatch b w) b)

theorem ownerWatchClear_moves (body : List Byte) (c : Ctx) : (ownerWatchClear body c).MovesFrom F c.s := by
  unfold ownerWatchClear
  split
  · exact Served.movesFrom_rejected _ _
  · dsimp only
    refine Served.movesFrom_settle (.trans ?_ (.foldlCtx _ (fun c b => c.levelCheck_moves b) _ (c.upd _)))
    exact .foldl (fun s b => s.setWatchRec b { s.watchRec b with pending := false })
      (fun s b => .bus (.watch b _ (.inr (.inl ⟨b, rfl⟩)))) _ _

/-! ## The Hazard Unit's requests -/

theorem Ctx.hazardAt_moves (c : Ctx) (x : HazardChange) (b : Bus) : Moves F c.s (c.hazardAt x b).s := by
  unfold Ctx.hazardAt
  extract_lets joins leaves c1 c2
  have h1 : Moves F c.s c1.s := by
    unfold c1
    split
    · unfold Ctx.enterBus
      extract_lets acts after c3
      exact c3.applyHazard_moves _ _
    · exact .nothing _
  have h2 : Moves F c1.s c2.s := by
    unfold c2
    split
    · exact State.stopApplying_moves _ _ _
    · exact .nothing _
  refine (h1.trans h2).trans ?_
  split
  · exact c2.makeExit_moves b
  · exact .nothing _

theorem Ctx.setHazard_moves (c : Ctx) (h : Hazard) (new : HazardSettings) (hold : Nat) (hrange : hold ≤ 255) :
    Moves F c.s (c.setHazard h new hold).s := by
  unfold Ctx.setHazard
  extract_lets x c1 c2 c3
  have h1 : Moves F c.s c1.s :=
    (Moves.setting (.hazard h new)).trans (.foldl _ (fun s i => s.setCondition_moves i _) _ _)
  have h2 : Moves F c1.s c2.s := .foldlCtx _ (fun c b => c.hazardAt_moves x b) _ c1
  have h3 : Moves F c2.s c3.s := by
    unfold c3
    split
    · exact c2.releaseSweep_moves
    · exact .nothing _
  refine (h1.trans (h2.trans h3)).trans ?_
  by_cases hz : hold = 0
  · have hsame : (c3.upd fun s => { s with hazards := { s.hazards with
        holdTime := if hold = 0 then s.hazards.holdTime else hold } }).s = c3.s := by simp [hz]
    rw [hsame]
    exact .nothing _
  · have hset : (c3.upd fun s => { s with hazards := { s.hazards with
        holdTime := if hold = 0 then s.hazards.holdTime else hold } }).s =
        { c3.s with hazards := { c3.s.hazards with holdTime := hold } } := by simp [hz]
    rw [hset]
    exact .setting (.holdTime hold ⟨by omega, hrange⟩)

theorem ownerHazardSet_moves (body : List Byte) (c : Ctx) : (ownerHazardSet body c).MovesFrom F c.s := by
  unfold ownerHazardSet
  extract_lets go
  have hgo (h : Hazard) : (go h).MovesFrom F c.s := by
    unfold go
    split
    · exact Served.movesFrom_rejected _ _
    · exact Served.movesFrom_settle (c.setHazard_moves _ _ _ (byteAt_le _ _))
  split
  · exact hgo .a
  · exact hgo .b
  · exact Served.movesFrom_rejected _ _

theorem Ctx.clearCondition_moves (c : Ctx) (i : HazardInput) : Moves F c.s (c.clearCondition i).s := by
  unfold Ctx.clearCondition
  extract_lets k
  split
  · split
    · exact Ctx.endCondition_moves (c.tellCleared i) i
    · exact State.setCondition_moves _ _ _
  · exact .nothing _

theorem ownerHazardClear_moves (body : List Byte) (c : Ctx) : (ownerHazardClear body c).MovesFrom F c.s := by
  unfold ownerHazardClear
  dsimp only
  split
  · exact Served.movesFrom_rejected _ _
  · exact Served.movesFrom_settle (.foldlCtx _ (fun c i => c.clearCondition_moves i) _ c)

/-! ## The Job Scheduler's requests -/

theorem State.restartHold_moves (s : State) (id : Nat) : Moves F s (s.restartHold id) :=
  .updJob _ _ _ (fun j => by split <;> exact ⟨rfl, rfl, rfl⟩) (fun j => by split <;> exact ⟨rfl, rfl, rfl, rfl⟩)
    fun j => by split <;> exact ⟨rfl, rfl⟩

theorem Ctx.cutJob_moves (c : Ctx) (id : Nat) (b : Bus) (forced : Bool) (monitor : (c.s.busRec b).access = .monitor)
    (rest : ∀ {X}, JobsOk X c.s → c.s.AtRest id) : Moves F c.s (c.cutJob id b forced).s := by
  unfold Ctx.cutJob
  extract_lets loop c1
  have h1 : Moves F c.s c1.s := by
    refine .trans (.updJobAtRest c.s id (fun j =>
      { j with kept := if forced then .forced else .guarded, holdLimit := none, state := .accessing }) rest) ?_
    exact .bus (.cut forced b monitor)
  refine h1.trans ?_
  split
  · exact .nothing _
  · exact Ctx.guardBegun_moves (c1.jobChanged id .none) b

/-- A job that a request names is found by its own id. -/
theorem State.namedJob_spec {s : State} {n : Nat} {j : Job} (h : s.namedJob n = .ok j) : s.job? j.id = some j := by
  unfold State.namedJob at h
  split at h
  · cases h
  split at h
  next hj => cases h; exact State.job?_id hj ▸ hj
  · cases h

theorem ownerCut_moves (body : List Byte) (c : Ctx) : (ownerCut body c).MovesFrom F c.s := by
  unfold ownerCut
  split
  · exact Served.movesFrom_rejected _ _
  next j hj =>
  split
  · exact Served.movesFrom_rejected _ _
  split
  next hstate _ =>
    split
    next hmon =>
      exact Served.movesFrom_settle (c.cutJob_moves _ _ _ hmon fun ok =>
        ok.atRest (State.namedJob_spec hj) (by rw [hstate]; exact nofun) (.inl (by rw [hstate]; exact nofun)))
    · exact Served.movesFrom_rejected _ _
  · exact Served.movesFrom_rejected _ _

theorem ownerSpeak_moves (body : List Byte) (c : Ctx) : (ownerSpeak body c).MovesFrom F c.s := by
  unfold ownerSpeak
  split
  · exact Served.movesFrom_rejected _ _
  split
  · split
    · exact Served.movesFrom_rejected _ _
    next b _ _ _ sp _ =>
    dsimp only
    split
    · exact Served.movesFrom_done (State.restartHold_moves _ _)
    split
    · exact Served.movesFrom_rejected _ _
    next hok =>
    split
    · exact Served.movesFrom_rejected _ _
    · exact Served.movesFrom_done ((Moves.bus (.attachSpeech _ _ (by simpa using hok))).trans (State.restartHold_moves _ _))
  · exact Served.movesFrom_rejected _ _

theorem ownerHold_moves (body : List Byte) (c : Ctx) : (ownerHold body c).MovesFrom F c.s := by
  unfold ownerHold
  split
  · exact Served.movesFrom_rejected _ _
  split
  · exact Served.movesFrom_rejected _ _
  next b _ =>
  split
  · exact Served.movesFrom_done ((Moves.bus (.detachSpeech b)).trans (State.restartHold_moves _ _))
  · exact Served.movesFrom_rejected _ _

theorem Ctx.retestJob_moves (c : Ctx) {j : Job} (hj : c.s.job? j.id = some j) (held : j.state = .held) (r : List RecipeStep) :
    Moves F c.s (c.retestJob j r).s := by
  unfold Ctx.retestJob
  extract_lets c1
  have h1 : Moves F c.s c1.s := by
    refine .trans (t := match j.bus with | some b => c.s.detachSpeech b | none => c.s) ?_ ?_
    · cases j.bus with
      | none => exact .nothing _
      | some b => exact .bus (.detachSpeech b)
    · exact .updJob _ _ _
  refine h1.trans (c1.enterWaitHead_moves _ _ fun ok => ?_)
  let f : Job → Job := fun j =>
    { j with recipe := r, results := [], step := 0, verdict := none, holdLimit := none, access := retestAccess j }
  have hjob : c1.s.job? j.id = some (f j) := by
    refine (State.job?_updJob_same (s := match j.bus with | some b => c.s.detachSpeech b | none => c.s) (f := f) fun _ => rfl).trans ?_
    have hsame : (match j.bus with | some b => c.s.detachSpeech b | none => c.s).job? j.id = some j := by
      cases j.bus with
      | none => exact hj
      | some b =>
        unfold State.job? at hj ⊢
        rw [State.sched_of_offBus (c.s.detachSpeech_offBus b)]
        exact hj
    rw [hsame]
    rfl
  exact ok.atRest hjob (by rw [show (f j).state = _ from held]; exact nofun) (.inl (by rw [show (f j).state = _ from held]; exact nofun))

theorem ownerRetest_moves (body : List Byte) (c : Ctx) : (ownerRetest body c).MovesFrom F c.s := by
  unfold ownerRetest
  split
  · exact Served.movesFrom_rejected _ _
  next j hj =>
  split
  · exact Served.movesFrom_rejected _ _
  split
  · exact Served.movesFrom_rejected _ _
  next hheld =>
  split
  · exact Served.movesFrom_rejected _ _
  · exact Served.movesFrom_settle (c.retestJob_moves (State.namedJob_spec hj) (not_not.1 hheld) _)

theorem Ctx.cancelJob_moves (c : Ctx) (j : Job) : Moves F c.s (c.cancelJob j).s := by
  unfold Ctx.cancelJob
  split
  · exact c.removeJob_moves _ _
  · exact .nothing _
  · exact c.askRelease_moves _ _ _

theorem ownerCancel_moves (body : List Byte) (c : Ctx) : (ownerCancel body c).MovesFrom F c.s := by
  unfold ownerCancel
  split
  · exact Served.movesFrom_rejected _ _
  · exact Served.movesFrom_settle (c.cancelJob_moves _)

theorem ownerJobRead_moves (body : List Byte) (c : Ctx) : (ownerJobRead body c).MovesFrom F c.s := by
  unfold ownerJobRead
  split
  · exact Served.movesFrom_rejected _ _
  · exact Served.movesFrom_done (State.restartHold_moves _ _)

theorem ownerHoldLimitSet_moves (body : List Byte) (c : Ctx) : (ownerHoldLimitSet body c).MovesFrom F c.s := by
  unfold ownerHoldLimitSet
  dsimp only
  split
  · exact Served.movesFrom_rejected _ _
  · exact Served.movesFrom_done (.setting (.holdLimit _ _ (clamp_range (by decide) _)))

/-! ## TEST (R96, R97, R112) -/

theorem Ctx.removeJob_length (c : Ctx) (id : Nat) (o : JobOutcome) :
    (c.removeJob id o).s.sched.jobs.length ≤ c.s.sched.jobs.length := by
  have hids := congrArg List.length (c.removeJob_ids id o)
  rw [List.length_map] at hids
  rw [hids]
  exact (List.length_filter_le _ _).trans (by rw [List.length_map])

/-- The removal of a job that stands makes room for one. -/
theorem Ctx.removeJob_room (c : Ctx) {id : Nat} {j : Job} (h : c.s.job? id = some j) (o : JobOutcome) :
    (c.removeJob id o).s.sched.jobs.length < c.s.sched.jobs.length := by
  have hids := congrArg List.length (c.removeJob_ids id o)
  rw [List.length_map] at hids
  rw [hids]
  refine (List.length_filter_lt_length_iff_exists.2 ⟨id, List.mem_map.2 ⟨j, State.job?_mem h, State.job?_id h⟩, by simp⟩).trans_le ?_
  rw [List.length_map]

theorem State.Serving.of_fixed {s t : State} (h : s.Serving) (he : t.fixed = s.fixed) : t.Serving :=
  ⟨by rw [State.resets_of_fixed he]; exact h.running, by rw [State.pins_of_fixed he]; exact h.supply⟩

theorem Ctx.enqueue_s (c : Ctx) (q : JobRequest) : (c.enqueue q).s = c.s.enqueue q := rfl

theorem Ctx.enqueue_raw (c : Ctx) (q : JobRequest) (serving : c.s.Serving) (place : F → c.s.sched.jobs.length ≤ 16)
    (known : q.watch.n ≤ 7) : RawMoves F c.s (c.enqueue q).s :=
  .single (.job (.enqueue c.s.sweep q (.refl _) serving.supply (.inl serving.running) place (.inl known)))

theorem Ctx.enterTest_raw (c : Ctx) (q : TestRequest) (other : Option Job) (serving : c.s.Serving)
    (place : F → c.s.sched.jobs.length ≤ 16) (known : q.watch.n ≤ 7) : RawMoves F c.s (c.enterTest q other).s := by
  unfold Ctx.enterTest
  split
  · exact c.enqueue_raw _ serving place known
  next o =>
  split
  · exact (c.removeJob_moves _ _).raw.trans (Ctx.enqueue_raw _ _ (serving.of_fixed (Ctx.removeJob_fixed _ _ _))
      (fun hf => (c.removeJob_length _ _).trans (place hf)) known)
  split
  · exact c.enqueue_raw _ serving place known
  split
  · exact (c.enqueue_raw _ serving place known).trans (Ctx.passOwnership_raw _ _ _)
  · exact c.enqueue_raw _ serving place known

/-- What R96 asks of a TEST's line and position: no desk job counts for the line, and no AUTO or sweep job but the one given. -/
structure State.TestLine (s : State) (q : TestRequest) (other : Option Job) : Prop where
  count : s.countOf (.desk q.position) < 4
  desk : ∀ j ∈ s.sched.jobs, j.line = q.line → j.source.isDesk = true → j.counted = false
  routine : ∀ j ∈ s.sched.jobs, j.line = q.line → j.source.isDesk = false → ∃ o, other = some o ∧ j.id = o.id ∧ j.state = o.state

/-- A removal leaves the line as free as it was. -/
theorem State.TestLine.removeJob {c : Ctx} {q : TestRequest} {other : Option Job} (h : c.s.TestLine q other) (id : Nat)
    (o : JobOutcome) : (c.removeJob id o).s.TestLine q other where
  count := by
    have hcount := count_of_sublist (c.removeJob_keys id o) (.desk q.position)
    rw [State.faces_count, State.faces_count] at hcount
    exact hcount.trans_lt h.count
  desk j hj hl hd := by
    obtain ⟨m, hm, -, -, hsrc, hline, hstate⟩ := c.removeJob_old hj
    rw [Job.counted, ← hstate]
    exact h.desk m hm (hline.trans hl) (hsrc ▸ hd)
  routine j hj hl hd := by
    obtain ⟨m, hm, -, hid, hsrc, hline, hstate⟩ := c.removeJob_old hj
    obtain ⟨x, hx, hxid, hxstate⟩ := h.routine m hm (hline.trans hl) (hsrc ▸ hd)
    exact ⟨x, hx, hid.symm.trans hxid, hstate.symm.trans hxstate⟩

/-- The jobs that count for the line of a TEST are one, the AUTO or sweep job given (R93, R96). -/
theorem State.TestLine.counted {s : State} {q : TestRequest} {other : Option Job} (h : s.TestLine q other) {j : Job}
    (hj : j ∈ s.sched.jobs) (hl : j.line = q.line) (hc : j.counted = true) : ∃ o, other = some o ∧ j.id = o.id ∧ j.state = o.state := by
  cases hd : j.source.isDesk with
  | true => rw [h.desk j hj hl hd] at hc; cases hc
  | false => exact h.routine j hj hl hd

/-- A TEST enters where the only job that counts for its line is left out of the law or named by its mark. -/
theorem State.TestLine.enqueue {X : Nat → Bool} {s : State} {q : TestRequest} {other : Option Job} (h : s.TestLine q other)
    (ok : JobsOk X s) (length : s.sched.jobs.length ≤ 16) (place : ((s.sched.jobs.map (·.id)).filter fun n => !X n).length < 16)
    (mark : Option Nat) (line : ∀ o, other = some o → o.state ≠ .releasing → X o.id = false → mark = some o.id) :
    JobsOk X (s.enqueue (q.job mark)) := by
  refine ok.enqueue length place h.count nofun fun j hj hx hl hc => ?_
  obtain ⟨o, ho, hid, hstate⟩ := h.counted hj hl hc
  rw [hid] at hx ⊢
  exact line o ho (by rw [← hstate]; simpa [Job.counted] using hc) hx

/-- A TEST that takes over at once: the job that held the line goes as the new one takes its bus (R112). -/
theorem Ctx.takesAtOnce_jobs (c : Ctx) {q : TestRequest} {o : Job} {X : Nat → Bool} (ok : JobsOk X c.s)
    (length : c.s.sched.jobs.length ≤ 16) (line : c.s.TestLine q (some o)) (ho : c.s.job? o.id = some o) (hol : o.line = q.line)
    (passes : c.s.passesAtOnce o = true) : JobsOk X ((c.enqueue (q.job none)).passOwnership o.id c.s.nextId).s := by
  obtain ⟨b, hbus, hb⟩ : ∃ b, o.bus = some b ∧ (c.s.busRec b).access = .connected := by
    simp only [State.passesAtOnce, Bool.and_eq_true] at passes
    obtain ⟨-, hbus⟩ := passes
    cases hob : o.bus with
    | none => rw [hob] at hbus; cases hbus
    | some b => rw [hob] at hbus; exact ⟨b, rfl, by simpa using hbus⟩
  have hmem : o.id ∈ c.s.sched.jobs.map (·.id) := List.mem_map.2 ⟨o, State.job?_mem ho, rfl⟩
  have place : ((c.s.sched.jobs.map (·.id)).filter fun n => !andJob X o.id n).length < 16 := by
    refine (List.length_filter_lt_length_iff_exists.2 ⟨o.id, hmem, by simp [andJob]⟩).trans_le ?_
    rw [List.length_map]
    exact length
  have hent : JobsOk (andJob X o.id) (c.enqueue (q.job none)).s := by
    rw [Ctx.enqueue_s]
    exact line.enqueue (ok.and o.id) length place none fun x hx _ hleft => by cases hx; simp [andJob] at hleft
  let jn := (q.job none).job c.s.nextId c.s.sched.nextQueue c.s.link.time
  have hjobs : (c.enqueue (q.job none)).s.sched.jobs = c.s.sched.jobs ++ [jn] := by rw [Ctx.enqueue_s]; rfl
  have hjo : (c.enqueue (q.job none)).s.job? o.id = some o := by
    unfold State.job? at ho ⊢
    rw [hjobs, List.find?_append, ho]
    rfl
  have hjn : (c.enqueue (q.job none)).s.job? c.s.nextId = some jn := hent.job?_of_mem (j := jn) (by rw [hjobs]; simp)
  have hb' : ((c.enqueue (q.job none)).s.busRec b).access = .connected := by rw [Ctx.enqueue_s]; exact hb
  rw [Ctx.passOwnership_acts (c.enqueue (q.job none)) hjo hjn hbus hb' hol.symm rfl]
  exact ((c.enqueue (q.job none)).goesOn_moves (F := True) b hjn rfl).jobs trivial
    (Ctx.handBus_jobs (c.enqueue (q.job none)) b hent hjo hjn (.inl rfl))

theorem Ctx.enterTest_jobs (c : Ctx) {q : TestRequest} {other : Option Job} {X : Nat → Bool} (ok : JobsOk X c.s)
    (length : c.s.sched.jobs.length ≤ 16) (line : c.s.TestLine q other)
    (found : ∀ o, other = some o → c.s.freesPlace o = true → c.s.job? o.id = some o ∧ o.line = q.line)
    (place : c.s.sched.jobs.length < 16 ∨ ∃ o, other = some o ∧ c.s.freesPlace o = true) : JobsOk X (c.enterTest q other).s := by
  have roomy (full : ∀ o, other = some o → c.s.freesPlace o = false) : c.s.sched.jobs.length < 16 := by
    rcases place with h | ⟨o, ho, hfree⟩
    · exact h
    · rw [full o ho] at hfree; cases hfree
  unfold Ctx.enterTest
  split
  · rw [Ctx.enqueue_s]
    exact line.enqueue ok length (State.place_lt (roomy fun x hx => by cases hx)) none fun x hx => by cases hx
  next o =>
  split
  next hqueued =>
    obtain ⟨ho, -⟩ := found o rfl (by simp [State.freesPlace, hqueued])
    have hroom := (c.removeJob_room ho .taken).trans_le length
    have line1 := line.removeJob o.id .taken
    rw [Ctx.enqueue_s]
    refine ((c.removeJob_moves (F := True) o.id .taken).jobs trivial ok).enqueue hroom.le (State.place_lt hroom) line1.count nofun
      fun j hj _ hl hc => ?_
    obtain ⟨x, hx, hid, -⟩ := line1.counted hj hl hc
    obtain ⟨m, -, hne, hid', -⟩ := c.removeJob_old hj
    cases hx
    exact absurd (hid'.trans hid) hne
  next hqueued =>
  split
  next hreleasing =>
    rw [Ctx.enqueue_s]
    refine line.enqueue ok length (State.place_lt (roomy fun x hx => ?_)) none fun x hx hno => ?_ <;> cases hx
    · simp [State.freesPlace, State.passesAtOnce, hreleasing]
    · exact absurd hreleasing hno
  split
  next hpasses =>
    obtain ⟨ho, hol⟩ := found o rfl (by simp [State.freesPlace, hpasses])
    exact c.takesAtOnce_jobs ok length line ho hol hpasses
  next hpasses =>
    rw [Ctx.enqueue_s]
    refine line.enqueue ok length (State.place_lt (roomy fun x hx => ?_)) (some o.id) fun x hx _ _ => ?_ <;> cases hx
    · simp [State.freesPlace, hpasses, hqueued]
    · rfl

theorem readTest_exponent {body : List Byte} {q : TestRequest} (h : readTest body = .ok q) : q.watch.n ≤ 7 := by
  have hwatch {w : WatchSettings} (hw : readTestWatch body = some w) : w.n ≤ 7 := by
    unfold readTestWatch at hw
    split at hw
    · cases hw; decide
    split at hw
    · cases hw; exact Nat.min_le_left _ _
    · cases hw
  unfold readTest at h
  dsimp only at h
  split at h
  · cases h
  split at h
  · cases h
  split at h
  next hw _ => cases h; exact hwatch hw
  · cases h

/-- The line of a TEST that is not refused, and the AUTO or sweep job that holds it (R93, R96). -/
theorem State.testLine {X : Nat → Bool} {s : State} (ok : JobsOk X s) {q : TestRequest} (taken : s.testRefusal q = none) :
    s.TestLine q (s.routineJob? q.line) := by
  unfold State.testRefusal at taken
  split at taken
  · cases taken
  split at taken
  · cases taken
  split at taken
  · cases taken
  split at taken
  · cases taken
  next hline =>
  split at taken
  · cases taken
  next hcount =>
  refine ⟨not_le.1 hcount, fun j hj hl hd => ?_, fun j hj hl hd => ?_⟩
  · by_contra hc
    refine hline (List.any_eq_true.2 ⟨j, hj, ?_⟩)
    simpa [hl, hd, Job.counted] using hc
  · obtain ⟨o, ho⟩ := Option.isSome_iff_exists.1 (List.find?_isSome.2 (⟨j, hj, by simp [hl, hd]⟩ :
      ∃ j ∈ s.sched.jobs, (j.line == q.line && !j.source.isDesk) = true))
    obtain ⟨holine, hodesk⟩ : o.line = q.line ∧ o.source.isDesk = false := by simpa using List.find?_some ho
    have hid : j.id = o.id := ok.numbered.oneRoutine j.face (State.mem_faces hj) o.face
      (State.mem_faces (List.mem_of_find?_eq_some ho)) (hl.trans holine.symm) hd hodesk
    have hsame : j = o := List.inj_on_of_nodup_map ok.distinct hj (List.mem_of_find?_eq_some ho) hid
    exact ⟨o, ho, hid, hsame ▸ rfl⟩

theorem State.routineJob?_spec {X : Nat → Bool} {s : State} (ok : JobsOk X s) {l : Nat} {o : Job} (h : s.routineJob? l = some o) :
    s.job? o.id = some o ∧ o.line = l := by
  have hfound := List.find?_some h
  simp only [Bool.and_eq_true, beq_iff_eq] at hfound
  exact ⟨ok.job?_of_mem (List.mem_of_find?_eq_some h), hfound.1⟩

/-- The job that leaves a full table for an URGENT one is QUEUED (R97). -/
theorem State.evictable?_spec {s : State} {k : Job} (h : s.evictable? = some k) : k ∈ s.sched.jobs ∧ k.state = .queued := by
  have picked (js : List Job) : ∀ best x, js.foldl (fun best j => match best with
      | none => some j
      | some b => if b.queueOrder < j.queueOrder then some j else some b) best = some x → best = some x ∨ x ∈ js := by
    induction js with
    | nil => exact fun best x hx => .inl hx
    | cons j js ih =>
      intro best x hx
      rcases ih _ x hx with hbest | hmem
      · cases best with
        | none => exact .inr (List.mem_cons.2 (.inl (Option.some.inj hbest).symm))
        | some b =>
          dsimp only at hbest
          split at hbest
          · exact .inr (List.mem_cons.2 (.inl (Option.some.inj hbest).symm))
          · exact .inl hbest
      · exact .inr (List.mem_cons_of_mem _ hmem)
  have hmem := (picked _ none k h).resolve_left nofun
  obtain ⟨hk, hcond⟩ := List.mem_filter.1 hmem
  simp only [Bool.and_eq_true, beq_iff_eq] at hcond
  exact ⟨hk, hcond.2⟩

/-- How a TEST finds its place: there is one, or the job that holds the line frees one, or a QUEUED job leaves (R97). -/
theorem State.placeFor_spec {s : State} {p : Priority} {other evict : Option Job} (h : s.placeFor p other = some evict) :
    (evict = none ∧ (s.sched.jobs.length < 16 ∨ ∃ o, other = some o ∧ s.freesPlace o = true)) ∨
      ∃ k, evict = some k ∧ k ∈ s.sched.jobs ∧ k.state = .queued ∧ ∀ o, other = some o → s.freesPlace o = false := by
  unfold State.placeFor at h
  split at h
  next hroom => cases h; exact .inl ⟨rfl, .inl hroom⟩
  next hfull =>
  by_cases hfree : ∃ o, other = some o ∧ s.freesPlace o = true
  · obtain ⟨o, rfl, ho⟩ := hfree
    rw [if_pos ho] at h
    cases h
    exact .inl ⟨rfl, .inr ⟨o, rfl, ho⟩⟩
  · have hnone : ∀ o, other = some o → s.freesPlace o = false := by simpa using hfree
    rw [if_neg (by cases other with | none => simp | some o => simp [hnone o rfl])] at h
    split at h
    · obtain ⟨k, hk, rfl⟩ := Option.map_eq_some_iff.1 h
      obtain ⟨hmem, hstate⟩ := State.evictable?_spec hk
      exact .inr ⟨k, rfl, hmem, hstate, hnone⟩
    · cases h

/-- A removal lets no job free a place that did not. -/
theorem Ctx.removeJob_freesPlace (c : Ctx) (id : Nat) (x : JobOutcome) (o : Job) :
    (c.removeJob id x).s.freesPlace o = c.s.freesPlace o := by
  unfold State.freesPlace State.passesAtOnce
  cases o.bus with
  | none => rfl
  | some b => simp only [c.removeJob_access]

theorem Ctx.handOverJob_freesPlace (c : Ctx) (k : Job) (r : RevisitReason) (o : Job) :
    (c.handOverJob k r).s.freesPlace o = c.s.freesPlace o := by
  unfold State.freesPlace State.passesAtOnce State.busRec
  rw [c.handOverJob_access]

theorem ownerTest_moves (body : List Byte) (c : Ctx) (serving : c.s.Serving) (place : F → c.s.sched.jobs.length ≤ 16) :
    (ownerTest body c).MovesFrom F c.s := by
  unfold ownerTest
  split
  · exact Served.movesFrom_rejected _ _
  next q hq =>
  split
  · exact Served.movesFrom_rejected _ _
  next htaken =>
  dsimp only
  split
  · exact Served.movesFrom_rejected _ _
  next evict hplace =>
  unfold Ctx.takeTest
  extract_lets c1 id taken
  refine Served.movesFrom_settle ?_
  rcases State.placeFor_spec hplace with ⟨rfl, hroom⟩ | ⟨k, rfl, hk, hkq, hfull⟩
  · exact ⟨c.enterTest_raw q _ serving place (readTest_exponent hq), fun hf X ok =>
      c.enterTest_jobs ok (place hf) (State.testLine ok htaken) (fun o ho _ => State.routineJob?_spec ok ho) hroom⟩
  · let c0 := c.handOverJob k .preempted
    have h1 : Moves F c.s c1.s := (c.handOverJob_moves k _).trans (c0.removeJob_moves k.id .preempted)
    have hlen := c0.removeJob_length k.id .preempted
    rw [show c0.s.sched = c.s.sched from c.handOverJob_sched k _] at hlen
    refine ⟨h1.raw.trans (c1.enterTest_raw q _ (serving.of_fixed (by simp [c1])) (fun hf => hlen.trans (place hf))
      (readTest_exponent hq)), fun hf X ok => ?_⟩
    have hk0 : c0.s.job? k.id = some k := by
      have hfound := ok.job?_of_mem hk
      unfold State.job? at hfound ⊢
      rw [show c0.s.sched = c.s.sched from c.handOverJob_sched k _]
      exact hfound
    have line0 : c0.s.TestLine q (c.s.routineJob? q.line) := by
      have hline := State.testLine ok htaken
      have hjobs : c0.s.sched.jobs = c.s.sched.jobs := congrArg (·.jobs) (c.handOverJob_sched k _)
      exact ⟨by unfold State.countOf; rw [hjobs]; exact hline.count, by rw [hjobs]; exact hline.desk,
        by rw [hjobs]; exact hline.routine⟩
    have hroom := c0.removeJob_room hk0 .preempted
    rw [show c0.s.sched = c.s.sched from c.handOverJob_sched k _] at hroom
    refine c1.enterTest_jobs (h1.jobs hf ok) (hlen.trans (place hf)) (line0.removeJob k.id .preempted) (fun o ho hfree => ?_)
      (.inl (hroom.trans_le (place hf)))
    rw [show c1.s.freesPlace o = c.s.freesPlace o from
      (c0.removeJob_freesPlace _ _ o).trans (c.handOverJob_freesPlace k _ o), hfull o ho] at hfree
    cases hfree

/-! ## The Sweep Unit's requests -/

theorem orZero_range {old lo hi n : Nat} (h : lo ≤ hi) (hold : lo ≤ old ∧ old ≤ hi) :
    lo ≤ orZero old lo hi n ∧ orZero old lo hi n ≤ hi := by
  unfold orZero
  split
  · exact hold
  · exact clamp_range h n

theorem ownerSweepStart_moves (body : List Byte) (c : Ctx) (serving : c.s.Serving) : (ownerSweepStart body c).MovesFrom F c.s := by
  have started (st : SweepState) : SweepKept c.s { c.s.sweep with state := st, timer := .expired } :=
    ⟨.refl _, id, id, fun h => by rw [serving.running] at h; cases h⟩
  unfold ownerSweepStart
  split
  · split
    · exact Served.movesFrom_done (.sweep (started _))
    · exact Served.movesFrom_settle (.sweep (started _))
  · exact Served.movesFrom_done (.nothing _)

theorem ownerSweepStop_moves (body : List Byte) (c : Ctx) : (ownerSweepStop body c).MovesFrom F c.s :=
  Served.movesFrom_done (.sweep (.of (.refl _) rfl rfl fun _ => rfl))

theorem ownerSweepDefault_moves (body : List Byte) (c : Ctx) : (ownerSweepDefault body c).MovesFrom F c.s :=
  Served.movesFrom_done (.sweep ⟨fun _ _ => ⟨.nil, Nat.zero_le _⟩,
    fun _ => show 1 ≤ Sweep.initial.pace ∧ Sweep.initial.pace ≤ 255 by decide,
    fun _ => show 1 ≤ Sweep.initial.concurrency ∧ Sweep.initial.concurrency ≤ 2 by decide, fun _ _ => rfl⟩)

theorem ownerSweepSet_moves (body : List Byte) (c : Ctx) : (ownerSweepSet body c).MovesFrom F c.s := by
  unfold ownerSweepSet
  split
  · exact Served.movesFrom_settle (.sweep ⟨.refl _, orZero_range (by decide), orZero_range (by decide), fun _ => id⟩)
  · exact Served.movesFrom_rejected _ _

theorem ownerSweepRead_moves (body : List Byte) (c : Ctx) : (ownerSweepRead body c).MovesFrom F c.s :=
  Served.movesFrom_done (.nothing _)

/-! ## The Measurement Engine's requests -/

theorem ownerHeadAccept_moves (body : List Byte) (c : Ctx) : (ownerHeadAccept body c).MovesFrom F c.s := by
  unfold ownerHeadAccept
  split
  · exact Served.movesFrom_rejected _ _
  split
  · exact Served.movesFrom_settle (.setHeadRec _ _ _ rfl)
  · exact Served.movesFrom_settle (.setHeadRec _ _ _ rfl)
  · exact Served.movesFrom_rejected _ _
  · exact Served.movesFrom_done (.nothing _)

theorem stepTaken_inRange {kind : StepKind} {body : List Byte} {e : StepEntry} (h : stepTaken kind body = some e) :
    e.inRange kind := by
  unfold stepTaken at h
  extract_lets period phase post discard level at h
  have hperiod : 8 ≤ period ∧ period ≤ 8000 := clamp_range (by decide) _
  have hphase : phase < period := by unfold phase; omega
  have hpost : 1 ≤ post ∧ post ≤ 16 := clamp_range (by decide) _
  have hdiscard : discard ≤ 15 := Nat.min_le_left _ _
  have hlevel : level ≤ 3 := Nat.min_le_left _ _
  have hmany := clamp_range (lo := 1) (hi := 64) (by decide) (byteAt body 7)
  have hcap := clamp_range (lo := 2) (hi := 64) (by decide) (byteAt body 7)
  cases kind with
  | fv =>
    cases h
    exact ⟨hperiod.1, hperiod.2, hphase, hpost.1, hpost.2, hdiscard, hmany.1, hmany.2, by simp, by simp, fun _ => rfl⟩
  | cap =>
    cases h
    exact ⟨hperiod.1, hperiod.2, hphase, hpost.1, hpost.2, hdiscard, hcap.1, hcap.2, by simp, hlevel, fun _ => rfl⟩
  | ir =>
    obtain ⟨r, -, rfl⟩ := Option.map_eq_some_iff.1 h
    exact ⟨hperiod.1, hperiod.2, hphase, hpost.1, hpost.2, hdiscard, hmany.1, hmany.2, by simp, hlevel, by simp⟩
  | lr =>
    obtain ⟨r, -, rfl⟩ := Option.map_eq_some_iff.1 h
    exact ⟨hperiod.1, hperiod.2, hphase, hpost.1, hpost.2, hdiscard, hmany.1, hmany.2, by simp, hlevel, by simp⟩

theorem ownerStepSet_moves (body : List Byte) (c : Ctx) : (ownerStepSet body c).MovesFrom F c.s := by
  unfold ownerStepSet
  split
  · exact Served.movesFrom_rejected _ _
  split
  · exact Served.movesFrom_rejected _ _
  next he => exact Served.movesFrom_done (.setting (.step _ _ (stepTaken_inRange he)))

theorem ownerStepRead_moves (body : List Byte) (c : Ctx) : (ownerStepRead body c).MovesFrom F c.s := by
  unfold ownerStepRead
  split
  · exact Served.movesFrom_rejected _ _
  · exact Served.movesFrom_done (.nothing _)

/-! ## The Ticket Unit's requests -/

theorem ownerLineRead_moves (body : List Byte) (c : Ctx) : (ownerLineRead body c).MovesFrom F c.s := by
  unfold ownerLineRead
  dsimp only
  split
  · exact Served.movesFrom_rejected _ _
  · exact Served.movesFrom_done (.nothing _)

theorem State.takesRoutine_spec {s : State} {src : JobSource} {l : Nat} (h : s.takesRoutine src l = true) :
    s.pins.supplyGood = true ∧ s.sched.jobs.length < 16 ∧ s.countOf src < 2 ∧ s.lineBusy l = false ∧
      (s.route (groupOf l)).enabled = true := by
  simp only [State.takesRoutine, Bool.and_eq_true, decide_eq_true_eq, Bool.not_eq_true'] at h
  obtain ⟨⟨⟨⟨hsupply, hroom⟩, hcount⟩, hline⟩, hroute⟩ := h
  exact ⟨hsupply, hroom, hcount, hline, hroute⟩

theorem ownerTicketReport_moves (body : List Byte) (c : Ctx) (serving : c.s.Serving) :
    (ownerTicketReport body c).MovesFrom F c.s := by
  have hr (l code : Nat) : Moves F c.s (c.complain l code).1.s := .ticket (.complain c rfl l code serving)
  have hserving (l code : Nat) : (c.complain l code).1.s.Serving := serving.of_fixed (Ctx.complain_fixed _ _ _)
  unfold ownerTicketReport
  dsimp only
  split
  · exact Served.movesFrom_rejected _ _
  split
  · exact Served.movesFrom_rejected _ _
  split
  next htakes =>
    obtain ⟨-, hroom, hcount, hfree, -⟩ := State.takesRoutine_spec htakes
    exact Served.movesFrom_settle ((hr _ _).andThen (Ctx.enqueue_raw _ _ (hserving _ _) (fun _ => hroom.le)
      (show WatchSettings.ofSweep.n ≤ 7 by decide)) fun _ _ _ ok => ok.enqueueFree hroom hcount hfree)
  · exact Served.movesFrom_settle ((hr _ _).trans (.ticket (.verifyLine _ true (hserving _ _))))

/-- A ticket that a number names is found by its own number. -/
theorem State.namedTicket_spec {s : State} {n : Nat} {t : Ticket} (h : s.namedTicket n = .ok t) :
    s.ticket? t.number = some t ∧ t.number = n := by
  unfold State.namedTicket at h
  split at h
  · cases h
  split at h
  next ht =>
    cases h
    have hn : t.number = n := by simpa using List.find?_some ht
    exact ⟨hn ▸ ht, hn⟩
  · cases h

theorem ownerTicketDispatch_moves (body : List Byte) (c : Ctx) (serving : c.s.Serving) :
    (ownerTicketDispatch body c).MovesFrom F c.s := by
  unfold ownerTicketDispatch
  split
  · exact Served.movesFrom_rejected _ _
  next t ht =>
  split
  next hopen => exact Served.movesFrom_done (.ticket (.dispatch t (State.namedTicket_spec ht).1 hopen serving))
  · exact Served.movesFrom_rejected _ _

theorem ownerTicketVerify_moves (body : List Byte) (c : Ctx) (serving : c.s.Serving) :
    (ownerTicketVerify body c).MovesFrom F c.s := by
  unfold ownerTicketVerify
  split
  · exact Served.movesFrom_rejected _ _
  split
  · exact Served.movesFrom_done (.ticket (.verify _ serving))
  · exact Served.movesFrom_rejected _ _

theorem ownerTicketClose_moves (body : List Byte) (c : Ctx) (serving : c.s.Serving) :
    (ownerTicketClose body c).MovesFrom F c.s := by
  unfold ownerTicketClose
  split
  · exact Served.movesFrom_rejected _ _
  next t ht =>
  split
  · exact Served.movesFrom_rejected _ _
  next hstate =>
    exact Served.movesFrom_done (.ticket (.close t (State.namedTicket_spec ht).1 (fun h => hstate (.inl h)) serving))

theorem ownerTicketRead_moves (body : List Byte) (c : Ctx) : (ownerTicketRead body c).MovesFrom F c.s := by
  unfold ownerTicketRead
  split
  · exact Served.movesFrom_rejected _ _
  · exact Served.movesFrom_done (.nothing _)

theorem ownerTicketList_moves (body : List Byte) (c : Ctx) : (ownerTicketList body c).MovesFrom F c.s := by
  unfold ownerTicketList
  dsimp only
  split
  · exact Served.movesFrom_rejected _ _
  · exact Served.movesFrom_done (.nothing _)

theorem State.forgetTickets_moves (s : State) : Moves F s s.forgetTickets := by
  obtain ⟨ls, hls, -⟩ := State.forgetTickets_spec s
  rw [hls]
  exact .ticket (.lines ls)

theorem ownerTicketErase_moves (body : List Byte) (c : Ctx) (serving : c.s.Serving) : (ownerTicketErase body c).MovesFrom F c.s := by
  refine Served.movesFrom_done (.trans (State.forgetTickets_moves _) (.ticket (.erase ?_)))
  obtain ⟨ls, hls, -⟩ := State.forgetTickets_spec c.s
  rw [hls]
  exact ⟨serving.running, serving.supply⟩

theorem ownerRollupSet_moves (body : List Byte) (c : Ctx) : (ownerRollupSet body c).MovesFrom F c.s := by
  have range (old lo hi n : Nat) (h : lo ≤ hi) : lo ≤ orZero old lo hi n ∧ orZero old lo hi n ≤ hi ∨ orZero old lo hi n = old := by
    unfold orZero
    split
    · exact .inr rfl
    · exact .inl (clamp_range h n)
  exact Served.movesFrom_done (.setting (.rollUp _ _ _ (range _ _ _ _ (by decide)) (range _ _ _ _ (by decide))
    (range _ _ _ _ (by decide))))

end Sys2Proof.Machine
end

section
/-! SUPPORT. Every command but the fall of SUPPLY-GOOD is made of moves, and so every law that each move keeps is kept by each
such step. -/

namespace Sys2Proof.Machine

variable {F : Prop}

/-! ## Requests (R4 to R7) -/

theorem serviceOf_moves {code : Byte} {v : Service} (hv : serviceOf code = some v) (body : List Byte) (c : Ctx)
    (serving : c.s.Serving) (place : F → c.s.sched.jobs.length ≤ 16) : (v.owner body c).MovesFrom F c.s := by
  unfold serviceOf at hv
  split at hv <;> cases hv
  · exact ownerEcho_moves body _
  · exact ownerStatus_moves body _
  · exact ownerTimeSet_moves body _
  · exact ownerReset_moves body _
  · exact ownerDirLoad_moves body _
  · exact ownerDirRead_moves body _
  · exact ownerProfileSet_moves body _
  · exact ownerProfileRead_moves body _
  · exact ownerRouteSet_moves body _
  · exact ownerRouteRead_moves body _
  · exact ownerIntervalSet_moves body _
  · exact ownerWatchSet_moves body _
  · exact ownerWatchClear_moves body _
  · exact ownerHazardSet_moves body _
  · exact ownerHazardClear_moves body _
  · exact ownerTest_moves body _ serving place
  · exact ownerCut_moves body _
  · exact ownerSpeak_moves body _
  · exact ownerHold_moves body _
  · exact ownerRetest_moves body _
  · exact ownerCancel_moves body _
  · exact ownerCancel_moves body _
  · exact ownerJobRead_moves body _
  · exact ownerHoldLimitSet_moves body _
  · exact ownerSweepStart_moves body _ serving
  · exact ownerSweepStop_moves body _
  · exact ownerSweepDefault_moves body _
  · exact ownerSweepSet_moves body _
  · exact ownerSweepRead_moves body _
  · exact ownerHeadAccept_moves body _
  · exact ownerStepSet_moves body _
  · exact ownerStepRead_moves body _
  · exact ownerLineRead_moves body _
  · exact ownerTicketReport_moves body _ serving
  · exact ownerTicketDispatch_moves body _ serving
  · exact ownerTicketClose_moves body _ serving
  · exact ownerTicketVerify_moves body _ serving
  · exact ownerTicketRead_moves body _
  · exact ownerTicketList_moves body _
  · exact ownerTicketErase_moves body _ serving
  · exact ownerRollupSet_moves body _

theorem replyFinish_moves (c : Ctx) (code tag : Byte) (x : State → ReplyContent) :
    Moves F c.s (Ctx.finish (c.upd fun s => s.reply code tag (x s))) :=
  (Moves.link c.s { c.s.link with slot := some ⟨code, tag, x c.s, false⟩ }).trans
    (Ctx.finish_moves (c.upd fun s => s.reply code tag (x s)))

theorem serve_moves (lengthOk : Bool) (owner : Ctx → Served) (code tag : Byte) (c : Ctx)
    (howner : c.s.pins.supplyGood = true → (owner c).MovesFrom F c.s) : Moves F c.s (serve lengthOk owner code tag c) := by
  unfold serve
  dsimp only
  split
  · exact replyFinish_moves c code tag _
  split
  · exact replyFinish_moves c code tag _
  next hsupply =>
  split
  · exact replyFinish_moves c code tag _
  split
  · exact replyFinish_moves c code tag _
  next c' body hdone =>
    exact (howner (by simpa using hsupply) c' body hdone).trans (replyFinish_moves c' code tag fun s => .ack (body s))

theorem serveKind_moves (code tag : Byte) (body : List Byte) (c : Ctx) (running : c.s.resets.active = false)
    (place : F → c.s.sched.jobs.length ≤ 16) : Moves F c.s (serveKind code tag body c) := by
  unfold serveKind
  split
  next v hv => exact serve_moves _ _ _ _ _ fun supply => serviceOf_moves hv body c ⟨running, supply⟩ place
  · exact replyFinish_moves c code tag _

theorem frameCompleted_moves (code tag : Byte) (body : List Byte) (s : State) (place : F → s.sched.jobs.length ≤ 16) :
    Moves F s (frameCompleted code tag (serveKind code tag body) s) := by
  unfold frameCompleted
  split
  · exact .portLink s [] s.link
  next hactive =>
  extract_lets c
  have hc : Moves F s c.s := .portLink s [] { s.link with rx := .hunt }
  refine hc.trans ?_
  split
  · exact Ctx.finish_moves (c.linkError .tag code 0#8 0)
  split
  · exact Ctx.finish_moves (c.linkError .overrun code tag 0)
  · exact serveKind_moves _ _ _ c (show s.resets.active = false by simpa using hactive) place

/-- A command that is a request acts as its whole frame (R4 to R7). -/
theorem exec_request {i : Instr} {code tag : Byte} {body : List Byte} (h : requestOf i = some (code, tag, body)) (s : State) :
    exec i s = .next (frameCompleted code tag (serveKind code tag body) s) := by
  cases i <;> simp only [requestOf, Option.some.injEq, Prod.mk.injEq, reduceCtorEq] at h <;> obtain ⟨rfl, rfl, rfl⟩ := h <;> rfl

/-! ## The Desk Link's events (R2, R3, R5, R10, R14) -/

theorem State.receive_moves (s : State) (rx : Receiver) : Moves F s (s.receive rx) := .link _ _

theorem characterReceived_moves (ch : Byte) (ok : Bool) (s : State) (place : F → s.sched.jobs.length ≤ 16) :
    Moves F s (characterReceived ch ok s) := by
  have hquiet (rx : Receiver) : Moves F s (quiet rx s) := event_moves _ _ fun c => c.s.receive_moves rx
  have habandon (k t : Byte) : Moves F s (abandonFraming k t s) :=
    (Moves.portLink s [] s.link).trans ((State.receive_moves _ .hunt).trans
      (Ctx.finish_moves (((Ctx.of s).upd fun s => s.receive .hunt).linkError .framing k t 0)))
  unfold characterReceived
  split
  · exact .portLink s [] s.link
  split
  · exact hquiet _
  · split
    · exact hquiet _
    · exact habandon _ _
  · split
    · dsimp only
      split
      · exact hquiet _
      · refine (s.receive_moves .hunt).trans ?_
        unfold frameJudged
        dsimp only
        split
        · exact (Moves.portLink _ [] _).trans (Ctx.finish_moves (((Ctx.of (s.receive .hunt)).upd State.hunt).linkError .check _ _ 0))
        · exact frameCompleted_moves _ _ _ (s.receive .hunt) place
    · exact habandon _ _

theorem Ctx.timeout_moves (c : Ctx) : Moves F c.s c.timeout.s := by
  unfold Ctx.timeout
  extract_lets l drop
  have hdrop (k t : Byte) (n : Nat) : Moves F c.s (drop k t n).s := (Moves.reach _ _).trans (.link _ _)
  split
  · exact .nothing _
  · exact hdrop _ _ _
  · exact hdrop _ _ _

theorem Ctx.secondPasses_moves (c : Ctx) : Moves F c.s c.secondPasses.s := by
  unfold Ctx.secondPasses
  split
  · exact .nothing _
  · exact (Moves.reach _ _).trans (.link _ _)

/-! ## Resets (R18, R59, R75, R133, R186) -/

theorem State.headAtReset_step (s : State) (h : Head) : (s.headAtReset h).step = none := by
  unfold State.headAtReset
  split <;> rfl

theorem Ctx.endReset_moves (c : Ctx) (dropped : c.s.resets.drop = []) : Moves F c.s c.endReset.s := by
  unfold Ctx.endReset
  extract_lets c1 c2
  have h1 : Moves F c.s c1.s := .reset (.ends _ _ dropped)
  have h2 : Moves F c1.s c2.s := .foldl _ (fun s h => .setHeadRec s h _ (s.headAtReset_step h)) _ _
  refine (h1.trans h2).trans (.trans (.reset .checkMarker) (.foldlCtx _ (fun c i => ?_) _ (c2.upd State.checkMarker)))
  split
  · exact c.inputOnset_moves i
  · exact .nothing _

theorem Ctx.mayEndReset_moves (c : Ctx) : Moves F c.s c.mayEndReset.s := by
  unfold Ctx.mayEndReset
  split
  next h => exact c.endReset_moves h.2.1
  · exact .nothing _

theorem Ctx.beginReset_moves (c : Ctx) (cause : ResetCause) : Moves F c.s (c.beginReset cause).s :=
  (Moves.reset (.cleared cause _)).trans (Ctx.mayEndReset_moves (c.upd fun s => s.cleared cause _))

theorem Ctx.frameEnds_moves (c : Ctx) : Moves F c.s c.frameEnds.s := by
  unfold Ctx.frameEnds
  split
  · exact .nothing _
  · exact .link _ _
  · extract_lets c1
    have h1 : Moves F c.s c1.s := .link _ _
    refine h1.trans ?_
    split
    · exact c1.beginReset_moves _
    · exact .nothing _

theorem Moves.pins {s : State} (p : Pins) (h : p.supplyGood = s.pins.supplyGood) : Moves F s { s with pins := p } :=
  .passive s s.pending s.now s.port s.link p h

theorem Ctx.resetAsserted_moves (c : Ctx) : Moves F c.s c.resetAsserted.s := by
  unfold Ctx.resetAsserted
  split
  · exact .nothing _
  · exact (Moves.pins { c.s.pins with reset := true } rfl).trans
      (Ctx.beginReset_moves (c.upd fun s => { s with pins := { s.pins with reset := true } }) .pin)

theorem Ctx.resetReleased_moves (c : Ctx) : Moves F c.s c.resetReleased.s :=
  (Moves.pins { c.s.pins with reset := false } rfl).trans
    (Ctx.mayEndReset_moves (c.upd fun s => { s with pins := { s.pins with reset := false } }))

theorem Ctx.dropRunsOut_moves (c : Ctx) (line : Nat) : Moves F c.s (c.dropRunsOut line).s := by
  unfold Ctx.dropRunsOut
  split
  · exact .nothing _
  next d hd =>
  extract_lets rest c1
  refine .trans ?_ c1.mayEndReset_moves
  have hopen : (c.s.reach d.runsOut).resets.drop ≠ [] := List.ne_nil_of_mem (List.mem_of_find?_eq_some hd)
  refine (Moves.reach _ d.runsOut).trans ?_
  by_cases hlast : rest.any fun d => groupOf d.line == groupOf line
  · have hs : c1.s = (fun t : State => { t with resets := { t.resets with drop := rest } })
        ((c.s.reach d.runsOut).setRelays line LineRelays.initial) := by simp [c1, hlast]
    rw [hs]
    exact .reset (.dropped rest line none hopen)
  · have hs : c1.s = (fun t : State => { t with resets := { t.resets with drop := rest } })
        (((c.s.reach d.runsOut).setRelays line LineRelays.initial).setGroupSel (groupOf line) none) := by simp [c1, hlast]
    rw [hs]
    exact .reset (.dropped rest line (some (groupOf line)) hopen)

theorem State.rebuild_moves (s : State) : Moves F s s.rebuild := by
  unfold State.rebuild
  dsimp only
  refine s.forgetTickets_moves.trans ?_
  split
  · exact .nothing _
  · refine .foldl _ (fun s t => ?_) _ _
    split
    · split
      · exact .nothing _
      · exact .ticket (.lines _)
    · exact .nothing _

theorem Ctx.startingEnds_moves (c : Ctx) : Moves F c.s c.startingEnds.s := by
  unfold Ctx.startingEnds
  split
  · exact c.s.rebuild_moves.trans (.reset (.started _))
  · exact .nothing _

theorem Ctx.supplyRises_moves (c : Ctx) : Moves F c.s c.supplyRises.s := by
  unfold Ctx.supplyRises
  split
  · exact .nothing _
  · exact (Moves.reset .supplyRises).trans
      (Ctx.beginReset_moves (c.upd fun s => { s with pins := { s.pins with supplyGood := true } }) .power)

/-! ## The intervals of a bus (R47, R51) -/

theorem Ctx.reachedConnected_moves (c : Ctx) (b : Bus) : Moves F c.s (c.reachedConnected b).s := by
  unfold Ctx.reachedConnected
  extract_lets c1
  have h1 : Moves F c.s c1.s := c.levelCheck_moves b
  refine h1.trans ?_
  split
  · exact .nothing _
  next j hj =>
    split
    next hstate =>
      obtain ⟨id, -, hid⟩ := Option.bind_eq_some_iff.1 hj
      exact c1.moveConnected_moves _ _ fun ok =>
        ok.atRest (State.job?_id hid ▸ hid) (by rw [hstate]; exact nofun) (.inl (by rw [hstate]; exact nofun))
    · exact .nothing _

theorem Ctx.connectRunsOut_moves (c : Ctx) (b : Bus) : Moves F c.s (c.connectRunsOut b).s := by
  unfold Ctx.connectRunsOut
  split
  next i hcutting _ =>
    extract_lets c1
    have h1 : Moves F c.s c1.s := (Moves.reach _ i.runsOut).trans (.bus (.connectEnds b hcutting))
    refine h1.trans ?_
    split
    · exact c1.reachedConnected_moves b
    · exact .nothing _
  · exact .nothing _

theorem Ctx.reachedIdle_moves (c : Ctx) (b : Bus) (owner : Option Job) (h : ∀ j, owner = some j → c.s.job? j.id = some j) :
    Moves F c.s (c.reachedIdle b owner).s := by
  unfold Ctx.reachedIdle
  split
  · exact .nothing _
  next j =>
  split
  · exact c.removeJob_moves _ _
  next hstate =>
    split
    · exact c.retake_moves (h j rfl) (by rw [Job.counted, hstate]; rfl) b
    · exact .nothing _
  · exact .nothing _

theorem Ctx.restoreRunsOut_moves (c : Ctx) (b : Bus) : Moves F c.s (c.restoreRunsOut b).s := by
  unfold Ctx.restoreRunsOut
  split
  next i hreleasing _ =>
    refine .trans ((Moves.reach _ i.runsOut).trans (.bus (.restoreEnds b hreleasing)))
      (Ctx.reachedIdle_moves (c.upd fun s => (s.reach i.runsOut).restoreEnds b) b _ fun j hj => ?_)
    have hsched : ((c.s.reach i.runsOut).restoreEnds b).sched = (c.s.reach i.runsOut).sched :=
      State.sched_of_offBus ((c.s.reach i.runsOut).restoreEnds_offBus b)
    obtain ⟨id, -, hid⟩ := Option.bind_eq_some_iff.1 hj
    show ((c.s.reach i.runsOut).restoreEnds b).job? j.id = some j
    unfold State.job? at hid ⊢
    rw [hsched]
    exact State.job?_id hid ▸ hid
  · exact .nothing _

/-! ## Bus Watch's events (R43, R63, R65) -/

theorem Ctx.guardWindowEnds_moves (c : Ctx) (b : Bus) : Moves F c.s (c.guardWindowEnds b).s := by
  unfold Ctx.guardWindowEnds
  split
  next m hguard _ =>
    extract_lets c1 c2
    have h1 : Moves F c.s c1.s := .reach _ _
    refine h1.trans ?_
    split
    · exact c1.judgeBusy_moves b hguard
    · have h2 : Moves F c1.s c2.s := .bus (.idleLine b hguard)
      refine h2.trans ?_
      split <;> exact .nothing _
  · exact .nothing _

theorem WatchRecord.follow_settings (raw : Bool) (now : Moment) (w : WatchRecord) : (w.follow raw now).settings = w.settings := by
  unfold WatchRecord.follow WatchRecord.compare
  (repeat' split) <;> rfl

theorem Ctx.loopChange_moves (c : Ctx) (b : Bus) (present : Bool) : Moves F c.s (c.loopChange b present).s := by
  unfold Ctx.loopChange
  refine (Moves.pins { c.s.pins with loops := Table.set false c.s.pins.loops b.val present } rfl).trans ?_
  dsimp only [Ctx.upd]
  split
  · exact .bus (.watch b _ (.inr (.inl ⟨b, by rw [WatchRecord.follow_settings]⟩)))
  · exact .nothing _

theorem Ctx.edgeActs_moves (c : Ctx) (b : Bus) : Moves F c.s (c.edgeActs b).s := by
  unfold Ctx.edgeActs
  dsimp only
  split
  next hguard =>
    split
    · exact c.judgeBusy_moves b hguard
    · exact .nothing _
  · exact c.mayRise_moves _ _

theorem Ctx.debounceEnds_moves (c : Ctx) (b : Bus) : Moves F c.s (c.debounceEnds b).s := by
  unfold Ctx.debounceEnds
  extract_lets w
  split
  · exact .nothing _
  next t _ =>
    refine .trans ((Moves.reach _ t.runsOut).trans
      (.bus (.watch b { w with loop := t.aim, timer := none } (.inr (.inl ⟨b, rfl⟩))))) ?_
    exact Ctx.edgeActs_moves (c.upd fun s => (s.reach t.runsOut).setWatchRec b { w with loop := t.aim, timer := none }) b

/-! ## The deadlines of jobs (R88, R110) -/

theorem Ctx.holdLimitEnds_moves (c : Ctx) (id : Nat) : Moves F c.s (c.holdLimitEnds id).s := by
  unfold Ctx.holdLimitEnds
  split
  · exact .nothing _
  split
  · exact .nothing _
  next m _ => exact (Moves.reach _ m).trans (Ctx.askRelease_moves (c.upd fun s => s.reach m) _ _ _)

theorem Ctx.hazardHoldEnds_moves (c : Ctx) (id : Nat) : Moves F c.s (c.hazardHoldEnds id).s := by
  unfold Ctx.hazardHoldEnds
  split
  · exact .nothing _
  split
  next m _ _ => exact (Moves.reach _ m).trans (Ctx.askRelease_moves (c.upd fun s => s.reach m) _ _ _)
  · exact .nothing _

/-! ## The hazard inputs (R75, R78) -/

theorem State.setHazardPin_moves (s : State) (i : HazardInput) (a : Bool) : Moves F s (s.setHazardPin i a) := .pins _ rfl

theorem Ctx.inputActive_moves (c : Ctx) (i : HazardInput) : Moves F c.s (c.inputActive i).s := by
  unfold Ctx.inputActive
  extract_lets c1 k
  refine (c.s.setHazardPin_moves i true).trans ?_
  split
  · exact .nothing _
  split
  · exact c1.inputOnset_moves i
  · exact State.setCondition_moves _ _ _
  · exact .nothing _

theorem Ctx.inputInactive_moves (c : Ctx) (i : HazardInput) : Moves F c.s (c.inputInactive i).s := by
  unfold Ctx.inputInactive
  extract_lets c1 k
  refine (c.s.setHazardPin_moves i false).trans ?_
  split
  · exact .nothing _
  split
  · exact State.setCondition_moves _ _ _
  · exact .nothing _

theorem Ctx.inputGone_moves (c : Ctx) (i : HazardInput) : Moves F c.s (c.inputGone i).s := by
  unfold Ctx.inputGone
  extract_lets k
  split
  next m _ =>
    extract_lets ends c1
    refine (Moves.reach _ m).trans ((State.setCondition_moves _ i { k with input := .gone }).trans ?_)
    split
    · split
      · exact Ctx.endCondition_moves c1 i
      · exact Ctx.endCondition_moves (c1.tellCleared i) i
    · exact .nothing _
  · exact .nothing _

/-! ## Heads (R134, R138, R143 to R146) -/

theorem State.setHeadPin_moves (s : State) (h : Head) (p : Bool) : Moves F s (s.setHeadPin h p) := .pins _ rfl

/-- The job whose head goes out of service is at rest: it measured with that head alone (R103, R133). -/
theorem JobsOk.outOfService {X : Nat → Bool} {s : State} (ok : JobsOk X s) {h : Head} {st : StepInHand}
    (hst : (s.headRec h).step = some st) {r : HeadRecord} (hr : r.step = none) : (s.setHeadRec h r).AtRest st.job := by
  obtain ⟨j, hj, hstate, hhead⟩ := ok.steps.job? ok.distinct hst
  refine ⟨fun k hk => ?_, fun x st' hst' hjob => ?_⟩
  · obtain rfl : j = k := Option.some.inj (hj.symm.trans hk)
    rw [Job.counted, hstate]; rfl
  · rw [State.setHeadRec_headRec] at hst'
    split at hst'
    · rw [hr] at hst'; cases hst'
    next hne =>
      obtain ⟨k, hk, -, hkhead⟩ := ok.steps.job? ok.distinct hst'
      rw [hjob, hj] at hk
      cases hk
      rw [hhead] at hkhead
      cases hkhead
      exact hne rfl

/-- The job of a head's step in hand measures with that head. -/
theorem JobsOk.measures {X : Nat → Bool} {s : State} (ok : JobsOk X s) {h : Head} {st : StepInHand}
    (hst : (s.headRec h).step = some st) : s.Measures st.job h := by
  obtain ⟨j, hj, hstate, hhead⟩ := ok.steps.job? ok.distinct hst
  refine ⟨(ok.steps h st hst).1, fun k hk => ?_⟩
  obtain rfl : j = k := Option.some.inj (hj.symm.trans hk)
  exact ⟨hstate, hhead⟩

theorem Ctx.presenceLost_moves (c : Ctx) (h : Head) : Moves F c.s (c.presenceLost h).s := by
  unfold Ctx.presenceLost
  extract_lets c1 r
  refine (c.s.setHeadPin_moves h false).trans ?_
  split
  · exact .nothing _
  have h1 : Moves F (c.s.setHeadPin h false) (c1.upd fun s => s.setHeadRec h (outOfService .absent 0 r)).s :=
    .setHeadRec _ h (outOfService .absent 0 r) rfl
  split
  next st _ hst => exact h1.headLost st fun ok => ok.outOfService (s := c.s.setHeadPin h false) hst rfl
  · exact h1.trans (Ctx.reservedLost_moves (c1.upd fun s => s.setHeadRec h (outOfService .absent 0 r)) _ _)
  · exact h1

theorem Ctx.presenceReturns_moves (c : Ctx) (h : Head) : Moves F c.s (c.presenceReturns h).s := by
  unfold Ctx.presenceReturns
  extract_lets c1
  refine (c.s.setHeadPin_moves h true).trans ?_
  split
  · exact .nothing _
  split
  next habsent =>
    refine .setStep _ _ _ fun ok st hst => ?_
    exact absurd (habsent.symm.trans (ok.steps h st hst).1) nofun
  · exact .nothing _

theorem Ctx.boundary_moves (c : Ctx) (h : Head) : Moves F c.s (c.boundary h).s := by
  unfold Ctx.boundary
  extract_lets r
  split
  · exact .nothing _
  next t _ =>
  extract_lets c1
  have h1 : Moves F c.s c1.s := (Moves.reach _ t.next).trans (.keepStep _ _ _ rfl rfl)
  refine h1.trans ?_
  split
  · exact c1.makeExit_moves _
  · exact .nothing _

theorem Ctx.missed_moves (c : Ctx) (h : Head) (st : StepInHand) (hst : (c.s.headRec h).step = some st) :
    Moves F c.s (c.missed h st).s := by
  unfold Ctx.missed
  extract_lets r n
  split
  · exact (Moves.keepStep c.s h { r with missing := n, outstanding := false } rfl rfl).trans
      (Ctx.strobe_moves (c.upd fun s => s.setHeadRec h { r with missing := n, outstanding := false }) h)
  · have h1 : Moves F c.s (c.upd fun s => s.setHeadRec h (outOfService .failed n r)).s := .setHeadRec _ _ _ rfl
    exact h1.headLost st fun ok => ok.outOfService hst rfl

theorem Ctx.triggerFalls_moves (c : Ctx) (h : Head) : Moves F c.s (c.triggerFalls h).s := by
  unfold Ctx.triggerFalls
  extract_lets r
  split
  next st _ _ hst _ =>
    split
    · extract_lets c1
      have h1 : Moves F c.s c1.s := .reach _ _
      refine h1.trans ?_
      split
      · exact c1.missed_moves h st hst
      · exact c1.strobe_moves h
    · exact .nothing _
  · exact .nothing _

theorem Ctx.setStep_moves (c : Ctx) (h : Head) {st : StepInHand} (hst : (c.s.headRec h).step = some st) (x : StepInHand)
    (job : x.job = st.job) : Moves F c.s (c.setStep h x).s :=
  .keepStep _ _ _ rfl (by rw [hst]; exact congrArg some job)
theorem Ctx.switchRange_moves (c : Ctx) (h : Head) {st : StepInHand} (hst : (c.s.headRec h).step = some st) (x : StepInHand)
    (job : x.job = st.job) (r : MeasureRange) : Moves F c.s (c.switchRange h x r).s :=
  (c.setStep_moves h hst (x.switchTo r) job).trans (Ctx.configure_moves _ _ _)

theorem Ctx.takePair_moves (c : Ctx) (h : Head) (st : StepInHand) (hst : (c.s.headRec h).step = some st) (v i : BitVec 16) :
    Moves F c.s (c.takePair h st v i).s := by
  unfold Ctx.takePair
  split
  · exact c.setStep_moves _ hst _ rfl
  split
  · exact c.switchRange_moves _ hst _ rfl _
  dsimp only
  split
  · exact c.setStep_moves _ hst _ rfl
  split
  · exact c.switchRange_moves _ hst _ rfl _
  · exact (Moves.nothing c.s).completeStep _ _ _ fun ok => ok.measures hst

theorem Ctx.pairArrives_moves (c : Ctx) (h : Head) (v i : BitVec 16) : Moves F c.s (c.pairArrives h v i).s := by
  unfold Ctx.pairArrives
  extract_lets r
  split
  next st _ _ hst =>
    refine (Moves.keepStep c.s h { r with outstanding := false, missing := 0 } rfl rfl).trans
      (Ctx.takePair_moves (c.upd fun s => s.setHeadRec h { r with outstanding := false, missing := 0 }) h st ?_ v i)
    show ((c.s.setHeadRec h _).headRec h).step = _
    rw [State.setHeadRec_headRec_same]
    exact hst
  · exact .nothing _

/-! ## The pace timer (R122) -/

theorem Ctx.paceEnds_moves (c : Ctx) : Moves F c.s c.paceEnds.s := by
  unfold Ctx.paceEnds
  split
  next m _ =>
    extract_lets c1
    have h1 : Moves F c.s c1.s := (Moves.reach _ m).trans (.sweep (.of (.refl _) rfl rfl id))
    refine h1.trans ?_
    split <;> exact .nothing _
  · exact .nothing _

/-! ## Every command -/

theorem exec_moves {i : Instr} {s t : State} (hi : i ≠ .supplyGoodFall) (h : exec i s = .next t) :
    Moves (s.sched.jobs.length ≤ 16) s t := by
  cases hreq : requestOf i with
  | some r =>
    obtain ⟨code, tag, body⟩ := r
    rw [exec_request hreq] at h
    cases h
    exact frameCompleted_moves _ _ _ s id
  | none =>
    cases i <;> (try (simp [requestOf] at hreq; done))
    case supplyGoodFall => exact absurd rfl hi
    case characterReceived => cases h; exact characterReceived_moves _ _ s id
    case interByteTimeout => cases h; exact event_moves _ s Ctx.timeout_moves
    case frameSent => cases h; exact event_moves _ s Ctx.frameEnds_moves
    case timeAdvance => cases h; exact event_moves _ s Ctx.secondPasses_moves
    case resetPinAssert => cases h; exact event_moves _ s Ctx.resetAsserted_moves
    case resetPinRelease => cases h; exact event_moves _ s Ctx.resetReleased_moves
    case resetDropIntervalExpiry line => cases h; exact event_moves _ s fun c => c.dropRunsOut_moves line
    case startingPhaseEnd => cases h; exact event_moves _ s Ctx.startingEnds_moves
    case supplyGoodRise => cases h; exact event_moves _ s Ctx.supplyRises_moves
    case guardWindowExpiry b => cases h; exact settled_moves _ s fun c => c.guardWindowEnds_moves b
    case connectIntervalExpiry b => cases h; exact settled_moves _ s fun c => c.connectRunsOut_moves b
    case restoreIntervalExpiry b => cases h; exact settled_moves _ s fun c => c.restoreRunsOut_moves b
    case loopSenseChange b p => cases h; exact event_moves _ s fun c => c.loopChange_moves b p
    case debounceTimerExpiry b => cases h; exact settled_moves _ s fun c => c.debounceEnds_moves b
    case holdLimitExpiry n => cases h; exact settled_moves _ s fun c => c.holdLimitEnds_moves n
    case hazardInputActive x => cases h; exact settled_moves _ s fun c => c.inputActive_moves x
    case hazardInputInactive x => cases h; exact event_moves _ s fun c => c.inputInactive_moves x
    case hazardReleaseTimerExpiry x => cases h; exact settled_moves _ s fun c => c.inputGone_moves x
    case hazardHoldExpiry n => cases h; exact settled_moves _ s fun c => c.hazardHoldEnds_moves n
    case headPresenceLost h => cases h; exact settled_moves _ s fun c => c.presenceLost_moves h
    case headPresenceReturn h => cases h; exact event_moves _ s fun c => c.presenceReturns_moves h
    case frameBoundary h => cases h; exact settled_moves _ s fun c => c.boundary_moves h
    case trigger h => cases h; exact settled_moves _ s fun c => c.triggerFalls_moves h
    case samplePair h v i => cases h; exact settled_moves _ s fun c => c.pairArrives_moves h v i
    case paceTimerExpiry => cases h; exact settled_moves _ s Ctx.paceEnds_moves

/-! ## The fall of SUPPLY-GOOD (R16, R17, R60, R91, R117, R150) -/

/-- The first changes of a fall: the pin, the mark, and no request reset and no drop left. -/
def State.supplyLow (s : State) : State :=
  { s with pins := { s.pins with supplyGood := false }
           link := { s.link with supplyFall := true, requestReset := false }
           resets := { s.resets with drop := [] } }

theorem Ctx.removeAll_moves (c : Ctx) : Moves F c.s c.removeAll.s :=
  .foldlCtx _ (fun c id => (c.abortEntered_moves id).trans (Ctx.removeJob_moves _ _ _)) _ c

theorem State.freeHeads_moves (s : State) : Moves F s s.freeHeads := .foldl _ State.freeHead_moves _ _

end Sys2Proof.Machine
end

section
/-! SUPPORT. The fall of SUPPLY-GOOD, and how a law kept by every move is kept by every step. -/

namespace Sys2Proof.Machine

variable {s t : State} {c : Ctx}

/-! ## The fall of SUPPLY-GOOD (R60, R117, R150) -/

theorem Ctx.abortEntered_ids (c : Ctx) (id : Nat) : (c.abortEntered id).s.sched.jobs.map (·.id) = c.s.sched.jobs.map (·.id) := by
  rw [State.ids_eq_keys, State.ids_eq_keys, c.abortEntered_keys]

theorem insertId_mem {n m : Nat} {l : List Nat} (h : n = m ∨ n ∈ l) : n ∈ insertId m l := by
  induction l with
  | nil => simpa [insertId] using h
  | cons k ks ih =>
    unfold insertId
    split
    · exact List.mem_cons.2 h
    · rcases h with rfl | h
      · exact List.mem_cons_of_mem _ (ih (.inl rfl))
      · rcases List.mem_cons.1 h with rfl | h
        · exact List.mem_cons_self
        · exact List.mem_cons_of_mem _ (ih (.inr h))

/-- After the fall's removals the table is empty (R117). -/
theorem Ctx.removeAll_jobs (c : Ctx) : c.removeAll.s.sched.jobs = [] := by
  have removed (ids : List Nat) : ∀ c : Ctx, ∀ n ∈ (ids.foldl (fun c id => (c.abortEntered id).removeJob id .supply) c).s.sched.jobs.map
      (·.id), n ∈ c.s.sched.jobs.map (·.id) ∧ n ∉ ids := by
    induction ids with
    | nil => exact fun c n hn => ⟨hn, List.not_mem_nil⟩
    | cons id ids ih =>
      intro c n hn
      obtain ⟨hmem, hnot⟩ := ih _ n hn
      rw [Ctx.removeJob_ids, c.abortEntered_ids, List.mem_filter] at hmem
      exact ⟨hmem.1, by simpa using ⟨by simpa using hmem.2, hnot⟩⟩
  have listed : ∀ l : List Nat, ∀ n ∈ l, n ∈ l.foldr insertId [] := by
    intro l
    induction l with
    | nil => exact fun n hn => hn
    | cons m ms ih =>
      intro n hn
      rcases List.mem_cons.1 hn with rfl | hn
      · exact insertId_mem (.inl rfl)
      · exact insertId_mem (.inr (ih n hn))
  have hnone : c.removeAll.s.sched.jobs.map (·.id) = [] := by
    refine List.eq_nil_iff_forall_not_mem.2 fun n hn => ?_
    obtain ⟨hmem, hnot⟩ := removed c.s.jobIds c n hn
    exact hnot (listed _ n hmem)
  exact List.map_eq_nil_iff.1 hnone

theorem State.freeHeads_sched (s : State) : s.freeHeads.sched = s.sched := by
  have each (l : List Head) : ∀ s : State, (l.foldl State.freeHead s).sched = s.sched := by
    induction l with
    | nil => exact fun _ => rfl
    | cons h l ih => exact fun s => (ih _).trans (s.freeHead_sched h)
  exact each allHeads s

/-- The fall of SUPPLY-GOOD in moves: removals, every relay and record reset, and what follows. -/
theorem Ctx.supplyFalls_moves (c : Ctx) (F : Prop) : Moves F c.s c.supplyFalls.s ∨
    c.s.pins.supplyGood = true ∧
      ∃ u, Moves F c.s.supplyLow u ∧ u.sched.jobs = [] ∧ Moves F u.dropAll c.supplyFalls.s := by
  unfold Ctx.supplyFalls
  split
  · exact .inl (.nothing _)
  next hsupply =>
    extract_lets c1 c2
    refine .inr ⟨by simpa using hsupply, c1.removeAll.s.freeHeads, c1.removeAll_moves.trans (State.freeHeads_moves _), ?_, ?_⟩
    · rw [State.freeHeads_sched]
      exact c1.removeAll_jobs
    · have hend : Moves F c1.removeAll.s.freeHeads.dropAll c2.s :=
        Ctx.mayEndReset_moves (c1.removeAll.upd fun s => s.freeHeads.dropAll)
      exact hend.trans (c2.settle_moves settleFuel)

theorem exec_fall (h : exec .supplyGoodFall s = .next t) (F : Prop) : Moves F s t ∨
    s.pins.supplyGood = true ∧
      ∃ u, Moves F ({ s with port := [] } : State).supplyLow u ∧ u.sched.jobs = [] ∧ Moves F u.dropAll t := by
  obtain rfl : event Ctx.supplyFalls s = t := Host.Outcome.next.inj h
  have hfinish : Moves F (Ctx.of s).supplyFalls.s (event Ctx.supplyFalls s) := Ctx.finish_moves _
  rcases (Ctx.of s).supplyFalls_moves F with hm | ⟨hsupply, u, hu, hjobs, hm⟩
  · exact .inl ((Moves.portLink s [] s.link).trans (hm.trans hfinish))
  · exact .inr ⟨hsupply, u, hu, hjobs, hm.trans hfinish⟩

/-! ## Every step -/

/-- Of every step: moves, or the fall of SUPPLY-GOOD. -/
theorem step_moves (h : step s = .next t) : Moves (s.sched.jobs.length ≤ 16) s t ∨
    s.pins.supplyGood = true ∧
      ∃ l u, Moves (s.sched.jobs.length ≤ 16) ({ s with pending := l, port := [] } : State).supplyLow u ∧ u.sched.jobs = [] ∧
        Moves (s.sched.jobs.length ≤ 16) u.dropAll t := by
  unfold step at h
  split at h
  · cases h
    exact .inl (.passive s s.pending (s.now + 1) [] s.link s.pins rfl)
  next i rest _ =>
    have hrest : Moves (s.sched.jobs.length ≤ 16) s { s with pending := rest } := .passive s rest s.now s.port s.link s.pins rfl
    by_cases hi : i = .supplyGoodFall
    · subst hi
      rcases exec_fall h (s.sched.jobs.length ≤ 16) with hm | ⟨hsupply, u, hu, hjobs, ht⟩
      · exact .inl (hrest.trans hm)
      · exact .inr ⟨hsupply, rest, u, hu, hjobs, ht⟩
    · exact .inl (hrest.trans (exec_moves hi h))

/-- A law that every move keeps, and that the two changes of a fall keep, is kept by every step. -/
theorem step_keeps {P : State → Prop} (h : step s = .next t) (hs : P s)
    (move : ∀ s' t', Move (s.sched.jobs.length ≤ 16) s' t' → P s' → P t')
    (low : ∀ s', P s' → P s'.supplyLow) (drop : ∀ s', s'.sched.jobs = [] → P s' → P s'.dropAll) : P t := by
  rcases step_moves h with hm | ⟨-, l, u, hu, hjobs, ht⟩
  · exact hm.keep move hs
  · have hport : P { s with pending := l, port := [] } := move _ _ (.passive l s.now [] s.link s.pins rfl) hs
    exact ht.keep move (drop _ hjobs (hu.keep move (low _ hport)))

end Sys2Proof.Machine
end

section
/-! PROOF. The law of the job table (R92, R93, R103, R133). -/

namespace Sys2Proof.Machine

/-- The two changes of a fall of SUPPLY-GOOD that are no moves touch nothing the law looks at. -/
theorem step_jobs {s t : State} (h : step s = .next t) (places : s.sched.jobs.length ≤ 16) (ok : JobsOk noJob s) : JobsOk noJob t := by
  rcases step_moves h with hm | ⟨-, l, u, hu, -, ht⟩
  · exact hm.jobs places ok
  · have hlow : JobsOk noJob ({ s with pending := l, port := [] } : State).supplyLow := ok.congr rfl rfl rfl
    have hdropped : JobsOk noJob u.dropAll := (hu.jobs places hlow).congr rfl rfl rfl
    exact ht.jobs places hdropped

/-- Settles O60: the moves of each event together keep the law, with the sweep's concurrency in its range. -/
theorem everyStepKeepsTheJobLaw : Obligations.EveryStepKeepsTheJobLaw := by
  unfold Obligations.EveryStepKeepsTheJobLaw
  intro s t settings law h
  exact (step_jobs h law.places (.of_law law settings.concurrency)).law

end Sys2Proof.Machine
end

section
/-! PROOF. The laws of the revisit list (R129), of the settings (R9, R61), and of a low supply (R60, R117, R185). -/

namespace Sys2Proof.Machine

variable {s t : State} {F : Prop}

/-! ## The sweep in each move -/

theorem JobMove.sweepKept (h : JobMove F s t) : SweepKept s t.sweep := by
  cases h with
  | upd => exact .refl _
  | keepWatch => exact .refl _
  | counters => exact .refl _
  | remove j o id =>
    have hsweep : (s.without j o id).sweep = s.sweep.jobRemoved j o := by
      unfold State.without State.setVerifyDue
      dsimp only
      (repeat' split) <;> rfl
    rw [hsweep]
    exact Sweep.jobRemoved_kept _ _ _
  | enqueue w q kept => exact kept
  | sweep w kept => exact kept

/-- The sweep of a state that begins or ends a reset is as before or at its reset values. -/
theorem ResetMove.sweep (h : ResetMove s t) : t.sweep = s.sweep ∨ t.sweep = Sweep.initial := by
  cases h with
  | cleared => exact .inr rfl
  | ends => exact .inl rfl
  | checkMarker =>
    refine .inl ?_
    unfold State.checkMarker
    dsimp only
    (repeat' split) <;> rfl
  | started => exact .inl rfl
  | dropped d line g => refine .inl ?_; cases g <;> rfl
  | supplyRises => exact .inl rfl

theorem BusMove.sweep (h : BusMove s t) : t.sweep = s.sweep := (congrArg State.sweep h.beyondBuses : t.beyondBuses.sweep = _)
theorem TicketMove.sweep (h : TicketMove s t) : t.sweep = s.sweep := (congrArg State.sweep h.offTickets : t.offTickets.sweep = _)
theorem SettingMove.sweep (h : SettingMove s t) : t.sweep = s.sweep := by
  cases h with
  | hazard h => cases h <;> rfl
  | _ => rfl

/-- The sweep in any move: it keeps its form, or it is at its reset values. -/
theorem Move.sweepKept (h : Move F s t) : SweepKept s t.sweep ∨ t.sweep = Sweep.initial := by
  have same (he : t.sweep = s.sweep) : SweepKept s t.sweep := by rw [he]; exact .refl s
  cases h with
  | bus h => exact .inl (same h.sweep)
  | job h => exact .inl h.sweepKept
  | ticket h => exact .inl (same h.sweep)
  | setting h => exact .inl (same h.sweep)
  | reset h => exact h.sweep.imp same id
  | heads => exact .inl (same rfl)
  | passive => exact .inl (same rfl)

/-! ## The revisit list (R129) -/

theorem RevisitLaw.move (h : Move F s t) (law : RevisitLaw s) : RevisitLaw t := by
  rcases h.sweepKept with hk | hi
  · obtain ⟨hn, hl⟩ := hk.revisit law.lines law.places
    exact ⟨hn, hl⟩
  · exact ⟨by rw [hi]; exact .nil, by rw [hi]; exact Nat.zero_le _⟩

/-- Settles O5: every move keeps the list's form. -/
theorem everyStepKeepsTheRevisitLaw : Obligations.EveryStepKeepsTheRevisitLaw := by
  unfold Obligations.EveryStepKeepsTheRevisitLaw
  intro s t law h
  exact step_keeps h law (fun _ _ hm => RevisitLaw.move hm) (fun _ hl => ⟨hl.lines, hl.places⟩)
    (fun _ _ hl => ⟨hl.lines, hl.places⟩)

/-! ## The settings (R9) -/

theorem SettingsLaw.of_fixed (law : SettingsLaw s) (h : t.fixed = s.fixed) : SettingsLaw t where
  classes line := by unfold State.dirEntry; rw [State.store_of_fixed h]; exact law.classes line
  profiles cls := by unfold State.profile; rw [State.store_of_fixed h]; exact law.profiles cls
  intervals := by rw [State.store_of_fixed h]; exact law.intervals
  guardWindow := by rw [State.guardLength_of_fixed h]; exact law.guardWindow
  hazardHold := by rw [State.holdTime_of_fixed h]; exact law.hazardHold
  holdLimits p := by unfold State.holdLimitOf; rw [State.holdLimits_of_fixed h]; exact law.holdLimits p
  pace := by rw [State.pace_of_fixed h]; exact law.pace
  concurrency := by rw [State.concurrency_of_fixed h]; exact law.concurrency
  steps k := by rw [State.steps_of_fixed h]; exact law.steps k
  rollUp := by
    rw [State.rollCount_of_fixed h, State.rollWindow_of_fixed h, State.stormWindow_of_fixed h]; exact law.rollUp

/-- Every setting has its reset value. -/
structure State.AtReset (s : State) : Prop where
  store : s.store = Store.initial
  watches : s.watches = Watches.initial
  hazards : s.hazards = Hazards.initial
  sched : s.sched = Sched.initial
  sweep : s.sweep = Sweep.initial
  steps : s.engine.steps = Engine.initial.steps
  roll : s.tickets.rollCount = Tickets.initial.rollCount ∧ s.tickets.rollWindow = Tickets.initial.rollWindow ∧
    s.tickets.stormWindow = Tickets.initial.stormWindow

theorem SettingsLaw.atReset (h : s.AtReset) : SettingsLaw s where
  classes line := by unfold State.dirEntry; rw [h.store]; exact (by decide : DirEntry.initial.cls ≤ 15)
  profiles cls := by unfold State.profile; rw [h.store]; exact (by unfold Profile.inRange; decide : Profile.initial.inRange)
  intervals := by rw [h.store]; decide
  guardWindow := by rw [h.watches]; decide
  hazardHold := by rw [h.hazards]; decide
  holdLimits p := by unfold State.holdLimitOf; rw [h.sched]; exact (by decide : 1 ≤ 10 ∧ 10 ≤ 60)
  pace := by rw [h.sweep]; decide
  concurrency := by rw [h.sweep]; decide
  steps k := by rw [h.steps]; cases k <;> (unfold StepEntry.inRange; decide)
  rollUp := by obtain ⟨hn, hw, hx⟩ := h.roll; rw [hn, hw, hx]; decide

theorem State.cleared_atReset (s : State) (cause : ResetCause) (drop : List DropEntry) : (s.cleared cause drop).AtReset :=
  ⟨rfl, rfl, rfl, rfl, rfl, rfl, rfl, rfl, rfl⟩

theorem SettingsLaw.setting (h : SettingMove s t) (law : SettingsLaw s) : SettingsLaw t := by
  cases h with
  | directory line e range =>
    refine { law with classes := fun k => ?_ }
    rw [State.setDirEntry_dirEntry]
    split
    · exact range
    · exact law.classes k
  | profile cls p range =>
    refine { law with profiles := fun k => ?_ }
    rw [State.setProfile_profile]
    split
    · exact range
    · exact law.profiles k
  | route => exact { law with }
  | intervalA i range => exact { law with intervals := ⟨range, law.intervals.2⟩ }
  | intervalB i range => exact { law with intervals := ⟨law.intervals.1, range⟩ }
  | guardLength n range => exact { law with guardWindow := range }
  | hazard h => cases h <;> exact { law with }
  | holdTime n range => exact { law with hazardHold := range }
  | holdLimit p n range =>
    refine { law with holdLimits := fun q => ?_ }
    show 1 ≤ Table.get 10 (Table.set 10 s.sched.holdLimits p n) q ∧ Table.get 10 (Table.set 10 s.sched.holdLimits p n) q ≤ 60
    rw [Table.get_set]
    split
    · exact range
    · exact law.holdLimits q
  | step kind e range =>
    refine { law with steps := fun k => ?_ }
    have hold := law.steps k
    cases kind <;> cases k <;> first | exact range | exact hold
  | rollUp n w x count window storm =>
    obtain ⟨hn, hn', hw, hw', hx, hx'⟩ := law.rollUp
    refine { law with rollUp := ?_ }
    dsimp only
    omega

theorem SettingsLaw.reset (h : ResetMove s t) (law : SettingsLaw s) : SettingsLaw t := by
  cases h with
  | cleared cause drop => exact .atReset (s.cleared_atReset cause drop)
  | ends => exact { law with }
  | checkMarker =>
    unfold State.checkMarker
    dsimp only
    (repeat' split) <;> exact { law with }
  | started => exact { law with }
  | dropped d line g => cases g <;> exact { law with }
  | supplyRises => exact { law with }

/-- The settings that a change of the job table could touch are the sweep's. -/
theorem SettingsLaw.job (h : JobMove F s t) (law : SettingsLaw s) : SettingsLaw t := by
  have hrest : (t.offJobs.setSweep s.sweep).fixed = (s.offJobs.setSweep s.sweep).fixed := by rw [h.offJobs]
  have hk := h.sweepKept
  exact { law.of_fixed (t := t.setSweep s.sweep) hrest with pace := hk.pace law.pace, concurrency := hk.concurrency law.concurrency }

theorem State.fixed_of_beyondBuses (h : t.beyondBuses = s.beyondBuses) : t.fixed = s.fixed :=
  (congrArg State.fixed h : t.beyondBuses.fixed = _)
theorem State.fixed_of_offTickets (h : t.offTickets = s.offTickets) : t.fixed = s.fixed :=
  (congrArg State.fixed h : t.offTickets.fixed = _)

theorem SettingsLaw.move (h : Move F s t) (law : SettingsLaw s) : SettingsLaw t := by
  cases h with
  | bus h => exact law.of_fixed (State.fixed_of_beyondBuses h.beyondBuses)
  | job h => exact .job h law
  | ticket h => exact law.of_fixed (State.fixed_of_offTickets h.offTickets)
  | setting h => exact .setting h law
  | reset h => exact .reset h law
  | heads => exact { law with }
  | passive => exact { law with }

/-! ## The watch exponents (R61, R72) -/

/-- An exponent that is known is at most 7 under the law. -/
theorem WatchLaw.known (law : WatchLaw s) {n : Nat} (h : s.knownExponent n) : n ≤ 7 := by
  rcases h with h | ⟨b, rfl⟩ | ⟨j, hj, rfl⟩
  · exact h
  · exact law.records b
  · exact law.jobs j hj

theorem WatchLaw.of_kept (law : WatchLaw s) {w : Option WatchSettings} (h : s.WatchKept t w) (hw : ∀ x, w = some x → x.n ≤ 7)
    (hj : t.sched.jobs = s.sched.jobs) : WatchLaw t where
  records b := by
    rcases h b with he | he | he
    · rw [he]; exact law.records b
    · rw [he]; decide
    · exact hw _ he.symm
  jobs := by rw [hj]; exact law.jobs

theorem WatchLaw.of_eq (law : WatchLaw s) (hw : t.watches.records = s.watches.records) (hj : t.sched.jobs = s.sched.jobs) :
    WatchLaw t where
  records b := by unfold State.watchRec; rw [hw]; exact law.records b
  jobs := by rw [hj]; exact law.jobs

theorem BusMove.sched (h : BusMove s t) : t.sched = s.sched := (congrArg State.sched h.beyondBuses : t.beyondBuses.sched = _)
theorem TicketMove.sched (h : TicketMove s t) : t.sched = s.sched := (congrArg State.sched h.offTickets : t.offTickets.sched = _)

/-- The watch settings in a move of the buses: kept, reset, or those of a job that takes a line. -/
theorem BusMove.watchKept (h : BusMove s t) : (∃ w, s.WatchKept t w ∧ ∀ x, w = some x → s.knownExponent x.n) := by
  have kept (k : s.WatchKept t none) : ∃ w, s.WatchKept t w ∧ ∀ x, w = some x → s.knownExponent x.n :=
    ⟨none, k, fun _ h => by cases h⟩
  cases h with
  | detachHead => exact kept (State.detachHead_watchKept _ _)
  | detachSpeech => exact kept (State.detachSpeech_watchKept _ _)
  | release => exact kept (State.releaseBus_watchKept _ _ _)
  | take form b j job => exact ⟨some j.watch, State.take_watchKept _ _ _ _ _ _, fun x hx => by cases hx; exact .inr (.inr ⟨j, job, rfl⟩)⟩
  | guardBusy => exact kept (State.guardBusy_watchKept _ _)
  | transfer => exact kept (State.setBusRec_watchKept _ _ _)
  | resume => exact kept (State.resume_watchKept _ _)
  | attachHead => exact kept (.of_eq rfl)
  | hazard h b r =>
    have hrec : s.WatchKept (s.setHazardRec b r) none := .of_eq rfl
    exact kept (hrec.trans (State.hazardAction_watchKept (s.setHazardRec b r) b h))
  | idleLine => exact kept (State.guardIdleLine_watchKept _ _)
  | connectEnds => exact kept (State.connectEnds_watchKept _ _)
  | restoreEnds => exact kept (State.restoreEnds_watchKept _ _)
  | cut => exact kept (State.cutFromMonitor_watchKept _ _ _)
  | attachSpeech => exact kept (.of_eq rfl)
  | watch b w known =>
    refine ⟨some w.settings, fun b' => ?_, fun x hx => by cases hx; exact known⟩
    rw [State.setWatchRec_watchRec]
    split
    · exact .inr (.inr rfl)
    · exact .inl rfl
  | hazardRec => exact kept (.of_eq rfl)
  | storm => exact kept (.of_eq rfl)

theorem JobMove.watches (h : JobMove F s t) : t.watches = s.watches := (congrArg State.watches h.offJobs : t.offJobs.watches = _)
theorem TicketMove.watches (h : TicketMove s t) : t.watches = s.watches :=
  (congrArg State.watches h.offTickets : t.offTickets.watches = _)

theorem WatchLaw.job (h : JobMove F s t) (law : WatchLaw s) : WatchLaw t := by
  refine ⟨fun b => ?_, fun j hj => ?_⟩
  · unfold State.watchRec
    rw [h.watches]
    exact law.records b
  · cases h with
    | upd id f same =>
      obtain ⟨k, hk, rfl⟩ := List.mem_map.1 hj
      split
      · rw [(same k).2.2]; exact law.jobs k hk
      · exact law.jobs k hk
    | keepWatch id w known =>
      obtain ⟨k, hk, rfl⟩ := List.mem_map.1 hj
      split
      · exact law.known known
      · exact law.jobs k hk
    | counters => exact law.jobs j hj
    | remove j' o id =>
      have hjobs : (s.without j' o id).sched.jobs = (dropMarks id (s.sched.jobs.filter fun j => j.id != id)).1 := by
        unfold State.without State.setVerifyDue
        dsimp only
        (repeat' split) <;> rfl
      rw [hjobs] at hj
      obtain ⟨k, hk, rfl⟩ := List.mem_map.1 hj
      exact law.jobs k (List.mem_filter.1 hk).1
    | enqueue w q kept supply acts place known =>
      rcases List.mem_append.1 hj with hj | hj
      · exact law.jobs j hj
      · rw [List.mem_singleton.1 hj]
        exact law.known known
    | sweep => exact law.jobs j hj

theorem WatchLaw.reset (h : ResetMove s t) (law : WatchLaw s) : WatchLaw t := by
  cases h with
  | cleared => exact ⟨fun _ => (by decide : WatchSettings.initial.n ≤ 7), fun j hj => by cases hj⟩
  | ends => exact { law with }
  | checkMarker =>
    unfold State.checkMarker
    dsimp only
    (repeat' split) <;> exact { law with }
  | started => exact { law with }
  | dropped d line g => cases g <;> exact { law with }
  | supplyRises => exact { law with }

theorem WatchLaw.move (h : Move F s t) (law : WatchLaw s) : WatchLaw t := by
  cases h with
  | bus h =>
    obtain ⟨w, hk, hw⟩ := h.watchKept
    exact law.of_kept hk (fun x hx => law.known (hw x hx)) (by rw [h.sched])
  | job h => exact .job h law
  | ticket h => exact law.of_eq (by rw [h.watches]) (by rw [h.sched])
  | setting h =>
    cases h with
    | hazard h => cases h <;> exact { law with }
    | _ => exact { law with }
  | reset h => exact .reset h law
  | heads => exact { law with }
  | passive => exact { law with }

/-- Settles O11: every move keeps both laws, a fall touching no setting but clearing the watch records. -/
theorem everyStepKeepsTheSettingsLaw : Obligations.EveryStepKeepsTheSettingsLaw := by
  unfold Obligations.EveryStepKeepsTheSettingsLaw
  refine ⟨fun s t law h => ?_, fun s t law h => ?_⟩
  · exact step_keeps h law (fun _ _ hm => SettingsLaw.move hm) (fun _ hl => { hl with }) (fun _ _ hl => { hl with })
  · exact step_keeps h law (fun _ _ hm => WatchLaw.move hm) (fun _ hl => { hl with })
      (fun _ _ hl => ⟨fun _ => (by decide : WatchSettings.initial.n ≤ 7), hl.jobs⟩)

end Sys2Proof.Machine
end

section
/-! PROOF. The law of a low supply (R60, R117, R185): while it is low nothing stands that could act, so every move leaves the
tickets alone. -/

namespace Sys2Proof.Machine

variable {s t : State} {F : Prop}

/-- While SUPPLY-GOOD is low no job and no access stands; and the tickets are these, if `K` says so. -/
def State.Still (K : Prop) (table : List Ticket) (next : Nat) (s : State) : Prop :=
  s.pins.supplyGood = false → s.sched.jobs = [] ∧ s.access.buses = [] ∧ (K → s.tickets.table = table ∧ s.tickets.next = next)

/-- With no job and no access, a move of the buses leaves the bus table empty. -/
theorem BusMove.buses_nil (h : BusMove s t) (hj : s.sched.jobs = []) (hb : s.access.buses = []) : t.access.buses = [] := by
  have hrec (b : Bus) : s.busRec b = BusRecord.initial := by unfold State.busRec; rw [hb]; rfl
  have hidle (b : Bus) : (s.busRec b).access = .idle := by rw [hrec]; rfl
  have out {b : Bus} {a : AccessState} (h : (s.busRec b).access = a) (ha : a ≠ .idle) : t.access.buses = [] :=
    absurd ((hidle b).symm.trans h).symm ha
  cases h with
  | detachHead b => unfold State.detachHead; rw [hrec]; exact hb
  | detachSpeech b => unfold State.detachSpeech; rw [hrec]; exact hb
  | release b =>
    unfold State.releaseBus
    rw [hrec]
    simp [BusRecord.initial, State.setBusRec, hb, Table.set, Table.erase]
  | take form b j job => rw [hj] at job; cases job
  | guardBusy b guard => exact out guard (by decide)
  | transfer b id connected => exact out connected (by decide)
  | resume b => unfold State.resume; rw [hrec]; exact hb
  | attachHead b h connected => exact out connected (by decide)
  | hazard h b r =>
    have hspeech : (s.setHazardRec b r).detachSpeech b = s.setHazardRec b r := by
      unfold State.detachSpeech; rw [State.setHazardRec_busRec, hrec]; rfl
    unfold State.hazardAction
    rw [hspeech]
    dsimp only
    split
    · unfold State.releaseBus; rw [State.setHazardRec_busRec, hrec]; exact hb
    · unfold State.park; rw [State.setHazardRec_busRec, hrec]; exact hb
  | idleLine b guard => exact out guard (by decide)
  | connectEnds b cutting => exact out cutting (by decide)
  | restoreEnds b releasing => exact out releasing (by decide)
  | cut forced b monitor => exact out monitor (by decide)
  | attachSpeech b p ok =>
    unfold State.attachSpeechOk at ok
    rw [hrec] at ok
    cases hp : p.mode <;> simp [hp, BusRecord.initial] at ok
  | watch => exact hb
  | hazardRec => exact hb
  | storm => exact hb

theorem BusMove.tickets (h : BusMove s t) : t.tickets = s.tickets := (congrArg State.tickets h.beyondBuses : t.beyondBuses.tickets = _)
theorem BusMove.pins (h : BusMove s t) : t.pins = s.pins := (congrArg State.pins h.beyondBuses : t.beyondBuses.pins = _)
theorem BusMove.resets (h : BusMove s t) : t.resets = s.resets := (congrArg State.resets h.beyondBuses : t.beyondBuses.resets = _)
theorem JobMove.pins (h : JobMove F s t) : t.pins = s.pins := (congrArg State.pins h.offJobs : t.offJobs.pins = _)
theorem JobMove.access (h : JobMove F s t) : t.access = s.access := (congrArg State.access h.offJobs : t.offJobs.access = _)
theorem JobMove.hazards (h : JobMove F s t) : t.hazards = s.hazards := (congrArg State.hazards h.offJobs : t.offJobs.hazards = _)
theorem JobMove.resets (h : JobMove F s t) : t.resets = s.resets := (congrArg State.resets h.offJobs : t.offJobs.resets = _)
theorem TicketMove.pins (h : TicketMove s t) : t.pins = s.pins := (congrArg State.pins h.offTickets : t.offTickets.pins = _)
theorem TicketMove.access (h : TicketMove s t) : t.access = s.access := (congrArg State.access h.offTickets : t.offTickets.access = _)
theorem TicketMove.hazards (h : TicketMove s t) : t.hazards = s.hazards := (congrArg State.hazards h.offTickets : t.offTickets.hazards = _)
theorem TicketMove.resets (h : TicketMove s t) : t.resets = s.resets := (congrArg State.resets h.offTickets : t.offTickets.resets = _)

/-- What a move of settings leaves of the rest of the state. -/
theorem SettingMove.rest (h : SettingMove s t) : t.pins = s.pins ∧ t.sched.jobs = s.sched.jobs ∧ t.access = s.access ∧
    t.hazards.records = s.hazards.records ∧ t.resets = s.resets ∧ t.tickets.table = s.tickets.table ∧
    t.tickets.next = s.tickets.next ∧ t.engine.heads = s.engine.heads := by
  cases h with
  | hazard h => cases h <;> exact ⟨rfl, rfl, rfl, rfl, rfl, rfl, rfl, rfl⟩
  | _ => exact ⟨rfl, rfl, rfl, rfl, rfl, rfl, rfl, rfl⟩

section
variable {K : Prop} {table : List Ticket} {next : Nat}

theorem State.Still.ticket (h : TicketMove s t) (law : s.Still K table next) : t.Still K table next := by
  intro hlow
  rw [h.pins] at hlow
  obtain ⟨hj, hb, hk⟩ := law hlow
  have served (acts : s.Serving) : t.tickets.table = s.tickets.table ∧ t.tickets.next = s.tickets.next := by
    exact absurd acts.supply (by simp [hlow])
  have hsame : t.tickets.table = s.tickets.table ∧ t.tickets.next = s.tickets.next := by
    cases h with
    | lines => exact ⟨rfl, rfl⟩
    | verdict c same h v acts => exact absurd acts (by simp [State.occupied, hj, hb])
    | complain c same line code acts => exact served acts
    | verifyLine line due acts => exact served acts
    | dispatch t found opened acts => exact served acts
    | verify n acts => exact served acts
    | close t found state acts => exact served acts
    | erase acts => exact served acts
  exact ⟨by rw [h.sched]; exact hj, by rw [h.access]; exact hb, by rw [hsame.1, hsame.2]; exact hk⟩

theorem State.Still.job (h : JobMove F s t) (law : s.Still K table next) : t.Still K table next := by
  intro hlow
  rw [h.pins] at hlow
  obtain ⟨hj, hb, hk⟩ := law hlow
  have hjobs : t.sched.jobs = [] ∧ t.tickets = s.tickets := by
    cases h with
    | upd => exact ⟨by simp [State.updJob, State.setJobs, hj], rfl⟩
    | keepWatch => exact ⟨by simp [State.keepWatch, State.updJob, State.setJobs, hj], rfl⟩
    | counters => exact ⟨hj, rfl⟩
    | remove j o id some => exact absurd hj some
    | enqueue w q kept supply => exact absurd supply (by simp [hlow])
    | sweep => exact ⟨hj, rfl⟩
  exact ⟨hjobs.1, by rw [h.access]; exact hb, by rw [hjobs.2]; exact hk⟩

theorem State.Still.reset (h : ResetMove s t) (law : s.Still K table next) : t.Still K table next := by
  intro hlow
  cases h with
  | cleared => obtain ⟨-, -, hk⟩ := law hlow; exact ⟨rfl, rfl, hk⟩
  | ends => exact law hlow
  | checkMarker =>
    unfold State.checkMarker at hlow ⊢
    split at hlow
    next hv => rw [if_pos hv]; exact law hlow
    next hv =>
      rw [if_neg hv]
      dsimp only at hlow ⊢
      split at hlow
      next hsupply => exact absurd hlow (by simp [hsupply])
      next hsupply => rw [if_neg hsupply]; exact law hlow
  | started => exact law hlow
  | dropped d line g => cases g <;> exact law hlow
  | supplyRises => cases hlow

theorem State.Still.move (h : Move F s t) (law : s.Still K table next) : t.Still K table next := by
  cases h with
  | bus h =>
    intro hlow
    rw [h.pins] at hlow
    obtain ⟨hj, hb, hk⟩ := law hlow
    exact ⟨by rw [h.sched]; exact hj, h.buses_nil hj hb, by rw [h.tickets]; exact hk⟩
  | job h => exact law.job h
  | ticket h => exact law.ticket h
  | setting h =>
    obtain ⟨hpins, hjobs, haccess, -, -, htable, hnext, -⟩ := h.rest
    unfold State.Still
    rw [hpins, hjobs, haccess, htable, hnext]
    exact law
  | reset h => exact law.reset h
  | heads => exact law
  | passive q m ms l p supply => intro hlow; exact law (supply ▸ hlow)

end

/-- Settles O10: from a low supply nothing acts; at a fall every job and access goes. -/
theorem ticketsStandStillUnderALowSupply : Obligations.TicketsStandStillUnderALowSupply := by
  unfold Obligations.TicketsStandStillUnderALowSupply
  intro s t law h
  rcases step_moves h with hm | ⟨hsupply, l, u, -, hjobs, hm⟩
  · have hs : s.Still (s.pins.supplyGood = false) s.tickets.table s.tickets.next := fun hlow =>
      ⟨(law hlow).1, (law hlow).2, fun _ => ⟨rfl, rfl⟩⟩
    have ht := hm.keep (fun _ _ hm hs => State.Still.move hm hs) hs
    exact ⟨fun hlow => ⟨(ht hlow).1, (ht hlow).2.1⟩, fun hlow hlow' => (ht hlow').2.2 hlow⟩
  · have hu : u.dropAll.Still False [] 1 := fun _ => ⟨hjobs, rfl, fun h => h.elim⟩
    have ht := hm.keep (fun _ _ hm hs => State.Still.move hm hs) hu
    exact ⟨fun hlow => ⟨(ht hlow).1, (ht hlow).2.1⟩, fun hlow => absurd hlow (by simp [hsupply])⟩

end Sys2Proof.Machine
end

section
/-! PROOF. The law of heads, speech and hazard (R40, R83), bus by bus: each move of the buses writes one record, and its guard keeps
a bus in hazard in a safe access. -/

namespace Sys2Proof.Machine

variable {s t : State} {F : Prop}

/-! ## The law of one bus -/

/-- R40, R83 of one bus record and its hazard state. -/
structure BusRecord.Lawful (r : BusRecord) (h : HazardState) : Prop where
  head : r.head.isSome → r.access = .connected
  speech : r.speech.isSome → r.access = .connected ∨ r.access = .monitor
  safe : h ≠ .none → r.safeInHazard

theorem hazardLaw_iff : HazardLaw s ↔ ∀ b, (s.busRec b).Lawful (s.hazardRec b).state :=
  ⟨fun h b => ⟨h.heads b, h.speech b, h.safe b⟩, fun h => ⟨fun b => (h b).head, fun b => (h b).speech, fun b => (h b).safe⟩⟩

namespace BusRecord.Lawful
variable {r r' : BusRecord} {h : HazardState}

/-- A bus that has no head and no speech, in a safe access, is lawful in any hazard. -/
theorem of_safe (head : r.head = none) (speech : r.speech = none) (safe : r.safeInHazard) : r.Lawful h :=
  ⟨fun hs => by simp [head] at hs, fun hs => by simp [speech] at hs, fun _ => safe⟩

/-- A bus out of every hazard, with no head and no speech. -/
theorem of_none (head : r.head = none) (speech : r.speech = none) : r.Lawful .none :=
  ⟨fun hs => by simp [head] at hs, fun hs => by simp [speech] at hs, fun hn => absurd rfl hn⟩

/-- In an access that is not safe there is no hazard. -/
theorem hazard_none (law : r.Lawful h) (ha : ¬ r.safeInHazard) : h = .none := by
  by_contra hne
  exact ha (law.safe hne)

theorem head_none (law : r.Lawful h) (ha : r.access ≠ .connected) : r.head = none := by
  cases hh : r.head with
  | none => rfl
  | some x => exact absurd (law.head (by simp [hh])) ha

theorem speech_none (law : r.Lawful h) (ha : r.access ≠ .connected) (hm : r.access ≠ .monitor) : r.speech = none := by
  cases hh : r.speech with
  | none => rfl
  | some x => exact ((law.speech (by simp [hh])).elim (absurd · ha) (absurd · hm))

theorem withoutHead (law : r.Lawful h) : r.withoutHead.Lawful h := by
  refine ⟨fun hs => by simp at hs, fun hs => ?_, fun hn => ?_⟩
  · simpa using law.speech (by simpa using hs)
  · simpa [safeInHazard] using law.safe hn

theorem withoutSpeech (law : r.Lawful h) : r.withoutSpeech.Lawful h := by
  refine ⟨fun hs => ?_, fun hs => by simp at hs, fun hn => ?_⟩
  · simpa using law.head (by simpa using hs)
  · simpa [safeInHazard] using law.safe hn

theorem initial : BusRecord.initial.Lawful h := of_safe rfl rfl (.inl rfl)

theorem atIdle : r.atIdle.Lawful h := of_safe (by simp) (by simp) (.inl (by simp))

end BusRecord.Lawful

theorem BusRecord.not_safe {r : BusRecord} {a : AccessState} (h : r.access = a)
    (ha : a = .guard ∨ a = .connected ∨ a = .monitor) : ¬ r.safeInHazard := by
  rcases ha with rfl | rfl | rfl <;> simp [BusRecord.safeInHazard, h]

/-- A release leaves a bus RELEASING or IDLE, with no head and no speech, if it had none where it could not. -/
theorem BusRecord.Lawful.released {r : BusRecord} {h k : HazardState} (law : r.Lawful h) (reserve : Bool) (i : Option HeldInterval) :
    (r.released reserve i).Lawful k := by
  have quiet (ha : r.access ≠ .connected) (hm : r.access ≠ .monitor) : r.head = none ∧ r.speech = none :=
    ⟨law.head_none ha, law.speech_none ha hm⟩
  unfold BusRecord.released
  cases ha : r.access with
  | connected => exact .of_safe (by simp) (by simp) (.inr (.inr (.inl rfl)))
  | parked =>
    obtain ⟨hh, hsp⟩ := quiet (by simp [ha]) (by simp [ha])
    exact .of_safe hh hsp (.inr (.inr (.inl rfl)))
  | monitor => exact .atIdle
  | releasing =>
    obtain ⟨hh, hsp⟩ := quiet (by simp [ha]) (by simp [ha])
    dsimp only
    split
    · exact .of_safe hh hsp (.inr (.inr (.inl ha)))
    · exact .of_safe hh hsp (.inr (.inr (.inl rfl)))
  | idle =>
    obtain ⟨hh, hsp⟩ := quiet (by simp [ha]) (by simp [ha])
    dsimp only
    split
    · exact .of_safe hh hsp (.inl ha)
    · exact .initial
  | guard => exact .atIdle
  | cutting => exact .atIdle

/-- A park leaves a bus in a safe access (R55, R83). -/
theorem BusRecord.Lawful.parked {r : BusRecord} {h k : HazardState} (law : r.Lawful h) : r.parked.Lawful k := by
  have quiet (ha : r.access ≠ .connected) (hm : r.access ≠ .monitor) : r.head = none ∧ r.speech = none :=
    ⟨law.head_none ha, law.speech_none ha hm⟩
  unfold BusRecord.parked
  cases ha : r.access with
  | connected => exact .of_safe (by simp) (by simp) (.inr (.inl rfl))
  | cutting =>
    obtain ⟨hh, hsp⟩ := quiet (by simp [ha]) (by simp [ha])
    exact .of_safe hh hsp (.inr (.inr (.inr ⟨rfl, rfl⟩)))
  | guard => exact law.released _ _
  | monitor => exact law.released _ _
  | idle =>
    obtain ⟨hh, hsp⟩ := quiet (by simp [ha]) (by simp [ha])
    exact .of_safe hh hsp (.inl ha)
  | parked =>
    obtain ⟨hh, hsp⟩ := quiet (by simp [ha]) (by simp [ha])
    exact .of_safe hh hsp (.inr (.inl ha))
  | releasing =>
    obtain ⟨hh, hsp⟩ := quiet (by simp [ha]) (by simp [ha])
    exact .of_safe hh hsp (.inr (.inr (.inl ha)))

/-! ## The law in each move -/

/-- A move that writes the record of one bus and leaves the hazard records keeps the law, if that bus stays lawful. -/
theorem HazardLaw.write (law : HazardLaw s) {b : Bus} {r : BusRecord}
    (hbus : ∀ b', t.busRec b' = if b' = b then r else s.busRec b') (hhaz : t.hazards = s.hazards)
    (lawful : (s.busRec b).Lawful (s.hazardRec b).state → r.Lawful (s.hazardRec b).state) : HazardLaw t := by
  have hall := hazardLaw_iff.1 law
  refine hazardLaw_iff.2 fun b' => ?_
  have hrec : t.hazardRec b' = s.hazardRec b' := by unfold State.hazardRec; rw [hhaz]
  rw [hbus, hrec]
  split
  next h => rw [h]; exact lawful (hall b)
  · exact hall b'

theorem HazardLaw.of_eq (law : HazardLaw s) (hb : t.access.buses = s.access.buses) (hh : t.hazards.records = s.hazards.records) :
    HazardLaw t := by
  have hbus : t.busRec = s.busRec := by funext b; unfold State.busRec; rw [hb]
  have hrec : t.hazardRec = s.hazardRec := by funext b; unfold State.hazardRec; rw [hh]
  rw [hazardLaw_iff, hbus, hrec]
  exact hazardLaw_iff.1 law

theorem HazardLaw.bus (h : BusMove s t) (law : HazardLaw s) : HazardLaw t := by
  cases h with
  | detachHead b =>
    exact law.write (fun b' => State.detachHead_busRec s b b') (State.hazards_of_offBus (s.detachHead_offBus b)) (·.withoutHead)
  | detachSpeech b =>
    exact law.write (fun b' => State.detachSpeech_busRec s b b') (State.hazards_of_offBus (s.detachSpeech_offBus b)) (·.withoutSpeech)
  | release b =>
    exact law.write (fun b' => State.releaseBus_busRec s b b' false) (State.hazards_of_offBus (s.releaseBus_offBus b false))
      (·.released false _)
  | take form b j job idle safe =>
    refine law.write (fun b' => State.take_busRec s b b' form j.id j.line j.watch)
      (State.hazards_of_offBus (s.take_offBus b form j.id j.line j.watch)) fun _ => ?_
    rw [safe]
    cases form <;> exact .of_none rfl rfl
  | guardBusy b guard =>
    exact law.write (fun b' => State.guardBusy_busRec s b b') (State.hazards_of_offBus (s.guardBusy_offBus b)) fun _ => .initial
  | transfer b id connected =>
    exact law.write (fun b' => State.transfer_busRec s b b' id) rfl fun h => ⟨h.head, h.speech, h.safe⟩
  | resume b safe =>
    refine law.write (fun b' => State.resume_busRec s b b') (State.hazards_of_offBus (s.resume_offBus b)) fun h => ?_
    rw [safe] at h ⊢
    split
    next ha => exact .of_none (h.head_none (by simp [ha])) (h.speech_none (by simp [ha]) (by simp [ha]))
    next ha => exact .of_none (h.head_none (by simp [ha])) (h.speech_none (by simp [ha]) (by simp [ha]))
    · exact h
  | attachHead b hd connected =>
    refine law.write (fun b' => State.attachHead_busRec s b b' hd) rfl fun h => ?_
    exact ⟨fun _ => connected, h.speech, fun hn => absurd (h.hazard_none (BusRecord.not_safe connected (by simp))) hn⟩
  | hazard h b r =>
    have hall := hazardLaw_iff.1 law
    refine hazardLaw_iff.2 fun b' => ?_
    obtain ⟨i, hi⟩ := (s.setHazardRec b r).hazardAction_busRec b b' h
    have hhaz : ((s.setHazardRec b r).hazardAction h b).hazardRec b' = (s.setHazardRec b r).hazardRec b' := by
      unfold State.hazardRec; rw [State.hazards_of_offBus (State.hazardAction_offBus ..)]
    rw [hi, hhaz]
    split
    · rw [State.setHazardRec_busRec]
      split
      · exact (hall b).withoutSpeech.released true i
      · exact (hall b).withoutSpeech.parked
    next hne =>
      rw [State.setHazardRec_busRec, State.setHazardRec_hazardRec, if_neg hne]
      exact hall b'
  | idleLine b guard =>
    refine law.write (fun b' => State.guardIdleLine_busRec s b b') (State.hazards_of_offBus (s.guardIdleLine_offBus b)) fun h => ?_
    rw [h.hazard_none (BusRecord.not_safe guard (by simp))]
    exact .of_none (h.head_none (by simp [guard])) (h.speech_none (by simp [guard]) (by simp [guard]))
  | connectEnds b cutting =>
    refine law.write (fun b' => State.connectEnds_busRec s b b') (State.hazards_of_offBus (s.connectEnds_offBus b)) fun h => ?_
    have hh := h.head_none (by simp [cutting])
    have hsp := h.speech_none (by simp [cutting]) (by simp [cutting])
    split
    · exact .of_safe hh hsp (.inr (.inl rfl))
    next hmark =>
      rw [h.hazard_none (by simp [BusRecord.safeInHazard, cutting, hmark])]
      exact .of_none hh hsp
  | restoreEnds b releasing =>
    exact law.write (fun b' => State.restoreEnds_busRec s b b') (State.hazards_of_offBus (s.restoreEnds_offBus b)) fun _ => .atIdle
  | cut forced b monitor =>
    refine law.write (fun b' => State.cutFromMonitor_busRec s b b' forced)
      (State.hazards_of_offBus (s.cutFromMonitor_offBus b forced)) fun h => ?_
    rw [h.hazard_none (BusRecord.not_safe monitor (by simp))]
    have hh := h.head_none (by simp [monitor])
    split <;> exact .of_none (by simpa using hh) (by simp)
  | attachSpeech b p ok =>
    refine law.write (fun b' => State.attachSpeech_busRec s b b' p) rfl fun h => ?_
    have hacc : (s.busRec b).access = .connected ∨ (s.busRec b).access = .monitor := by
      unfold State.attachSpeechOk at ok
      simp only [Bool.and_eq_true] at ok
      obtain ⟨-, hmode⟩ := ok
      cases hp : p.mode <;> simp [hp] at hmode
      · exact .inl hmode.1
      · exact .inr hmode
    exact ⟨h.head, fun _ => hacc, h.safe⟩
  | watch => exact law.of_eq rfl rfl
  | hazardRec b r state =>
    have hall := hazardLaw_iff.1 law
    refine hazardLaw_iff.2 fun b' => ?_
    rw [State.setHazardRec_busRec, State.setHazardRec_hazardRec]
    split
    next h =>
      subst h
      rcases state with hs | hs
      · rw [hs]; exact hall b'
      · rw [hs]; exact ⟨(hall b').head, (hall b').speech, fun hn => absurd rfl hn⟩
    · exact hall b'
  | storm => exact law.of_eq rfl rfl

theorem HazardLaw.reset (h : ResetMove s t) (law : HazardLaw s) : HazardLaw t := by
  cases h with
  | cleared cause drop => exact hazardLaw_iff.2 fun _ => .initial
  | ends => exact law.of_eq rfl rfl
  | checkMarker =>
    unfold State.checkMarker
    dsimp only
    (repeat' split) <;> exact law.of_eq rfl rfl
  | started => exact law.of_eq rfl rfl
  | dropped d line g => cases g <;> exact law.of_eq rfl rfl
  | supplyRises => exact law.of_eq rfl rfl

theorem HazardLaw.move (h : Move F s t) (law : HazardLaw s) : HazardLaw t := by
  cases h with
  | bus h => exact .bus h law
  | job h => exact law.of_eq (by rw [h.access]) (by rw [h.hazards])
  | ticket h => exact law.of_eq (by rw [h.access]) (by rw [h.hazards])
  | setting h =>
    obtain ⟨-, -, haccess, hrecords, -⟩ := h.rest
    exact law.of_eq (by rw [haccess]) hrecords
  | reset h => exact .reset h law
  | heads => exact law.of_eq rfl rfl
  | passive => exact law.of_eq rfl rfl

/-- Settles O8: every move keeps each bus lawful, and a fall resets every record. -/
theorem everyStepKeepsTheHazardLaw : Obligations.EveryStepKeepsTheHazardLaw := by
  unfold Obligations.EveryStepKeepsTheHazardLaw
  intro s t law h
  exact step_keeps h law (fun _ _ hm => HazardLaw.move hm) (fun _ hl => hl.of_eq rfl rfl)
    (fun _ _ _ => hazardLaw_iff.2 fun _ => .initial)

end Sys2Proof.Machine
end

section
/-! PROOF. The law of the relays (R38, R54, R59): a move of the buses writes one record and the relays of its line, and a take comes
only to a line whose group no other record names. -/

namespace Sys2Proof.Machine

variable {s t : State} {F : Prop}

/-! ## The ids of the jobs (R92) -/

theorem JobMove.nodup (h : JobMove F s t) (hF : F) (hn : (s.sched.jobs.map (·.id)).Nodup) : (t.sched.jobs.map (·.id)).Nodup := by
  have kept (id : Nat) (f : Job → Job) (same : ∀ j, (f j).id = j.id) : ((s.updJob id f).sched.jobs.map (·.id)).Nodup := by
    have hids : (s.updJob id f).sched.jobs.map (·.id) = s.sched.jobs.map (·.id) := by
      unfold State.updJob State.setJobs
      rw [List.map_map]
      refine List.map_congr_left fun j _ => ?_
      by_cases hj : j.id = id <;> simp [hj, same]
    rw [hids]
    exact hn
  cases h with
  | upd id f same => exact kept id f fun j => (same j).1
  | keepWatch id w => exact kept id _ fun _ => rfl
  | counters => exact hn
  | remove j o id =>
    have hjobs : (s.without j o id).sched.jobs = (dropMarks id (s.sched.jobs.filter fun j => j.id != id)).1 := by
      unfold State.without State.setVerifyDue
      dsimp only
      (repeat' split) <;> rfl
    rw [hjobs]
    unfold dropMarks
    rw [List.map_map]
    exact (List.filter_sublist.map _).nodup hn
  | enqueue w q kept supply acts place known =>
    obtain ⟨k, -, hfree, -⟩ := State.nextId_spec (place hF)
    show (List.map (·.id) (s.sched.jobs ++ [q.job s.nextId s.sched.nextQueue s.link.time])).Nodup
    rw [List.map_append, List.nodup_append]
    refine ⟨hn, by simp, fun a ha b hb => ?_⟩
    obtain rfl : b = s.nextId := List.mem_singleton.1 hb
    exact fun hab => hfree (hab ▸ ha)
  | sweep => exact hn

/-! ## The law at one bus -/

/-- The first three clauses of the law. -/
structure State.Wired (s : State) : Prop where
  cutStands : ∀ b line, (s.busRec b).line = some line → (s.busRec b).access.cutStands = true → (s.relaysOf line).cutOpen = true
  pathStands : ∀ line, (s.relaysOf line).testPath = true → ∃ b, (s.busRec b).line = some line ∧ (s.busRec b).access = .connected
  oneLine : ∀ b b' line line', (s.busRec b).line = some line → (s.busRec b').line = some line' →
    groupOf line = groupOf line' → b = b'

theorem RelayLaw.wired (law : RelayLaw s) : s.Wired := ⟨law.cutStands, law.pathStands, law.oneLine⟩

theorem State.Wired.of_eq (law : s.Wired) (hb : t.busRec = s.busRec) (hr : t.relaysOf = s.relaysOf) : t.Wired := by
  refine ⟨?_, ?_, ?_⟩ <;> simp only [hb, hr]
  exacts [law.cutStands, law.pathStands, law.oneLine]

/-- With this change of the relays, the clauses hold of a line whose bus goes from access `a` to `a'`. -/
structure AccessState.Rewires (a a' : AccessState) (f : LineRelays → LineRelays) : Prop where
  cut : ∀ x : LineRelays, a'.cutStands = true → (a.cutStands = true → x.cutOpen = true) → (f x).cutOpen = true
  path : ∀ x : LineRelays, (f x).testPath = true → (x.testPath = true → a = .connected) → a' = .connected

/-- A write of one bus's record that names no new line, with the relays of that line. -/
theorem State.Wired.write (law : s.Wired) {b : Bus} {r : BusRecord} {f : LineRelays → LineRelays}
    (hbus : ∀ b', t.busRec b' = if b' = b then r else s.busRec b')
    (hrel : ∀ k, t.relaysOf k = if (s.busRec b).line = some k then f (s.relaysOf k) else s.relaysOf k)
    (hline : r.line = (s.busRec b).line ∨ r.line = none ∧ r.access = .idle)
    (wires : (s.busRec b).access.Rewires r.access f) : t.Wired := by
  have hlines (b' : Bus) (l : Nat) (h : (t.busRec b').line = some l) : (s.busRec b').line = some l := by
    rw [hbus] at h
    split at h
    next he =>
      rcases hline with hl | ⟨hl, -⟩
      · rw [he, ← hl]; exact h
      · rw [hl] at h; cases h
    · exact h
  refine ⟨fun b' l hl hc => ?_, fun l hp => ?_, fun b' b'' l l' h h' hg => law.oneLine b' b'' l l' (hlines b' l h) (hlines b'' l' h') hg⟩
  · have hold := hlines b' l hl
    by_cases he : b' = b
    · subst he
      rw [hbus, if_pos rfl] at hc
      rw [hrel, if_pos hold]
      exact wires.cut _ hc fun h => law.cutStands b' l hold h
    · rw [hbus, if_neg he] at hl hc
      have hother : ¬ (s.busRec b).line = some l := fun h => he (law.oneLine b' b l l hold h rfl)
      rw [hrel, if_neg hother]
      exact law.cutStands b' l hl hc
  · rw [hrel] at hp
    split at hp
    next hl =>
      have hc := wires.path _ hp fun h => by
        obtain ⟨b', hl', hc'⟩ := law.pathStands l h
        rwa [law.oneLine b' b l l hl' hl rfl] at hc'
      refine ⟨b, ?_⟩
      rw [hbus, if_pos rfl]
      rcases hline with hl' | ⟨-, hidle⟩
      · exact ⟨hl'.trans hl, hc⟩
      · rw [hidle] at hc; cases hc
    next hl =>
      obtain ⟨b', hl', hc'⟩ := law.pathStands l hp
      have hne : b' ≠ b := fun h => hl (h ▸ hl')
      exact ⟨b', by rw [hbus, if_neg hne]; exact ⟨hl', hc'⟩⟩

/-- A write of one bus's record that changes neither line nor access, nor any relay. -/
theorem State.Wired.same (law : s.Wired) {b : Bus} {r : BusRecord}
    (hbus : ∀ b', t.busRec b' = if b' = b then r else s.busRec b') (hrel : ∀ k, t.relaysOf k = s.relaysOf k)
    (hline : r.line = (s.busRec b).line) (hacc : r.access = (s.busRec b).access) : t.Wired :=
  law.write (f := id) hbus (fun k => by rw [hrel, id, ite_self]) (.inl hline)
    ⟨fun _ hc h => h (hacc ▸ hc), fun _ hp h => hacc.trans (h hp)⟩

theorem takenRecord_line (a : AccessState) (n l : Nat) (i : Option HeldInterval) : (takenRecord a n l i).line = some l := rfl

/-- The relays of a line that is taken. -/
theorem State.take_relaysOf (form : AccessMode) (b : Bus) (n l : Nat) (w : WatchSettings) (k : Nat) :
    (s.take form b n l w).relaysOf k = if l = k then
      (if form = .forced then { s.relaysOf k with cutOpen := true } else { s.relaysOf k with bridge := true }) else s.relaysOf k := by
  have hmove (f : LineRelays → LineRelays) : (((s.writeWatch b w).setGroupSel (groupOf l) (some b)).moveRelays (some l) f).relaysOf k =
      if l = k then f (s.relaysOf k) else s.relaysOf k := by
    rw [State.moveRelays_relaysOf]
    simp only [Option.some.injEq]
    rfl
  cases form
  · exact hmove fun r => { r with bridge := true }
  · exact hmove fun r => { r with bridge := true }
  · exact hmove fun r => { r with cutOpen := true }

theorem mem_allBuses (b : Bus) : b ∈ allBuses := by revert b; decide

theorem State.Wired.take (law : s.Wired) (form : AccessMode) {b : Bus} {n l : Nat} {w : WatchSettings}
    (idle : (s.busRec b).access = .idle) (free : s.groupHeldElsewhere b l = false) : (s.take form b n l w).Wired := by
  have hfree (b' : Bus) (k : Nat) (hne : b' ≠ b) (hk : (s.busRec b').line = some k) : groupOf k ≠ groupOf l := by
    intro hg
    have hall : b' ∈ allBuses := mem_allBuses b'
    have := List.any_eq_false.1 free b' hall
    simp [hne, hk, hg] at this
  have hbus := fun b' => State.take_busRec s b b' form n l w
  have hnew : ((s.take form b n l w).busRec b).line = some l := by
    rw [hbus, if_pos rfl]
    cases form <;> rfl
  have hother {b' : Bus} (hne : b' ≠ b) : (s.take form b n l w).busRec b' = s.busRec b' := by rw [hbus, if_neg hne]
  -- The line taken has no closed test path: no other record names it, and the bus taken is IDLE.
  have hdark : (s.relaysOf l).testPath = false := by
    by_contra hp
    obtain ⟨b', hl, hc⟩ := law.pathStands l (by simpa using hp)
    by_cases he : b' = b
    · rw [he, idle] at hc; cases hc
    · exact hfree b' l he hl rfl
  refine ⟨fun b' k hk hc => ?_, fun k hp => ?_, fun b' b'' k k' h h' hg => ?_⟩
  · rw [State.take_relaysOf]
    by_cases he : b' = b
    · subst he
      obtain rfl : l = k := by rw [hnew] at hk; exact Option.some.inj hk
      rw [if_pos rfl]
      rw [hbus, if_pos rfl] at hc
      cases form <;> first | rfl | cases hc
    · rw [hother he] at hk hc
      rw [if_neg fun h => hfree b' k he hk (by rw [h])]
      exact law.cutStands b' k hk hc
  · rw [State.take_relaysOf] at hp
    split at hp
    next he =>
      subst he
      split at hp <;> exact absurd hp (by simp [hdark])
    next he =>
      obtain ⟨b', hl, hc⟩ := law.pathStands k hp
      have hne : b' ≠ b := fun h => by rw [h, idle] at hc; cases hc
      exact ⟨b', by rw [hother hne]; exact ⟨hl, hc⟩⟩
  · by_cases he : b' = b <;> by_cases he' : b'' = b
    · rw [he, he']
    · subst he
      rw [hnew] at h
      rw [hother he'] at h'
      exact absurd (by rw [← hg, Option.some.inj h]) (hfree b'' k' he' h')
    · subst he'
      rw [hnew] at h'
      rw [hother he] at h
      exact absurd (by rw [hg, Option.some.inj h']) (hfree b' k he h)
    · rw [hother he] at h
      rw [hother he'] at h'
      exact law.oneLine b' b'' k k' h h' hg

/-! ## The records and relays of each transition -/

/-- The access after a release (R51 to R53, R56). -/
def AccessState.afterRelease : AccessState → AccessState
  | .connected => .releasing
  | .parked => .releasing
  | .releasing => .releasing
  | _ => .idle

theorem BusRecord.atIdle_lines (r : BusRecord) : r.atIdle.line = r.line ∨ r.atIdle.line = none ∧ r.atIdle.access = .idle := by
  unfold BusRecord.atIdle
  split
  · exact .inl rfl
  · exact .inr ⟨rfl, rfl⟩

theorem BusRecord.released_access (r : BusRecord) (reserve : Bool) (i : Option HeldInterval) :
    (r.released reserve i).access = r.access.afterRelease := by
  unfold BusRecord.released AccessState.afterRelease
  cases ha : r.access with
  | releasing => dsimp only; split <;> first | exact ha | rfl
  | idle => dsimp only; split <;> first | exact ha | rfl
  | _ => simp

theorem BusRecord.released_line (r : BusRecord) (reserve : Bool) (i : Option HeldInterval) :
    (r.released reserve i).line = r.line ∨ (r.released reserve i).line = none ∧ (r.released reserve i).access = .idle := by
  unfold BusRecord.released
  cases ha : r.access with
  | releasing => dsimp only; split <;> exact .inl rfl
  | idle =>
    dsimp only
    split
    · exact .inl rfl
    · exact .inr ⟨rfl, rfl⟩
  | connected => exact .inl (by simp)
  | parked => exact .inl rfl
  | monitor => simpa using ({ r.withoutSpeech with reserveMark := reserve } : BusRecord).atIdle_lines
  | guard => exact ({ r with reserveMark := reserve } : BusRecord).atIdle_lines
  | cutting => exact ({ r with reserveMark := reserve } : BusRecord).atIdle_lines

theorem AccessState.afterRelease_rewires (a : AccessState) : a.Rewires a.afterRelease (LineRelays.released a) := by
  constructor <;> intro x <;> cases a <;> simp [LineRelays.released, AccessState.afterRelease, AccessState.cutStands]

/-- The access after a park (R55). -/
def AccessState.afterPark : AccessState → AccessState
  | .connected => .parked
  | .guard => .idle
  | .monitor => .idle
  | a => a

theorem BusRecord.parked_access (r : BusRecord) : r.parked.access = r.access.afterPark := by
  unfold BusRecord.parked AccessState.afterPark
  cases ha : r.access with
  | guard => exact (r.released_access true none).trans (by rw [ha]; rfl)
  | monitor => exact (r.released_access true none).trans (by rw [ha]; rfl)
  | connected => rfl
  | cutting => rfl
  | idle => exact ha
  | parked => exact ha
  | releasing => exact ha

theorem BusRecord.parked_line (r : BusRecord) : r.parked.line = r.line ∨ r.parked.line = none ∧ r.parked.access = .idle := by
  unfold BusRecord.parked
  cases ha : r.access with
  | guard => exact r.released_line true none
  | monitor => exact r.released_line true none
  | connected => exact .inl (by simp)
  | cutting => exact .inl rfl
  | idle => exact .inl rfl
  | parked => exact .inl rfl
  | releasing => exact .inl rfl

theorem AccessState.afterPark_rewires (a : AccessState) : a.Rewires a.afterPark (LineRelays.parked a) := by
  constructor <;> intro x <;> cases a <;>
    simp [LineRelays.parked, LineRelays.released, AccessState.afterPark, AccessState.cutStands]

theorem State.Wired.bus (h : BusMove s t) (law : s.Wired) (hn : (s.sched.jobs.map (·.id)).Nodup) : t.Wired := by
  cases h with
  | detachHead b => exact law.same (fun b' => State.detachHead_busRec s b b') (fun k => by simp) (by simp) (by simp)
  | detachSpeech b => exact law.same (fun b' => State.detachSpeech_busRec s b b') (fun k => by simp) (by simp) (by simp)
  | release b =>
    refine law.write (fun b' => State.releaseBus_busRec s b b' false) (State.releaseBus_relaysOf s b false)
      (BusRecord.released_line ..) ?_
    rw [BusRecord.released_access]
    exact AccessState.afterRelease_rewires _
  | take form b j job idle safe free => exact law.take form idle (free hn)
  | guardBusy b guard =>
    refine law.write (f := fun x => { x with bridge := false }) (fun b' => State.guardBusy_busRec s b b') (fun k => ?_)
      (.inr ⟨rfl, rfl⟩) ⟨fun _ hc _ => (by cases hc), fun _ hp h => ?_⟩
    · unfold State.guardBusy
      rw [State.toIdle_relaysOf, State.setBusRec_relaysOf, State.moveRelays_relaysOf]
    · exact absurd (h hp) (by simp [guard])
  | transfer b id connected => exact law.same (fun b' => State.transfer_busRec s b b' id) (fun _ => rfl) rfl rfl
  | resume b safe =>
    have hrel (k : Nat) : (s.resume b).relaysOf k = if (s.busRec b).line = some k then
        (if (s.busRec b).access = .parked then { s.relaysOf k with testPath := true } else s.relaysOf k) else s.relaysOf k := by
      rw [State.resume_relaysOf, ite_and]
    refine law.write (f := fun x => if (s.busRec b).access = .parked then { x with testPath := true } else x)
      (fun b' => State.resume_busRec s b b') hrel ?_ ?_
    · left; split <;> rfl
    · cases ha : (s.busRec b).access <;> constructor <;> intro x <;> simp [AccessState.cutStands, ha]
  | attachHead b hd connected => exact law.same (fun b' => State.attachHead_busRec s b b' hd) (fun _ => rfl) rfl rfl
  | hazard h b r =>
    have hother (b' : Bus) : ((s.setHazardRec b r).hazardAction h b).busRec b' =
        if b' = b then ((s.setHazardRec b r).hazardAction h b).busRec b else s.busRec b' := by
      obtain ⟨i, hi⟩ := (s.setHazardRec b r).hazardAction_busRec b b' h
      split
      next he => rw [he]
      next he => rw [hi, if_neg he]; rfl
    obtain ⟨i, hi⟩ := (s.setHazardRec b r).hazardAction_busRec b b h
    rw [if_pos rfl, State.setHazardRec_busRec] at hi
    by_cases hisolate : inSet ((s.setHazardRec b r).settingsOf h).isolate b = true
    · rw [if_pos hisolate] at hi
      refine law.write (f := LineRelays.released (s.busRec b).access) hother (fun k => ?_) ?_ ?_
      · rw [State.hazardAction_relaysOf, if_pos hisolate]; rfl
      · rw [hi]
        simpa using BusRecord.released_line (s.busRec b).withoutSpeech true i
      · rw [hi, BusRecord.released_access, BusRecord.withoutSpeech_access]
        exact AccessState.afterRelease_rewires _
    · rw [if_neg hisolate] at hi
      refine law.write (f := LineRelays.parked (s.busRec b).access) hother (fun k => ?_) ?_ ?_
      · rw [State.hazardAction_relaysOf, if_neg hisolate]; rfl
      · rw [hi]
        simpa using BusRecord.parked_line (s.busRec b).withoutSpeech
      · rw [hi, BusRecord.parked_access, BusRecord.withoutSpeech_access]
        exact AccessState.afterPark_rewires _
  | idleLine b guard =>
    refine law.write (f := fun x => { x with bridge := false, cutOpen := true }) (fun b' => State.guardIdleLine_busRec s b b')
      (fun k => ?_) (.inl rfl) ⟨fun _ _ _ => rfl, fun _ hp h => ?_⟩
    · unfold State.guardIdleLine
      rw [State.putBus_relaysOf, State.moveRelays_relaysOf]
    · exact absurd (h hp) (by simp [guard])
  | connectEnds b cutting =>
    refine law.write (f := fun x => if (s.busRec b).parkMark then x else { x with testPath := true })
      (fun b' => State.connectEnds_busRec s b b') (fun k => ?_) ?_ ?_
    · unfold State.connectEnds
      dsimp only
      split
      · rw [State.putBus_relaysOf, ite_self]
      · rw [State.putBus_relaysOf, State.moveRelays_relaysOf]
    · left; split <;> rfl
    · cases (s.busRec b).parkMark <;> constructor <;> intro x <;> simp [AccessState.cutStands, cutting]
  | restoreEnds b releasing =>
    refine law.write (f := fun x => { x with cutOpen := false }) (fun b' => State.restoreEnds_busRec s b b') (fun k => ?_)
      (BusRecord.atIdle_lines _) ⟨fun _ hc => by simp [AccessState.cutStands] at hc, fun _ hp h => ?_⟩
    · unfold State.restoreEnds
      rw [State.toIdle_relaysOf, State.moveRelays_relaysOf]
    · exact absurd (h hp) (by simp [releasing])
  | cut forced b monitor =>
    refine law.write (f := fun x => if forced then { x with bridge := false, cutOpen := true } else x)
      (fun b' => State.cutFromMonitor_busRec s b b' forced) (fun k => ?_) ?_ ?_
    · unfold State.cutFromMonitor
      dsimp only
      cases forced
      · simp [State.startGuard]
      · simp [State.moveRelays_relaysOf, State.detachSpeech_busRec]
    · left; cases forced <;> simp
    · cases forced <;> constructor <;> intro x <;> simp [AccessState.cutStands, monitor]
  | attachSpeech b p ok => exact law.same (fun b' => State.attachSpeech_busRec s b b' p) (fun _ => rfl) rfl rfl
  | watch => exact law.of_eq rfl rfl
  | hazardRec => exact law.of_eq rfl rfl
  | storm => exact law.of_eq rfl rfl

/-! ## The law in each move -/

/-- The last clause of the law: while cuts of a reset drop are open no bus, job or sweep acts. -/
def State.DropQuiet (s : State) : Prop := s.resets.drop ≠ [] →
  s.resets.active = true ∧ s.sched.jobs = [] ∧ s.access.buses = [] ∧ s.sweep.state = .stopped

theorem relayLaw_iff : RelayLaw s ↔ s.Wired ∧ s.DropQuiet :=
  ⟨fun h => ⟨h.wired, h.dropQuiet⟩, fun ⟨h, k⟩ => ⟨h.cutStands, h.pathStands, h.oneLine, k⟩⟩

theorem State.DropQuiet.of_eq (law : s.DropQuiet) (hr : t.resets = s.resets) (hj : t.sched.jobs = s.sched.jobs)
    (hb : t.access.buses = s.access.buses) (hs : t.sweep.state = s.sweep.state) : t.DropQuiet := by
  unfold State.DropQuiet
  rw [hr, hj, hb, hs]
  exact law

theorem State.DropQuiet.job (h : JobMove F s t) (law : s.DropQuiet) : t.DropQuiet := by
  intro hdrop
  rw [h.resets] at hdrop ⊢
  obtain ⟨hactive, hjobs, hbuses, hstopped⟩ := law hdrop
  refine ⟨hactive, ?_, by rw [h.access]; exact hbuses, h.sweepKept.stopped hactive hstopped⟩
  cases h with
  | upd => simp [State.updJob, State.setJobs, hjobs]
  | keepWatch => simp [State.keepWatch, State.updJob, State.setJobs, hjobs]
  | counters => exact hjobs
  | remove j o id some => exact absurd hjobs some
  | enqueue w q kept supply acts =>
    rcases acts with h | h
    · rw [hactive] at h; cases h
    · rw [hstopped] at h; cases h
  | sweep => exact hjobs

theorem State.busRec_initial (h : s.access.buses = []) (b : Bus) : s.busRec b = BusRecord.initial := by
  unfold State.busRec; rw [h]; rfl

/-- With no access standing, no test path is closed. -/
theorem State.Wired.of_empty (hb : s.access.buses = []) (hp : ∀ l, (s.relaysOf l).testPath = false) : s.Wired := by
  refine ⟨fun b l hl => ?_, fun l h => ?_, fun b _ l _ hl => ?_⟩
  · rw [State.busRec_initial hb] at hl; cases hl
  · rw [hp] at h; cases h
  · rw [State.busRec_initial hb] at hl; cases hl

/-- The relays that a reset's drop leaves have no test path closed. -/
theorem State.dropAccess_testPath (s : State) (drop : List DropEntry) (l : Nat) :
    (Table.get LineRelays.initial (s.dropAccess drop).relays l).testPath = false := by
  have each (drop : List DropEntry) : ∀ t : Table LineRelays, (Table.get LineRelays.initial t l).testPath = false →
      (Table.get LineRelays.initial (drop.foldl (fun t d => Table.set LineRelays.initial t d.line ⟨true, false, false⟩) t) l).testPath
        = false := by
    induction drop with
    | nil => exact fun _ h => h
    | cons d drop ih =>
      intro t h
      refine ih _ ?_
      rw [Table.get_set]
      split
      · rfl
      · exact h
  exact each drop [] rfl

theorem RelayLaw.reset (h : ResetMove s t) (law : RelayLaw s) : RelayLaw t := by
  have hwired := law.wired
  have hquiet : s.DropQuiet := law.dropQuiet
  refine relayLaw_iff.2 ?_
  cases h with
  | cleared cause drop => exact ⟨.of_empty rfl (s.dropAccess_testPath drop), fun _ => ⟨rfl, rfl, rfl, rfl⟩⟩
  | ends r m dropped => exact ⟨hwired.of_eq rfl rfl, fun h => absurd dropped h⟩
  | checkMarker =>
    unfold State.checkMarker
    dsimp only
    (repeat' split) <;> exact ⟨hwired.of_eq rfl rfl, hquiet⟩
  | started => exact ⟨hwired.of_eq rfl rfl, hquiet⟩
  | dropped d line g open_ =>
    obtain ⟨hactive, hjobs, hbuses, hstopped⟩ := hquiet open_
    have hdark (l : Nat) : (s.relaysOf l).testPath = false := by
      by_contra hp
      obtain ⟨b, hl, -⟩ := hwired.pathStands l (by simpa using hp)
      rw [State.busRec_initial hbuses] at hl
      cases hl
    have hclosed (l : Nat) : ((s.setRelays line LineRelays.initial).relaysOf l).testPath = false := by
      rw [State.setRelays_relaysOf]
      split
      · rfl
      · exact hdark l
    cases g <;> exact ⟨.of_empty hbuses hclosed, fun _ => ⟨hactive, hjobs, hbuses, hstopped⟩⟩
  | supplyRises => exact ⟨hwired.of_eq rfl rfl, hquiet⟩

theorem RelayLaw.move (h : Move F s t) (law : RelayLaw s) (hn : (s.sched.jobs.map (·.id)).Nodup) : RelayLaw t := by
  have hwired := law.wired
  have hquiet : s.DropQuiet := law.dropQuiet
  have same (ha : t.access = s.access) : t.Wired :=
    hwired.of_eq (by funext b; unfold State.busRec; rw [ha]) (by funext l; unfold State.relaysOf; rw [ha])
  cases h with
  | bus h =>
    refine relayLaw_iff.2 ⟨hwired.bus h hn, fun hdrop => ?_⟩
    rw [h.resets] at hdrop ⊢
    obtain ⟨hactive, hjobs, hbuses, hstopped⟩ := hquiet hdrop
    exact ⟨hactive, by rw [h.sched]; exact hjobs, h.buses_nil hjobs hbuses, by rw [h.sweep]; exact hstopped⟩
  | job h => exact relayLaw_iff.2 ⟨same h.access, hquiet.job h⟩
  | ticket h =>
    exact relayLaw_iff.2 ⟨same h.access, hquiet.of_eq h.resets (by rw [h.sched]) (by rw [h.access]) (by rw [h.sweep])⟩
  | setting h =>
    obtain ⟨-, hjobs, haccess, -, hresets, -⟩ := h.rest
    exact relayLaw_iff.2 ⟨same haccess, hquiet.of_eq hresets hjobs (by rw [haccess]) (by rw [h.sweep])⟩
  | reset h => exact .reset h law
  | heads => exact relayLaw_iff.2 ⟨same rfl, hquiet⟩
  | passive => exact relayLaw_iff.2 ⟨same rfl, hquiet⟩

/-- The ids stay distinct in every move of an event that began with a table of at most 16 jobs. -/
theorem nodup_move (h : Move F s t) (hF : F) (hn : (s.sched.jobs.map (·.id)).Nodup) : (t.sched.jobs.map (·.id)).Nodup := by
  cases h with
  | bus h => rw [h.sched]; exact hn
  | job h => exact h.nodup hF hn
  | ticket h => rw [h.sched]; exact hn
  | setting h =>
    obtain ⟨-, hjobs, -⟩ := h.rest
    rw [hjobs]; exact hn
  | reset h =>
    cases h with
    | cleared => exact .nil
    | checkMarker =>
      unfold State.checkMarker
      dsimp only
      (repeat' split) <;> exact hn
    | dropped d line g => cases g <;> exact hn
    | _ => exact hn
  | heads => exact hn
  | passive => exact hn

/-- What an event keeps of the relays' law: the law, and the distinct ids by which a job that starts is the one that was judged. -/
structure State.RelaysKept (s : State) : Prop where
  law : RelayLaw s
  distinct : (s.sched.jobs.map (·.id)).Nodup

/-- Settles O9: with distinct ids, every move keeps the law; a fall leaves no relay out of its rest. -/
theorem everyStepKeepsTheRelayLaw : Obligations.EveryStepKeepsTheRelayLaw := by
  unfold Obligations.EveryStepKeepsTheRelayLaw
  intro s t jobs law h
  have keeps := step_keeps (P := State.RelaysKept) h ⟨law, jobs.distinct⟩
    fun s' t' hm hs => ⟨RelayLaw.move hm hs.law hs.distinct, nodup_move hm jobs.places hs.distinct⟩
  refine (keeps (fun s' hs => ⟨?_, hs.distinct⟩) (fun s' hjobs hs => ⟨?_, hs.distinct⟩)).law
  · exact relayLaw_iff.2 ⟨hs.law.wired.of_eq rfl rfl, fun h => absurd rfl h⟩
  · refine relayLaw_iff.2 ⟨.of_empty rfl fun _ => rfl, fun hdrop => ?_⟩
    obtain ⟨hactive, -, -, hstopped⟩ := hs.law.dropQuiet hdrop
    exact ⟨hactive, hjobs, rfl, hstopped⟩

end Sys2Proof.Machine
end

section
/-! PROOF. The law of the report queue (R11, R12, R18): an event raises no OVERFLOW and leaves the queue alone until its end;
the end of an event, and the resets, keep the law. -/

namespace Sys2Proof.Machine

/-! ## What the law reads -/

/-- What the law of the report queue reads of a state: the queue, the lost count and whether a place is held for START. -/
def State.queueView (s : State) : List Report × Nat × Bool := (s.fixed.link.queue, s.fixed.link.lost, s.fixed.resets.starting)

theorem QueueLaw.of_view {s t : State} (h : QueueLaw s) (view : t.queueView = s.queueView) : QueueLaw t := by
  obtain ⟨places, one, lost⟩ := h
  simp only [State.queueView, Prod.mk.injEq] at view
  obtain ⟨hq, hl, hs⟩ := view
  have hq : t.link.queue = s.link.queue := hq
  have hl : t.link.lost = s.link.lost := hl
  have hs : t.resets.starting = s.resets.starting := hs
  exact ⟨by simpa [State.queueUsed, hq, hs] using places, by rwa [hq], by rwa [hl]⟩

/-- The law holds in an event and no OVERFLOW is raised in it. -/
structure Ctx.QueueHeld (c : Ctx) : Prop where
  law : QueueLaw c.s
  plain : c.plain = true

/-- A part of an event leaves the queue alone and raises no OVERFLOW. -/
structure LeavesQueue (c d : Ctx) : Prop where
  view : d.s.queueView = c.s.queueView
  plain : d.plain = c.plain

theorem LeavesQueue.refl (c : Ctx) : LeavesQueue c c := ⟨rfl, rfl⟩

theorem LeavesQueue.trans {c d e : Ctx} (h : LeavesQueue c d) (h' : LeavesQueue d e) : LeavesQueue c e :=
  ⟨h'.view.trans h.view, h'.plain.trans h.plain⟩

theorem LeavesQueue.of_fixed {c d : Ctx} (h : d.s.fixed = c.s.fixed) (plain : d.plain = c.plain) : LeavesQueue c d :=
  ⟨by simp only [State.queueView, h], plain⟩

theorem Ctx.QueueHeld.after {c d : Ctx} (h : c.QueueHeld) (leaves : LeavesQueue c d) : d.QueueHeld :=
  ⟨h.law.of_view leaves.view, leaves.plain.trans h.plain⟩

/-! ## The end of an event (R10 to R12) -/

theorem overflows_append (q r : List Report) : overflows (q ++ r) = overflows q ++ overflows r := List.filter_append ..

theorem State.raise_queueLaw {s : State} (h : QueueLaw s) {r : Report} (plain : r.isOverflow = false) : QueueLaw (s.raise r) := by
  obtain ⟨places, one, lost⟩ := h
  by_cases room : s.queueUsed < Config.queuePlaces
  · rw [State.raise_room room]
    refine ⟨?_, by simpa [overflows_append, overflows, plain] using one, lost⟩
    have : Config.queuePlaces = 32 := rfl
    simp only [State.queueUsed, List.length_append, List.length_singleton] at room ⊢
    omega
  · rw [State.raise_full room]
    exact ⟨places, one, Nat.min_le_left ..⟩

theorem raiseAll_queueLaw (rs : List Report) {s : State} (h : QueueLaw s) (plain : ∀ r ∈ rs, r.isOverflow = false) :
    QueueLaw (rs.foldl State.raise s) := by
  induction rs generalizing s with
  | nil => exact h
  | cons r rs ih =>
    exact ih (State.raise_queueLaw h (plain r List.mem_cons_self)) fun x hx => plain x (List.mem_cons_of_mem _ hx)

theorem noOverflow_of_all {q : List Report} (h : q.all (fun r => !r.isOverflow) = true) : overflows q = [] :=
  List.filter_eq_nil_iff.2 (by simpa using h)

/-- The report leaves its place, and an OVERFLOW may take it (R12). -/
theorem leave_queueLaw {s : State} (h : QueueLaw s) {q : Report} {rest : List Report} (hq : s.link.queue = q :: rest) :
    QueueLaw { s with link := afterLeave { s.link with queue := rest, tx := .report q } } := by
  obtain ⟨places, one, lost⟩ := h
  rw [State.queueUsed, hq, List.length_cons] at places
  rw [hq] at one
  have hrest : (overflows rest).length ≤ 1 :=
    ((List.Sublist.filter Report.isOverflow (List.sublist_cons_self q rest)).length_le).trans one
  unfold afterLeave
  split
  next hadd =>
    refine ⟨?_, ?_, Nat.zero_le _⟩
    · simp only [State.queueUsed, List.length_append, List.length_singleton]
      omega
    · rw [overflows_append, noOverflow_of_all hadd.2]
      exact List.length_filter_le ..
  · refine ⟨?_, hrest, lost⟩
    simp only [State.queueUsed]
    omega

theorem State.pump_queueLaw {s : State} (h : QueueLaw s) : QueueLaw s.pump := by
  unfold State.pump
  split
  · exact h
  · split
    · split
      · exact h.of_view rfl
      · split
        · exact h
        · split
          · exact h
          next hq => exact leave_queueLaw h hq
    · exact h

theorem mem_ordered {out : List OutItem} {i : OutItem} (h : i ∈ ordered out) : i ∈ out := by
  simp only [ordered, List.mem_append, List.mem_filter] at h
  obtain (⟨h, -⟩ | ⟨h, -⟩) | ⟨h, -⟩ := h <;> exact h

theorem Ctx.QueueHeld.finish {c : Ctx} (h : c.QueueHeld) : QueueLaw c.finish := by
  refine State.pump_queueLaw (raiseAll_queueLaw _ h.law fun r hr => ?_)
  obtain ⟨i, hi, hir⟩ := List.mem_filterMap.1 hr
  exact OutItem.report_plain (List.all_eq_true.1 h.plain i (mem_ordered hi)) hir

/-! ## What the shared operations leave (Laws/Frame) -/

variable (c : Ctx)

theorem LeavesQueue.ite {p : Prop} [Decidable p] {d e : Ctx} (hd : LeavesQueue c d) (he : LeavesQueue c e) :
    LeavesQueue c (if p then d else e) := by
  split <;> assumption

theorem LeavesQueue.foldl {A : Type} (f : Ctx → A → Ctx) (h : ∀ c a, LeavesQueue c (f c a)) (as : List A) :
    LeavesQueue c (as.foldl f c) := by
  induction as generalizing c with
  | nil => exact .refl c
  | cons a as ih => exact (h c a).trans (ih (f c a))

theorem LeavesQueue.settle (n : Nat) {d : Ctx} (h : LeavesQueue c d) : LeavesQueue c (d.settle n) :=
  h.trans (.of_fixed (Ctx.settle_fixed d n) (Ctx.settle_plain d n))

theorem LeavesQueue.enterBus (h : Hazard) (b : Bus) : LeavesQueue c (c.enterBus h b) :=
  .of_fixed (by simp [Ctx.enterBus]) (by simp [Ctx.enterBus, Report.isOverflow])

theorem LeavesQueue.hazardAt (x : HazardChange) (b : Bus) : LeavesQueue c (c.hazardAt x b) := by
  unfold Ctx.hazardAt
  extract_lets joins leaves c1 c2
  have h1 : LeavesQueue c c1 := .ite c (.enterBus c _ b) (.refl c)
  have h2 : LeavesQueue c1 c2 := .ite c1 (.of_fixed (by simp) rfl) (.refl c1)
  exact (h1.trans h2).trans (.ite c2 (.of_fixed (by simp) (by simp)) (.refl c2))

theorem LeavesQueue.setHazard (h : Hazard) (new : HazardSettings) (hold : Nat) : LeavesQueue c (c.setHazard h new hold) := by
  unfold Ctx.setHazard
  extract_lets x c1 c2 c3
  have hconditions (is : List HazardInput) (f : State → HazardInput → Condition) (s : State) :
      (is.foldl (fun s i => s.setCondition i (f s i)) s).queueView = s.queueView := by
    induction is generalizing s with
    | nil => rfl
    | cons i is ih => rw [List.foldl_cons, ih]; simp [State.queueView]
  have h1 : LeavesQueue c c1 := by
    refine ⟨(hconditions _ _ _).trans ?_, rfl⟩
    cases h <;> rfl
  have h2 : LeavesQueue c1 c2 := .foldl c1 _ (fun c b => .hazardAt c x b) _
  have h3 : LeavesQueue c2 c3 := .ite c2 (.of_fixed (by simp) (by simp)) (.refl c2)
  exact ((h1.trans h2).trans h3).trans ⟨rfl, rfl⟩

theorem LeavesQueue.clearCondition (i : HazardInput) : LeavesQueue c (c.clearCondition i) := by
  unfold Ctx.clearCondition Ctx.tellCleared
  dsimp only
  (repeat' split)
  · exact .of_fixed (by simp) (by simp)
  · exact .of_fixed (by simp) (by simp)
  · exact .refl c

theorem LeavesQueue.disableGroup (g : Nat) : LeavesQueue c (c.disableGroup g) :=
  .foldl c _ (fun c j => .of_fixed (by simp) (by simp)) _

theorem LeavesQueue.enterTest (q : TestRequest) (other : Option Job) : LeavesQueue c (c.enterTest q other) := by
  unfold Ctx.enterTest
  (repeat' split) <;> exact .of_fixed (by simp) (by simp)

/-! ## The owners of requests -/

/-- A served request leaves the queue alone; its answer waits for the event's end. -/
def Served.LeavesQueue (c : Ctx) : Served → Prop
  | .rejected _ => True
  | .done d _ => Machine.LeavesQueue c d

@[simp] theorem State.fixed_link (s : State) : s.fixed.link = s.link := rfl
@[simp] theorem State.fixed_resets (s : State) : s.fixed.resets = s.resets := rfl
@[simp] theorem leavesQueue_rejected (r : Reason) : (Served.rejected r).LeavesQueue c := trivial
@[simp] theorem leavesQueue_done (d : Ctx) (f : State → AckBody) :
    (Served.done d f).LeavesQueue c ↔ d.s.queueView = c.s.queueView ∧ d.plain = c.plain :=
  ⟨fun h => ⟨h.view, h.plain⟩, fun h => ⟨h.1, h.2⟩⟩

theorem ownerEcho_leavesQueue (body : List Byte) : (ownerEcho body c).LeavesQueue c := by
  unfold ownerEcho
  simp [State.queueView]

theorem ownerStatus_leavesQueue (body : List Byte) : (ownerStatus body c).LeavesQueue c := by
  unfold ownerStatus
  simp [State.queueView]

theorem ownerTimeSet_leavesQueue (body : List Byte) : (ownerTimeSet body c).LeavesQueue c := by
  unfold ownerTimeSet
  dsimp only
  simp [State.queueView]

theorem ownerReset_leavesQueue (body : List Byte) : (ownerReset body c).LeavesQueue c := by
  unfold ownerReset
  simp [State.queueView]

theorem ownerDirRead_leavesQueue (body : List Byte) : (ownerDirRead body c).LeavesQueue c := by
  unfold ownerDirRead
  dsimp only
  (repeat' split) <;> simp [State.queueView]

theorem ownerProfileSet_leavesQueue (body : List Byte) : (ownerProfileSet body c).LeavesQueue c := by
  unfold ownerProfileSet
  dsimp only
  (repeat' split) <;> simp [State.queueView, State.setProfile]

theorem ownerProfileRead_leavesQueue (body : List Byte) : (ownerProfileRead body c).LeavesQueue c := by
  unfold ownerProfileRead
  dsimp only
  (repeat' split) <;> simp [State.queueView]

theorem ownerRouteRead_leavesQueue (body : List Byte) : (ownerRouteRead body c).LeavesQueue c := by
  unfold ownerRouteRead
  dsimp only
  (repeat' split) <;> simp [State.queueView]

theorem ownerIntervalSet_leavesQueue (body : List Byte) : (ownerIntervalSet body c).LeavesQueue c := by
  unfold ownerIntervalSet
  dsimp only
  (repeat' split) <;> simp [State.queueView]

theorem ownerSpeak_leavesQueue (body : List Byte) : (ownerSpeak body c).LeavesQueue c := by
  unfold ownerSpeak
  dsimp only
  (repeat' split) <;> simp [State.queueView, State.restartHold]

theorem ownerHold_leavesQueue (body : List Byte) : (ownerHold body c).LeavesQueue c := by
  unfold ownerHold
  (repeat' split) <;> simp [State.queueView, State.restartHold]

theorem ownerJobRead_leavesQueue (body : List Byte) : (ownerJobRead body c).LeavesQueue c := by
  unfold ownerJobRead
  (repeat' split) <;> simp [State.queueView, State.restartHold]

theorem ownerHoldLimitSet_leavesQueue (body : List Byte) : (ownerHoldLimitSet body c).LeavesQueue c := by
  unfold ownerHoldLimitSet
  dsimp only
  (repeat' split) <;> simp [State.queueView]

theorem ownerSweepRead_leavesQueue (body : List Byte) : (ownerSweepRead body c).LeavesQueue c := by
  unfold ownerSweepRead
  simp [State.queueView]

theorem ownerStepSet_leavesQueue (body : List Byte) : (ownerStepSet body c).LeavesQueue c := by
  unfold ownerStepSet
  (repeat' split) <;> simp [State.queueView]

theorem ownerStepRead_leavesQueue (body : List Byte) : (ownerStepRead body c).LeavesQueue c := by
  unfold ownerStepRead
  (repeat' split) <;> simp [State.queueView]

theorem ownerLineRead_leavesQueue (body : List Byte) : (ownerLineRead body c).LeavesQueue c := by
  unfold ownerLineRead
  dsimp only
  (repeat' split) <;> simp [State.queueView]

theorem ownerTicketDispatch_leavesQueue (body : List Byte) : (ownerTicketDispatch body c).LeavesQueue c := by
  unfold ownerTicketDispatch
  (repeat' split) <;> simp [State.queueView]

theorem ownerTicketClose_leavesQueue (body : List Byte) : (ownerTicketClose body c).LeavesQueue c := by
  unfold ownerTicketClose
  dsimp only
  (repeat' split) <;> simp [State.queueView]

theorem ownerTicketVerify_leavesQueue (body : List Byte) : (ownerTicketVerify body c).LeavesQueue c := by
  unfold ownerTicketVerify
  (repeat' split) <;> simp [State.queueView]

theorem ownerTicketRead_leavesQueue (body : List Byte) : (ownerTicketRead body c).LeavesQueue c := by
  unfold ownerTicketRead
  (repeat' split) <;> simp [State.queueView]

theorem ownerTicketList_leavesQueue (body : List Byte) : (ownerTicketList body c).LeavesQueue c := by
  unfold ownerTicketList
  dsimp only
  (repeat' split) <;> simp [State.queueView]

theorem ownerRollupSet_leavesQueue (body : List Byte) : (ownerRollupSet body c).LeavesQueue c := by
  unfold ownerRollupSet
  simp [State.queueView]

theorem ownerSweepStart_leavesQueue (body : List Byte) : (ownerSweepStart body c).LeavesQueue c := by
  unfold ownerSweepStart
  (repeat' split) <;> simp [State.queueView, State.setSweep]

theorem ownerSweepStop_leavesQueue (body : List Byte) : (ownerSweepStop body c).LeavesQueue c := by
  unfold ownerSweepStop
  simp [State.queueView, State.setSweep]

theorem ownerSweepDefault_leavesQueue (body : List Byte) : (ownerSweepDefault body c).LeavesQueue c := by
  unfold ownerSweepDefault
  simp [State.queueView, State.setSweep]

theorem ownerSweepSet_leavesQueue (body : List Byte) : (ownerSweepSet body c).LeavesQueue c := by
  unfold ownerSweepSet
  dsimp only
  (repeat' split) <;> simp [State.queueView, State.setSweep]

theorem ownerHeadAccept_leavesQueue (body : List Byte) : (ownerHeadAccept body c).LeavesQueue c := by
  unfold ownerHeadAccept
  (repeat' split) <;> simp [State.queueView, State.acceptHead]

theorem ownerTicketReport_leavesQueue (body : List Byte) : (ownerTicketReport body c).LeavesQueue c := by
  unfold ownerTicketReport
  dsimp only
  (repeat' split) <;> simp [State.queueView]

theorem ownerCut_leavesQueue (body : List Byte) : (ownerCut body c).LeavesQueue c := by
  unfold ownerCut Ctx.cutJob
  dsimp only
  (repeat' split) <;> simp [State.queueView]

theorem ownerRetest_leavesQueue (body : List Byte) : (ownerRetest body c).LeavesQueue c := by
  unfold ownerRetest Ctx.retestJob
  dsimp only
  (repeat' split) <;> simp [State.queueView]

theorem ownerCancel_leavesQueue (body : List Byte) : (ownerCancel body c).LeavesQueue c := by
  unfold ownerCancel Ctx.cancelJob
  (repeat' split) <;> simp [State.queueView]

theorem ownerTest_leavesQueue (body : List Byte) : (ownerTest body c).LeavesQueue c := by
  unfold ownerTest Ctx.takeTest
  split
  · trivial
  split
  · trivial
  dsimp only
  split
  · trivial
  next evict _ =>
    refine .settle c _ (.trans ?_ (.enterTest _ _ _))
    cases evict
    · exact .refl c
    · exact .of_fixed (by simp) (by simp)

theorem State.writeEntries_queueView (es : List DirEntry) (s : State) (line : Nat) :
    (s.writeEntries line es).queueView = s.queueView := by
  induction es generalizing s line with
  | nil => rfl
  | cons e es ih => exact ih _ _

theorem ownerDirLoad_leavesQueue (body : List Byte) : (ownerDirLoad body c).LeavesQueue c := by
  unfold ownerDirLoad
  dsimp only
  (repeat' split)
  · trivial
  · trivial
  · trivial
  · exact ⟨State.writeEntries_queueView _ _ _, rfl⟩

theorem ownerRouteSet_leavesQueue (body : List Byte) : (ownerRouteSet body c).LeavesQueue c := by
  unfold ownerRouteSet
  extract_lets g old
  split
  · trivial
  split
  · trivial
  split
  · exact .refl c
  extract_lets c1 c2
  have h1 : LeavesQueue c c1 := ⟨rfl, rfl⟩
  have h2 : LeavesQueue c1 c2 := .ite c1 (.disableGroup c1 g) (.refl c1)
  exact .settle c _ ((h1.trans h2).trans ⟨rfl, rfl⟩)

theorem ownerWatchSet_leavesQueue (body : List Byte) : (ownerWatchSet body c).LeavesQueue c := by
  unfold ownerWatchSet State.setGuardLength State.keepWatch
  dsimp only
  (repeat' split) <;> simp [State.queueView]

theorem ownerWatchClear_leavesQueue (body : List Byte) : (ownerWatchClear body c).LeavesQueue c := by
  unfold ownerWatchClear
  split
  · trivial
  extract_lets hit c1
  have h1 : LeavesQueue c c1 := by
    refine ⟨?_, rfl⟩
    show (hit.foldl _ c.s).queueView = _
    generalize c.s = s
    induction hit generalizing s with
    | nil => rfl
    | cons b bs ih => exact ih _
  exact .settle c _ (h1.trans (.foldl c1 _ (fun c b => .of_fixed (by simp) (by simp)) _))

theorem ownerHazardSet_leavesQueue (body : List Byte) : (ownerHazardSet body c).LeavesQueue c := by
  unfold ownerHazardSet
  extract_lets go
  have hgo (h : Hazard) : (go h).LeavesQueue c := by
    simp only [go]
    split
    · trivial
    · exact .settle c _ (.setHazard c _ _ _)
  split
  · exact hgo .a
  · exact hgo .b
  · trivial

theorem ownerHazardClear_leavesQueue (body : List Byte) : (ownerHazardClear body c).LeavesQueue c := by
  unfold ownerHazardClear
  dsimp only
  split
  · trivial
  · exact .settle c _ (.foldl c _ (fun c i => .clearCondition c i) _)

theorem State.forgetTickets_fixed (s : State) : s.forgetTickets.fixed = s.fixed := by
  unfold State.forgetTickets
  generalize s.lines = ls
  induction ls generalizing s with
  | nil => rfl
  | cons l ls ih => rw [List.foldl_cons, ih]; simp

theorem ownerTicketErase_leavesQueue (body : List Byte) : (ownerTicketErase body c).LeavesQueue c := by
  unfold ownerTicketErase
  exact ⟨congrArg (fun s : State => (s.link.queue, s.link.lost, s.resets.starting)) c.s.forgetTickets_fixed, rfl⟩

theorem serviceOf_leavesQueue {code : Byte} {v : Service} (hv : serviceOf code = some v) (body : List Byte) :
    (v.owner body c).LeavesQueue c := by
  unfold serviceOf at hv
  split at hv <;> cases hv
  · exact ownerEcho_leavesQueue c body
  · exact ownerStatus_leavesQueue c body
  · exact ownerTimeSet_leavesQueue c body
  · exact ownerReset_leavesQueue c body
  · exact ownerDirLoad_leavesQueue c body
  · exact ownerDirRead_leavesQueue c body
  · exact ownerProfileSet_leavesQueue c body
  · exact ownerProfileRead_leavesQueue c body
  · exact ownerRouteSet_leavesQueue c body
  · exact ownerRouteRead_leavesQueue c body
  · exact ownerIntervalSet_leavesQueue c body
  · exact ownerWatchSet_leavesQueue c body
  · exact ownerWatchClear_leavesQueue c body
  · exact ownerHazardSet_leavesQueue c body
  · exact ownerHazardClear_leavesQueue c body
  · exact ownerTest_leavesQueue c body
  · exact ownerCut_leavesQueue c body
  · exact ownerSpeak_leavesQueue c body
  · exact ownerHold_leavesQueue c body
  · exact ownerRetest_leavesQueue c body
  · exact ownerCancel_leavesQueue c body
  · exact ownerCancel_leavesQueue c body
  · exact ownerJobRead_leavesQueue c body
  · exact ownerHoldLimitSet_leavesQueue c body
  · exact ownerSweepStart_leavesQueue c body
  · exact ownerSweepStop_leavesQueue c body
  · exact ownerSweepDefault_leavesQueue c body
  · exact ownerSweepSet_leavesQueue c body
  · exact ownerSweepRead_leavesQueue c body
  · exact ownerHeadAccept_leavesQueue c body
  · exact ownerStepSet_leavesQueue c body
  · exact ownerStepRead_leavesQueue c body
  · exact ownerLineRead_leavesQueue c body
  · exact ownerTicketReport_leavesQueue c body
  · exact ownerTicketDispatch_leavesQueue c body
  · exact ownerTicketClose_leavesQueue c body
  · exact ownerTicketVerify_leavesQueue c body
  · exact ownerTicketRead_leavesQueue c body
  · exact ownerTicketList_leavesQueue c body
  · exact ownerTicketErase_leavesQueue c body
  · exact ownerRollupSet_leavesQueue c body

/-! ## The events that leave the queue alone -/

theorem Ctx.secondPasses_leavesQueue : LeavesQueue c c.secondPasses := by
  unfold Ctx.secondPasses
  dsimp only
  (repeat' split) <;> refine ⟨?_, ?_⟩ <;> simp [State.queueView, State.reach]

theorem Ctx.guardWindowEnds_leavesQueue (b : Bus) : LeavesQueue c (c.guardWindowEnds b) := by
  unfold Ctx.guardWindowEnds
  dsimp only
  (repeat' split) <;> refine ⟨?_, ?_⟩ <;> simp [State.queueView, State.reach]

theorem Ctx.connectRunsOut_leavesQueue (b : Bus) : LeavesQueue c (c.connectRunsOut b) := by
  unfold Ctx.connectRunsOut Ctx.reachedConnected
  dsimp only
  (repeat' split) <;> refine ⟨?_, ?_⟩ <;> simp [State.queueView, State.reach]

theorem Ctx.restoreRunsOut_leavesQueue (b : Bus) : LeavesQueue c (c.restoreRunsOut b) := by
  unfold Ctx.restoreRunsOut Ctx.reachedIdle
  dsimp only
  (repeat' split) <;> refine ⟨?_, ?_⟩ <;> simp [State.queueView, State.reach]

theorem Ctx.loopChange_leavesQueue (b : Bus) (p : Bool) : LeavesQueue c (c.loopChange b p) := by
  unfold Ctx.loopChange
  dsimp only [Ctx.upd]
  (repeat' split) <;> exact ⟨rfl, rfl⟩

theorem Ctx.debounceEnds_leavesQueue (b : Bus) : LeavesQueue c (c.debounceEnds b) := by
  unfold Ctx.debounceEnds Ctx.edgeActs
  dsimp only
  (repeat' split) <;> refine ⟨?_, ?_⟩ <;> simp [State.queueView, State.reach]

theorem Ctx.holdLimitEnds_leavesQueue (n : Nat) : LeavesQueue c (c.holdLimitEnds n) := by
  unfold Ctx.holdLimitEnds
  (repeat' split) <;> refine ⟨?_, ?_⟩ <;> simp [State.queueView, State.reach]

theorem Ctx.hazardHoldEnds_leavesQueue (n : Nat) : LeavesQueue c (c.hazardHoldEnds n) := by
  unfold Ctx.hazardHoldEnds
  (repeat' split) <;> refine ⟨?_, ?_⟩ <;> simp [State.queueView, State.reach]

theorem Ctx.inputActive_leavesQueue (i : HazardInput) : LeavesQueue c (c.inputActive i) := by
  unfold Ctx.inputActive
  dsimp only
  (repeat' split) <;> refine ⟨?_, ?_⟩ <;> simp [State.queueView, State.setHazardPin]

theorem Ctx.inputInactive_leavesQueue (i : HazardInput) : LeavesQueue c (c.inputInactive i) := by
  unfold Ctx.inputInactive
  dsimp only
  (repeat' split) <;> refine ⟨?_, ?_⟩ <;> simp [State.queueView, State.setHazardPin]

theorem Ctx.inputGone_leavesQueue (i : HazardInput) : LeavesQueue c (c.inputGone i) := by
  unfold Ctx.inputGone Ctx.tellCleared
  dsimp only
  (repeat' split) <;> refine ⟨?_, ?_⟩ <;> simp [State.queueView, State.reach]

theorem Ctx.presenceLost_leavesQueue (h : Head) : LeavesQueue c (c.presenceLost h) := by
  unfold Ctx.presenceLost
  dsimp only
  (repeat' split) <;> refine ⟨?_, ?_⟩ <;> simp [State.queueView, State.setHeadPin]

theorem Ctx.presenceReturns_leavesQueue (h : Head) : LeavesQueue c (c.presenceReturns h) := by
  unfold Ctx.presenceReturns
  dsimp only
  (repeat' split) <;> refine ⟨?_, ?_⟩ <;> simp [State.queueView, State.setHeadPin]

theorem Ctx.boundary_leavesQueue (h : Head) : LeavesQueue c (c.boundary h) := by
  unfold Ctx.boundary
  dsimp only
  (repeat' split) <;> refine ⟨?_, ?_⟩ <;> simp [State.queueView, State.reach]

theorem Ctx.triggerFalls_leavesQueue (h : Head) : LeavesQueue c (c.triggerFalls h) := by
  unfold Ctx.triggerFalls Ctx.missed
  dsimp only
  (repeat' split) <;> refine ⟨?_, ?_⟩ <;> simp [State.queueView, State.reach]

theorem Ctx.pairArrives_leavesQueue (h : Head) (v i : BitVec 16) : LeavesQueue c (c.pairArrives h v i) := by
  unfold Ctx.pairArrives Ctx.takePair Ctx.switchRange Ctx.setStep
  dsimp only
  (repeat' split) <;> refine ⟨?_, ?_⟩ <;> simp [State.queueView]

theorem Ctx.paceEnds_leavesQueue : LeavesQueue c c.paceEnds := by
  unfold Ctx.paceEnds
  dsimp only
  (repeat' split) <;> refine ⟨?_, ?_⟩ <;> simp [State.queueView, State.reach, State.setSweep]

/-! ## The receiver and the resets (R2, R3, R10, R18, R59, R186) -/

theorem queueHeld_of (s : State) (h : QueueLaw s) : (Ctx.of s).QueueHeld := ⟨h.of_view rfl, rfl⟩

theorem event_queueLaw {f : Ctx → Ctx} {s : State} (hf : ∀ c : Ctx, c.QueueHeld → (f c).QueueHeld) (h : QueueLaw s) :
    QueueLaw (event f s) := (hf _ (queueHeld_of s h)).finish

theorem settled_queueLaw {f : Ctx → Ctx} {s : State} (hf : ∀ c : Ctx, LeavesQueue c (f c)) (h : QueueLaw s) :
    QueueLaw (settled f s) :=
  event_queueLaw (fun c hc => hc.after (.settle c _ (hf c))) h

theorem Ctx.QueueHeld.answered {c : Ctx} (h : c.QueueHeld) (code tag : Byte) (x : State → ReplyContent) :
    QueueLaw (Ctx.finish (c.upd fun s => s.reply code tag (x s))) :=
  (h.after (d := c.upd fun s => s.reply code tag (x s)) ⟨rfl, rfl⟩).finish

theorem serve_queueLaw (lengthOk : Bool) (owner : Ctx → Served) (code tag : Byte) {c : Ctx} (h : c.QueueHeld)
    (howner : (owner c).LeavesQueue c) : QueueLaw (serve lengthOk owner code tag c) := by
  unfold serve
  dsimp only
  split
  · exact h.answered _ _ _
  split
  · exact h.answered _ _ _
  split
  · exact h.answered _ _ _
  split
  · exact h.answered _ _ _
  next c' body hdone =>
    rw [hdone] at howner
    exact (h.after howner).answered code tag fun s => .ack (body s)

theorem serveKind_queueLaw (code tag : Byte) (body : List Byte) {c : Ctx} (h : c.QueueHeld) :
    QueueLaw (serveKind code tag body c) := by
  unfold serveKind
  split
  next v hv => exact serve_queueLaw _ _ _ _ h (serviceOf_leavesQueue c hv body)
  · exact h.answered _ _ _

theorem Ctx.QueueHeld.linkError {c : Ctx} (h : c.QueueHeld) (r : LinkErrorReason) (kind tag : Byte) (n : Nat) :
    (c.linkError r kind tag n).QueueHeld :=
  h.after ⟨rfl, by simp [Ctx.linkError, Report.isOverflow]⟩

theorem frameCompleted_queueLaw (code tag : Byte) {k : Ctx → State} {s : State} (h : QueueLaw s)
    (hk : ∀ c : Ctx, c.QueueHeld → QueueLaw (k c)) : QueueLaw (frameCompleted code tag k s) := by
  unfold frameCompleted
  have hc : ((Ctx.of s).upd State.hunt).QueueHeld := (queueHeld_of s h).after ⟨rfl, rfl⟩
  split
  · exact h.of_view rfl
  dsimp only
  split
  · exact (hc.linkError ..).finish
  split
  · exact (hc.linkError ..).finish
  · exact hk _ hc

theorem request_queueLaw (code tag : Byte) (body : List Byte) {s : State} (h : QueueLaw s) :
    QueueLaw (frameCompleted code tag (serveKind code tag body) s) :=
  frameCompleted_queueLaw code tag h fun _ hc => serveKind_queueLaw code tag body hc

theorem quiet_queueLaw (rx : Receiver) {s : State} (h : QueueLaw s) : QueueLaw (quiet rx s) :=
  event_queueLaw (fun _ hc => hc.after ⟨rfl, rfl⟩) h

theorem abandonFraming_queueLaw (kind tag : Byte) {s : State} (h : QueueLaw s) : QueueLaw (abandonFraming kind tag s) :=
  (((queueHeld_of s h).after (d := (Ctx.of s).upd fun s => s.receive .hunt) ⟨rfl, rfl⟩).linkError ..).finish

theorem frameJudged_queueLaw (len : Nat) (got : List Byte) {s : State} (h : QueueLaw s) : QueueLaw (frameJudged len got s) := by
  unfold frameJudged
  dsimp only
  split
  · exact (((queueHeld_of s h).after (d := (Ctx.of s).upd State.hunt) ⟨rfl, rfl⟩).linkError ..).finish
  · exact request_queueLaw _ _ _ h

theorem characterReceived_queueLaw (ch : Byte) (ok : Bool) {s : State} (h : QueueLaw s) :
    QueueLaw (characterReceived ch ok s) := by
  unfold characterReceived
  split
  · exact h.of_view rfl
  split
  · exact quiet_queueLaw _ h
  · split
    · exact quiet_queueLaw _ h
    · exact abandonFraming_queueLaw _ _ h
  · split
    · dsimp only
      split
      · exact quiet_queueLaw _ h
      · exact frameJudged_queueLaw _ _ (h.of_view rfl)
    · exact abandonFraming_queueLaw _ _ h

theorem Ctx.QueueHeld.timeout {c : Ctx} (h : c.QueueHeld) : c.timeout.QueueHeld := by
  unfold Ctx.timeout
  extract_lets l drop
  have hdrop (k t : Byte) (n : Nat) : (drop k t n).QueueHeld :=
    (h.after (d := c.upd fun s => (s.reach (l.rxEnd + Config.interByte)).hunt) ⟨rfl, rfl⟩).linkError ..
  split
  · exact h
  · exact hdrop _ _ _
  · exact hdrop _ _ _

theorem setHeads_queueView (f : State → Head → HeadRecord) (hs : List Head) (s : State) :
    (hs.foldl (fun s h => s.setHeadRec h (f s h)) s).queueView = s.queueView := by
  induction hs generalizing s with
  | nil => rfl
  | cons h hs ih => exact ih _

theorem State.checkMarker_queueView (s : State) : s.checkMarker.queueView = s.queueView := by
  unfold State.checkMarker
  dsimp only
  (repeat' split) <;> rfl

/-- The starting phase begins with an empty queue and START's place. -/
theorem Ctx.QueueHeld.endReset {c : Ctx} (h : c.QueueHeld) : c.endReset.QueueHeld := by
  unfold Ctx.endReset Ctx.readHazards
  extract_lets c1 c2
  have h1 : c1.QueueHeld := ⟨⟨show 1 ≤ 32 by omega, show 0 ≤ 1 by omega, show 0 ≤ 255 by omega⟩, h.plain⟩
  have h2 : c2.QueueHeld := h1.after ⟨setHeads_queueView _ _ _, rfl⟩
  have h3 : (c2.upd State.checkMarker).QueueHeld := h2.after ⟨c2.s.checkMarker_queueView, rfl⟩
  exact h3.after (.foldl _ _ (fun c i => .ite c (.of_fixed (by simp) (by simp)) (.refl c)) _)

theorem Ctx.QueueHeld.mayEndReset {c : Ctx} (h : c.QueueHeld) : c.mayEndReset.QueueHeld := by
  unfold Ctx.mayEndReset
  split
  · exact h.endReset
  · exact h

theorem Ctx.QueueHeld.beginReset {c : Ctx} (h : c.QueueHeld) (cause : ResetCause) : (c.beginReset cause).QueueHeld := by
  refine Ctx.QueueHeld.mayEndReset ⟨⟨?_, ?_, ?_⟩, h.plain⟩
  · exact (show 0 ≤ 32 by omega)
  · exact (show 0 ≤ 1 by omega)
  · exact (show 0 ≤ 255 by omega)

theorem Ctx.QueueHeld.frameEnds {c : Ctx} (h : c.QueueHeld) : c.frameEnds.QueueHeld := by
  unfold Ctx.frameEnds
  split
  · exact h
  · exact h.after ⟨rfl, rfl⟩
  · extract_lets c1
    have h1 : c1.QueueHeld := h.after ⟨rfl, rfl⟩
    split
    · exact h1.beginReset _
    · exact h1

theorem Ctx.QueueHeld.resetAsserted {c : Ctx} (h : c.QueueHeld) : c.resetAsserted.QueueHeld := by
  unfold Ctx.resetAsserted
  split
  · exact h
  · exact (h.after (d := c.upd fun s => { s with pins := { s.pins with reset := true } }) ⟨rfl, rfl⟩).beginReset .pin

theorem Ctx.QueueHeld.resetReleased {c : Ctx} (h : c.QueueHeld) : c.resetReleased.QueueHeld :=
  Ctx.QueueHeld.mayEndReset (h.after ⟨rfl, rfl⟩)

theorem Ctx.QueueHeld.dropRunsOut {c : Ctx} (h : c.QueueHeld) (line : Nat) : (c.dropRunsOut line).QueueHeld := by
  unfold Ctx.dropRunsOut
  split
  · exact h
  dsimp only
  refine Ctx.QueueHeld.mayEndReset (h.after ⟨?_, rfl⟩)
  dsimp only [Ctx.upd]
  split <;> rfl

theorem Ctx.QueueHeld.supplyRises {c : Ctx} (h : c.QueueHeld) : c.supplyRises.QueueHeld := by
  unfold Ctx.supplyRises
  split
  · exact h
  · exact (h.after (d := c.upd fun s => { s with pins := { s.pins with supplyGood := true } }) ⟨rfl, rfl⟩).beginReset .power

theorem State.rebuild_fixed (s : State) : s.rebuild.fixed = s.fixed := by
  unfold State.rebuild
  dsimp only
  split
  · exact s.forgetTickets_fixed
  rw [← s.forgetTickets_fixed]
  generalize s.forgetTickets = s
  generalize s.tickets.table = ts
  induction ts generalizing s with
  | nil => rfl
  | cons t ts ih =>
    rw [List.foldl_cons, ih]
    (repeat' split) <;> simp

/-- START takes the place that was held for it (R18). -/
theorem Ctx.QueueHeld.startingEnds {c : Ctx} (h : c.QueueHeld) : c.startingEnds.QueueHeld := by
  unfold Ctx.startingEnds
  split
  next hstarting =>
    have hr : (c.upd State.rebuild).QueueHeld := h.after (.of_fixed c.s.rebuild_fixed rfl)
    have held : c.s.rebuild.resets.starting = true := by rw [State.resets_of_fixed c.s.rebuild_fixed, hstarting]
    obtain ⟨⟨places, one, lost⟩, plain⟩ := hr
    refine ⟨⟨?_, one, lost⟩, plain⟩
    simp only [Ctx.upd, State.queueUsed, held, if_true] at places
    simpa [Ctx.upd, State.queueUsed] using places
  · exact h

/-! ## The fall of SUPPLY-GOOD -/

theorem Ctx.removeAll_leavesQueue : LeavesQueue c c.removeAll :=
  .foldl c _ (fun c id => .of_fixed (by simp) (by simp)) _

theorem State.freeHeads_fixed (s : State) : s.freeHeads.fixed = s.fixed := by
  unfold State.freeHeads
  induction allHeads generalizing s with
  | nil => rfl
  | cons h hs ih => rw [List.foldl_cons, ih]; simp

theorem Ctx.QueueHeld.supplyFalls {c : Ctx} (h : c.QueueHeld) : c.supplyFalls.QueueHeld := by
  unfold Ctx.supplyFalls
  split
  · exact h
  extract_lets c1 c2
  have h1 : c1.QueueHeld := h.after ⟨rfl, rfl⟩
  have h2 : (c1.removeAll.upd fun s => s.freeHeads.dropAll).QueueHeld :=
    (h1.after c1.removeAll_leavesQueue).after (.of_fixed ((State.dropAll_fixed _).trans (State.freeHeads_fixed _)) (Ctx.upd_plain _ _))
  have h3 : c2.QueueHeld := h2.mayEndReset
  exact h3.after (.settle c2 settleFuel (.refl c2))

/-! ## Every step -/

theorem exec_queueLaw {i : Instr} {s t : State} (law : QueueLaw s) (h : exec i s = .next t) : QueueLaw t := by
  cases hreq : requestOf i with
  | some r =>
    obtain ⟨code, tag, body⟩ := r
    rw [exec_request hreq] at h
    cases h
    exact request_queueLaw code tag body law
  | none =>
    cases i <;> (try (simp [requestOf] at hreq; done))
    case characterReceived => cases h; exact characterReceived_queueLaw _ _ law
    case interByteTimeout => cases h; exact event_queueLaw (fun _ hc => hc.timeout) law
    case frameSent => cases h; exact event_queueLaw (fun _ hc => hc.frameEnds) law
    case timeAdvance => cases h; exact event_queueLaw (fun c hc => hc.after c.secondPasses_leavesQueue) law
    case resetPinAssert => cases h; exact event_queueLaw (fun _ hc => hc.resetAsserted) law
    case resetPinRelease => cases h; exact event_queueLaw (fun _ hc => hc.resetReleased) law
    case resetDropIntervalExpiry line => cases h; exact event_queueLaw (fun _ hc => hc.dropRunsOut line) law
    case startingPhaseEnd => cases h; exact event_queueLaw (fun _ hc => hc.startingEnds) law
    case supplyGoodFall => cases h; exact event_queueLaw (fun _ hc => hc.supplyFalls) law
    case supplyGoodRise => cases h; exact event_queueLaw (fun _ hc => hc.supplyRises) law
    case guardWindowExpiry b => cases h; exact settled_queueLaw (fun c => c.guardWindowEnds_leavesQueue b) law
    case connectIntervalExpiry b => cases h; exact settled_queueLaw (fun c => c.connectRunsOut_leavesQueue b) law
    case restoreIntervalExpiry b => cases h; exact settled_queueLaw (fun c => c.restoreRunsOut_leavesQueue b) law
    case loopSenseChange b p => cases h; exact event_queueLaw (fun c hc => hc.after (c.loopChange_leavesQueue b p)) law
    case debounceTimerExpiry b => cases h; exact settled_queueLaw (fun c => c.debounceEnds_leavesQueue b) law
    case holdLimitExpiry n => cases h; exact settled_queueLaw (fun c => c.holdLimitEnds_leavesQueue n) law
    case hazardInputActive x => cases h; exact settled_queueLaw (fun c => c.inputActive_leavesQueue x) law
    case hazardInputInactive x => cases h; exact event_queueLaw (fun c hc => hc.after (c.inputInactive_leavesQueue x)) law
    case hazardReleaseTimerExpiry x => cases h; exact settled_queueLaw (fun c => c.inputGone_leavesQueue x) law
    case hazardHoldExpiry n => cases h; exact settled_queueLaw (fun c => c.hazardHoldEnds_leavesQueue n) law
    case headPresenceLost h => cases h; exact settled_queueLaw (fun c => c.presenceLost_leavesQueue h) law
    case headPresenceReturn h => cases h; exact event_queueLaw (fun c hc => hc.after (c.presenceReturns_leavesQueue h)) law
    case frameBoundary h => cases h; exact settled_queueLaw (fun c => c.boundary_leavesQueue h) law
    case trigger h => cases h; exact settled_queueLaw (fun c => c.triggerFalls_leavesQueue h) law
    case samplePair h v i => cases h; exact settled_queueLaw (fun c => c.pairArrives_leavesQueue h v i) law
    case paceTimerExpiry => cases h; exact settled_queueLaw (fun c => c.paceEnds_leavesQueue) law

/-- Settles O4: an event leaves the queue alone until its end, where each report joins it or is counted; the resets empty it,
and START takes the place held for it. -/
theorem everyStepKeepsTheQueueLaw : Obligations.EveryStepKeepsTheQueueLaw := by
  intro s t law h
  unfold step at h
  split at h
  next =>
    cases h
    exact law.of_view rfl
  next rest _ => exact exec_queueLaw (s := { s with pending := rest }) (law.of_view rfl) h

end Sys2Proof.Machine
end

section
/-! PROOF. The queue of commands, the reset state's laws, the frame, the tests of R4 to R6, and the link's own requests. -/

namespace Sys2Proof.Machine

/-! ## The queue of commands -/

/-- Settles O1: it is the step's own equation. -/
theorem stepRunsTheFrontCommand : Obligations.StepRunsTheFrontCommand := fun _ _ _ => rfl

/-- Settles O2: on an empty queue the step's other equation holds. -/
theorem idleStepOnlyPassesTime : Obligations.IdleStepOnlyPassesTime := by
  intro s hs
  unfold step
  rw [hs]

/-! ## The state after a power reset -/

theorem jobLaw_of_empty {s : State} (jobs : s.sched.jobs = []) (heads : ∀ h, (s.headRec h).step = none) : JobLaw s where
  places := by simp [jobs]
  distinct := by simp [jobs]
  ids := by simp [jobs]
  ofPosition p := by simp [State.countOf, jobs]
  ofAuto := by simp [State.countOf, jobs]
  ofSweep := by simp [State.countOf, jobs]
  oneRoutine := by simp [jobs]
  oneForALine := by simp [jobs]
  stepsInHand h st hst := by simp [heads h] at hst

theorem ticketLaw_of_empty {s : State} (table : s.tickets.table = []) (next : 1 ≤ s.tickets.next ∧ s.tickets.next ≤ 65535) :
    TicketLaw s where
  places := by simp [table]
  distinct := by simp [table]
  ascending := by simp [table]
  numbers := by simp [table]
  next := next
  oneForALine l := by simp [State.liveLineTickets, table]
  oneForACable l := by simp [State.liveCableTickets, table]
  cableNeverRolled := by simp [table]

/-- Settles O3: the reset state has no job, no ticket and no report, an idle bus everywhere, and every setting at its default. -/
theorem resetMeetsTheLaws : Obligations.ResetMeetsTheLaws := by
  refine ⟨⟨by decide, by decide, by decide⟩, ⟨by decide, by decide⟩, ticketLaw_of_empty rfl (by decide),
    ⟨by decide, by decide⟩, ⟨?_, ?_, ?_⟩, ⟨?_, ?_, ?_, ?_⟩, ?_, .atReset ⟨rfl, rfl, rfl, rfl, rfl, rfl, rfl, rfl, rfl⟩,
    ⟨?_, ?_⟩, jobLaw_of_empty rfl fun _ => rfl⟩
  · intro b h; cases h
  · intro b h; cases h
  · intro b h; exact absurd rfl h
  · intro b line h; cases h
  · intro line h; cases h
  · intro b b' line line' h; cases h
  · intro h; exact absurd rfl h
  · intro h; cases h
  · intro b; exact (by decide : WatchRecord.initial.settings.n ≤ 7)
  · intro j hj; cases hj

/-! ## The frame (R1) -/

theorem foldl_add_byte (bs : List Byte) (a : Byte) : bs.foldl (· + ·) a = a + byteSum bs := by
  unfold byteSum
  induction bs generalizing a with
  | nil => simp
  | cons b bs ih => rw [List.foldl_cons, List.foldl_cons, ih, ih (0#8 + b)]; simp [BitVec.add_assoc]

theorem byteSum_append (as bs : List Byte) : byteSum (as ++ bs) = byteSum as + byteSum bs := by
  rw [byteSum, List.foldl_append, foldl_add_byte]
  rfl

/-- Settles O12: the check is the sum of the bytes before it, negated. -/
theorem everyFrameSumsToZero : Obligations.EveryFrameSumsToZero := by
  intro kind tag body
  refine ⟨-(byteSum ([byteOf (body.length + 2), kind, tag] ++ body)), by simp [frame], ?_⟩
  have hdrop : (frame kind tag body).drop 1 = ([byteOf (body.length + 2), kind, tag] ++ body) ++
      [-(byteSum ([byteOf (body.length + 2), kind, tag] ++ body))] := by simp [frame]
  rw [hdrop, byteSum_append]
  generalize byteSum ([byteOf (body.length + 2), kind, tag] ++ body) = x
  simp [byteSum]

/-! ## The tests of R4 and R5 -/

/-- A frame that meets neither refusal of R4 and R5 comes to the tests of R6, with the receiver in HUNT. -/
theorem frameCompleted_passed {s : State} {tag : Byte} (running : s.resets.active = false) (slot : s.link.slot = none)
    (htag : tag ≠ 0#8) (code : Byte) (k : Ctx → State) :
    frameCompleted code tag k s = k ((Ctx.of s).upd State.hunt) := by
  simp [frameCompleted, running, htag, slot]

/-- The receiver's state before a complete frame does not matter. -/
theorem frameCompleted_received {s : State} (running : s.resets.active = false) (code tag : Byte) (k : Ctx → State) :
    frameCompleted code tag k (s.receive .hunt) = frameCompleted code tag k { s with link := { s.link with rxEnd := s.now } } := by
  unfold frameCompleted
  show (if s.resets.active = true then _ else _) = (if s.resets.active = true then _ else _)
  rw [running]
  rfl

/-- The last character of a frame with a good check completes it. -/
theorem exec_lastCharacter {s : State} {kind tag check : Byte} {body got : List Byte} (running : s.resets.active = false)
    (hgot : got ++ [check] = kind :: tag :: (body ++ [check])) (hrx : s.link.rx = .collect (body.length + 2) got)
    (hsum : byteSum (byteOf (body.length + 2) :: kind :: tag :: (body ++ [check])) = 0#8) :
    exec (.characterReceived check true) s =
      .next (frameCompleted kind tag (serveKind kind tag body) { s with link := { s.link with rxEnd := s.now } }) := by
  show Host.Outcome.next (characterReceived check true s) = _
  have hlen : (got ++ [check]).length = body.length + 3 := by simp [hgot]
  have hnot : ¬(got ++ [check]).length < body.length + 2 + 1 := by omega
  unfold characterReceived
  rw [if_neg (by simp [running]), hrx]
  simp only [if_true, hnot, if_false]
  unfold frameJudged
  rw [hgot]
  simp only [hsum, ne_eq, not_true_eq_false, if_false, List.getD_cons_zero, List.getD_cons_succ, List.drop_succ_cons,
    List.drop_zero, List.dropLast_concat]
  rw [frameCompleted_received running]

/-- Settles O13: the bytes kept spell the request's kind, tag and body. -/
theorem lastCharacterIsTheRequest : Obligations.LastCharacterIsTheRequest := by
  intro s c code tag check body got running hreq hgot hrx hsum
  rw [exec_lastCharacter running hgot hrx hsum, exec_request hreq]

/-! ## A refusal (R6) -/

/-- The end of an event leaves what stands in the reply slot, begun or not. -/
theorem Ctx.finish_slot (c : Ctx) : c.finish.link.slot.map (·.content) = c.s.link.slot.map (·.content) := by
  unfold Ctx.finish
  obtain ⟨q, n, h⟩ := State.raiseAll_spec ((ordered c.out).filterMap (OutItem.report c.s)) c.s
  rw [h]
  unfold State.pump afterLeave
  (repeat' split) <;> simp_all [Option.filter_eq_some_iff]

theorem answers_slot {s : State} (code tag : Byte) (x : ReplyContent) :
    (s.answers code tag x).link.slot.map (·.content) = some x := by
  unfold State.answers Link.replying
  dsimp only
  split <;> rfl

/-- A request is refused by the tests of R6, or its owner's answer is a REJECT or an ACK. -/
theorem serveKind_answers {s : State} (running : s.resets.active = false) (code tag : Byte) (body : List Byte) :
    (∃ r, serveKind code tag body ((Ctx.of s).upd State.hunt) = s.answers code tag (.reject r)) ∨
    ∀ r, (serveKind code tag body ((Ctx.of s).upd State.hunt)).link.slot.map (·.content) ≠ some (.reject r) := by
  have hrefuse (r : Reason) := Ctx.finish_reply_eq_answers running code tag (.reject r)
  unfold serveKind
  split
  next v _ =>
    unfold serve
    dsimp only
    split
    · exact .inl ⟨_, hrefuse _⟩
    split
    · exact .inl ⟨_, hrefuse _⟩
    split
    · exact .inl ⟨_, hrefuse _⟩
    split
    · exact .inl ⟨_, hrefuse _⟩
    · refine .inr fun r => ?_
      rw [Ctx.finish_slot]
      simp [Ctx.upd, State.reply]
  · exact .inl ⟨_, hrefuse _⟩

/-- Settles O14: an owner that rejects has changed nothing, and an owner that has changed something acknowledges. -/
theorem refusedRequestChangesOnlyTheLink : Obligations.RefusedRequestChangesOnlyTheLink := by
  intro s t c code tag body r begun hreq running htag hslot h hrejected
  rw [exec_request hreq, frameCompleted_passed running hslot htag] at h
  cases h
  rcases serveKind_answers running code tag body with ⟨r', hr'⟩ | hack
  · have hx := answers_slot (s := s) code tag (.reject r')
    rw [← hr', hrejected] at hx
    cases hx
    exact hr'
  · exact absurd (by rw [hrejected]; rfl) (hack r)

/-! ## The order of the tests (R4 to R6) -/

/-- One command of each kind code that the part serves. -/
def servedKinds : List Instr :=
  [.echo 0 [], .status 0 [], .timeSet 0 [], .reset 0 [], .dirLoad 0 [], .dirRead 0 [], .profileSet 0 [], .profileRead 0 [],
   .routeSet 0 [], .routeRead 0 [], .intervalSet 0 [], .watchSet 0 [], .watchClear 0 [], .hazardSet 0 [], .hazardClear 0 [],
   .test 0 [], .cut 0 [], .speak 0 [], .hold 0 [], .retest 0 [], .release 0 [], .jobCancel 0 [], .jobRead 0 [],
   .holdLimitSet 0 [], .sweepStart 0 [], .sweepStop 0 [], .sweepDefault 0 [], .sweepSet 0 [], .sweepRead 0 [],
   .headAccept 0 [], .stepSet 0 [], .stepRead 0 [], .lineRead 0 [], .ticketReport 0 [], .ticketDispatch 0 [],
   .ticketClose 0 [], .ticketVerify 0 [], .ticketRead 0 [], .ticketList 0 [], .ticketErase 0 [], .rollupSet 0 []]

theorem serviceOf_listed : ∀ code : Byte, (serviceOf code).isSome = true →
    ∃ c ∈ servedKinds, (requestOf c).map (·.1) = some code := by decide

theorem serviceOf_unknown {kind : Byte} (h : ∀ c t b, requestOf c ≠ some (kind, t, b)) : serviceOf kind = none := by
  by_contra hs
  obtain ⟨c, -, hc⟩ := serviceOf_listed kind (Option.isSome_iff_ne_none.2 hs)
  obtain ⟨⟨code, t, b⟩, hreq, rfl⟩ := Option.map_eq_some_iff.1 hc
  exact h c t b hreq

theorem frameCompleted_noTag {s : State} (running : s.resets.active = false) (code : Byte) (k : Ctx → State) :
    frameCompleted code 0#8 k s = (({ s with port := [] }.hunt).raise (.linkError .tag code 0#8 0)).pump := by
  unfold frameCompleted
  rw [if_neg (by simp [running])]
  exact Ctx.finish_early (c := ((Ctx.of s).upd State.hunt).linkError .tag code 0#8 0) rfl

theorem frameCompleted_overrun {s : State} {tag : Byte} (running : s.resets.active = false) (htag : tag ≠ 0#8)
    (hslot : s.link.slot.isSome) (code : Byte) (k : Ctx → State) :
    frameCompleted code tag k s = (({ s with port := [] }.hunt).raise (.linkError .overrun code tag 0)).pump := by
  unfold frameCompleted
  rw [if_neg (by simp [running])]
  dsimp only
  rw [if_neg htag, if_pos hslot]
  exact Ctx.finish_early (c := ((Ctx.of s).upd State.hunt).linkError .overrun code tag 0) rfl

/-- Settles O15: the tests of `frameCompleted` come first, then those of `serve` in their order; a kind code that no request
has is not served. -/
theorem frameTestsComeInOrder : Obligations.FrameTestsComeInOrder := by
  refine ⟨?served, ?discarded, ?unknown⟩
  case served =>
    intro s c code tag body v hreq hv running htag hslot
    have hrefuse (r : Reason) := Ctx.finish_reply_eq_answers running code tag (.reject r)
    rw [exec_request hreq, frameCompleted_passed running hslot htag]
    simp only [serveKind, hv]
    refine ⟨fun hl => ?_, fun hl hlow => ?_, fun hl hgood hstart => ?_⟩
    · simp only [serve, hl, if_true]; rw [hrefuse]
    · rw [serve_supply hl hlow, hrefuse]
    · rw [serve_starting hl hgood hstart, hrefuse]
  case discarded =>
    intro s c code tag body hreq running
    rw [exec_request hreq]
    refine ⟨fun htag => ?_, fun htag hslot => ?_⟩
    · subst htag
      rw [frameCompleted_noTag running]
    · rw [frameCompleted_overrun running htag hslot]
  case unknown =>
    intro s kind tag check body got hkind running htag hslot hgot hrx hsum
    rw [exec_lastCharacter running hgot hrx hsum, frameCompleted_passed (s := { s with link := { s.link with rxEnd := s.now } })
      running hslot htag]
    simp only [serveKind, serviceOf_unknown hkind]
    rw [Ctx.finish_reply_eq_answers (s := { s with link := { s.link with rxEnd := s.now } }) running]

/-! ## STATUS (R16) -/

theorem allBuses_getElem (b : Bus) : allBuses[b.val]? = some b := by revert b; decide
theorem allHeads_getElem (h : Head) : allHeads[h.val]? = some h := by revert h; decide

/-- Settles O17: the view is read from the state as the request meets it, and only the mark is then changed. -/
theorem statusAnswersAndClearsTheMark : Obligations.StatusAnswersAndClearsTheMark := by
  intro s tag hr
  refine ⟨((Ctx.of s).upd State.hunt).s.statusView, ?_, ?_, rfl, rfl, rfl, rfl, rfl, rfl, rfl, fun b => ?_, fun h => ?_⟩
  · exact congrArg Host.Outcome.next (requestFrame_silent hr 0x11#8 (owner := ownerStatus) (body := []) rfl rfl hr.running)
  · show (s.resets.starting || s.link.queue.any Report.isStart) = _
    rw [hr.started, Bool.false_or]
  · simp only [State.statusView, List.getElem?_map, allBuses_getElem]
    rfl
  · simp only [State.statusView, List.getElem?_map, allHeads_getElem]
    rfl

/-! ## TIME-SET (R14) -/

theorem toNat_append_byte {n : Nat} (x : BitVec n) (b : Byte) : (x ++ b).toNat = x.toNat * 256 + b.toNat := by
  rw [BitVec.toNat_append, ← Nat.shiftLeft_add_eq_or_of_lt b.isLt, Nat.shiftLeft_eq]

theorem long_littleEndian (b0 b1 b2 b3 : Byte) :
    BitVec.ofNat 32 (longAt [b0, b1, b2, b3] 0) = (b3 ++ b2 ++ b1 ++ b0 : BitVec 32) := by
  apply BitVec.eq_of_toNat_eq
  have h0 := b0.isLt
  have h1 := b1.isLt
  have h2 := b2.isLt
  have h3 := b3.isLt
  simp only [toNat_append_byte, BitVec.toNat_ofNat, longAt, wordAt, byteAt_cons_zero, byteAt_cons_succ]
  omega

/-- Settles O18: TIME-SET writes three fields of the link, and the second's event two. -/
theorem timeIsSetAndAdvances : Obligations.TimeIsSetAndAdvances := by
  refine ⟨fun s tag b0 b1 b2 b3 hr => ?set, fun s running => ?advance⟩
  case set =>
    rw [← long_littleEndian]
    exact congrArg Host.Outcome.next
      (requestFrame_silent hr 0x12#8 (owner := ownerTimeSet) (body := [b0, b1, b2, b3]) rfl rfl hr.running)
  case advance =>
    show Host.Outcome.next (event Ctx.secondPasses s) = _
    have hsilent : ((Ctx.of s).secondPasses).out = [] := by simp [Ctx.secondPasses, Ctx.of, running, Ctx.upd]
    rw [event, Ctx.finish_silent hsilent]
    simp [Ctx.secondPasses, Ctx.of, running, Ctx.upd, State.reach]

end Sys2Proof.Machine
end

section
/-! SUPPORT. A served request with its operands laid out: what the link answers, and what the fields of a body read as. -/

namespace Sys2Proof.Machine

section Answers
variable {s : State} {tag : Byte}

/-- The context in which a request's owner acts. -/
def State.served (s : State) : Ctx := (Ctx.of s).upd State.hunt

@[simp] theorem State.served_out : s.served.out = [] := rfl

/-- An owner that raises nothing: the state it leaves is `t` with the receiver in HUNT. -/
theorem requestFrame_acks {t : State} (h : Ready s tag) (code : Byte) {lengthOk : List Byte → Bool}
    {owner : List Byte → Ctx → Served} {body : List Byte} {c : Ctx} {f : State → AckBody} {a : AckBody}
    (hl : lengthOk body = true) (ho : owner body s.served = .done c f) (hs : c.s = ({ t with port := [] } : State).hunt)
    (hout : c.out = []) (ha : f c.s = a) (running : t.resets.active = false) :
    requestFrame code lengthOk owner tag body s = t.acks code tag a := by
  rw [requestFrame_telling (rs := []) h code hl ho hs ha (by rw [hout]; rfl), State.acksTelling_nil running]

/-- An owner that rejects. -/
theorem requestFrame_rejects (h : Ready s tag) (code : Byte) {lengthOk : List Byte → Bool}
    {owner : List Byte → Ctx → Served} {body : List Byte} {r : Reason} (hl : lengthOk body = true)
    (ho : owner body s.served = .rejected r) : requestFrame code lengthOk owner tag body s = s.answers code tag (.reject r) := by
  rw [requestFrame_ready h code hl, show owner body ((Ctx.of s).upd State.hunt) = .rejected r from ho]

end Answers

/-! ## Numbers laid out in a body -/

theorem byteOf_mod (n : Nat) : (byteOf n).toNat = n % 256 := by simp [byteOf]

@[simp] theorem byteAt_byteOf {n : Nat} (h : n ≤ 255) (l : List Byte) : byteAt (byteOf n :: l) 0 = n := byteOf_toNat h

theorem wordAt_cons (b : Byte) (l : List Byte) (i : Nat) : wordAt (b :: l) (i + 1) = wordAt l i := rfl
theorem longAt_cons (b : Byte) (l : List Byte) (i : Nat) : longAt (b :: l) (i + 1) = longAt l i := rfl

theorem byteAt_word (n : Nat) (l : List Byte) (i : Nat) : byteAt (word n ++ l) (i + 2) = byteAt l i := rfl
theorem wordAt_pastWord (n : Nat) (l : List Byte) (i : Nat) : wordAt (word n ++ l) (i + 2) = wordAt l i := rfl

theorem byteAt_pastLong (n : Nat) (l : List Byte) (i : Nat) : byteAt (long n ++ l) (i + 4) = byteAt l i := rfl
theorem wordAt_pastLong (n : Nat) (l : List Byte) (i : Nat) : wordAt (long n ++ l) (i + 4) = wordAt l i := rfl
theorem longAt_pastLong (n : Nat) (l : List Byte) (i : Nat) : longAt (long n ++ l) (i + 4) = longAt l i := rfl

theorem wordAt_word_only {n : Nat} (h : n < 65536) : wordAt (word n) 0 = n := by
  simpa using wordAt_word h []

/-- A four-byte field of a number below 2 ^ 32 reads as that number. -/
theorem longAt_long {n : Nat} (h : n < 2 ^ 32) (l : List Byte) : longAt (long n ++ l) 0 = n := by
  simp only [longAt, wordAt, long, word, List.cons_append, List.nil_append, byteAt_cons_zero, byteAt_cons_succ, byteOf_mod]
  omega

/-! ## An event that comes to rest (log 13) -/

theorem State.dueExit_none {s : State} (h : ∀ b, (s.hazardRec b).exit = none) : s.dueExit? = none := by
  simp [State.dueExit?, State.exitDue, h]

theorem State.nextHandout_none {s : State} (h : ∀ x, (s.headRec x).state ≠ .idle) : s.nextHandout? = none := by
  have hidle : s.idleHead? = none := by simpa [State.idleHead?] using fun x _ => h x
  simp [State.nextHandout?, hidle]

/-- Where no exit and no head is due, a walk finds no action and an attempt may not be made, nothing follows. -/
theorem Ctx.settle_restFrom {c : Ctx} (n : Nat) (exit : c.s.dueExit? = none) (head : c.s.nextHandout? = none)
    (walk : c.walkDue = true → c.walkList c.s.queue = none) (issue : c.issueDue = true → c.s.mayIssue = false) :
    c.settle (n + 2) = { c with walkDue := false, issueDue := false } := by
  obtain ⟨s, out, w, i⟩ := c
  have rest (n : Nat) : Ctx.settle n ⟨s, out, false, false⟩ = ⟨s, out, false, false⟩ :=
    Ctx.settle_of_none (by simp_all [Ctx.settleStep]) n
  have attempt (n : Nat) : Ctx.settle (n + 1) ⟨s, out, false, i⟩ = ⟨s, out, false, false⟩ := by
    cases i with
    | false => exact rest _
    | true =>
      rw [Ctx.settle_of_some (c' := ⟨s, out, false, false⟩) (by simp_all [Ctx.settleStep, Ctx.issueAttempt]), rest]
  cases w with
  | false => exact attempt _
  | true => rw [Ctx.settle_of_some (c' := ⟨s, out, false, i⟩) (by simp_all [Ctx.settleStep]), attempt]

theorem Ctx.settle_rest {c : Ctx} (exit : c.s.dueExit? = none) (head : c.s.nextHandout? = none)
    (walk : c.walkDue = true → c.walkList c.s.queue = none) (issue : c.issueDue = true → c.s.mayIssue = false) :
    c.settle settleFuel = { c with walkDue := false, issueDue := false } := Ctx.settle_restFrom 398 exit head walk issue

theorem State.mayIssue_stopped {s : State} (h : s.sweep.state ≠ .running) : s.mayIssue = false := by
  simp [State.mayIssue, h]

theorem State.mayIssue_full {s : State} (h : s.sweep.concurrency ≤ s.countOf .sweep) : s.mayIssue = false := by
  simp [State.mayIssue, Nat.not_lt.2 h]

/-- The end of a settled event keeps what the event has done. -/
theorem Ctx.settle_calm_rest {c : Ctx} (h : Calm c.s) (walk : c.walkDue = true → c.walkList c.s.queue = none)
    (issue : c.issueDue = true → c.s.mayIssue = false) :
    c.settle settleFuel = { c with walkDue := false, issueDue := false } :=
  Ctx.settle_rest h.dueExit h.nextHandout walk issue

end Sys2Proof.Machine
end

section
/-! PROOF. The Configuration Store's requests but ROUTE-SET, and the requests that change one setting. -/

namespace Sys2Proof.Machine

/-! ## DIR-LOAD (R24) -/

/-- The bytes of directory entries (R24). -/
def entryBytes (es : List (Byte × Byte × Bool)) : List Byte := (es.map fun e => [e.1, e.2.1, flag e.2.2]).flatten

/-- The entry that three bytes load. -/
def loadedEntry (e : Byte × Byte × Bool) : DirEntry := ⟨min 15 e.1.toNat, e.2.1.toNat, e.2.2⟩

theorem readEntries_bytes (es : List (Byte × Byte × Bool)) : readEntries (entryBytes es) = some (es.map loadedEntry) := by
  induction es with
  | nil => rfl
  | cons e es ih =>
    have hcons : entryBytes (e :: es) = e.1 :: e.2.1 :: flag e.2.2 :: entryBytes es := rfl
    rw [hcons, readEntries, flag_yesNo, ih]
    rfl

theorem entryBytes_length (es : List (Byte × Byte × Bool)) : (entryBytes es).length = 3 * es.length := by
  induction es with
  | nil => rfl
  | cons e es ih =>
    have hcons : entryBytes (e :: es) = e.1 :: e.2.1 :: flag e.2.2 :: entryBytes es := rfl
    simp only [hcons, List.length_cons, ih]
    omega

/-- Writing entries changes the directory and nothing else, each line from the first upward. -/
theorem State.writeEntries_spec (es : List DirEntry) (s : State) (line : Nat) :
    (∃ d, s.writeEntries line es = { s with store := { s.store with directory := d } }) ∧
    (∀ (i : Nat) (e : DirEntry), es[i]? = some e → (s.writeEntries line es).dirEntry (line + i) = e) ∧
    (∀ l, l < line ∨ line + es.length ≤ l → (s.writeEntries line es).dirEntry l = s.dirEntry l) := by
  induction es generalizing s line with
  | nil => exact ⟨⟨s.store.directory, rfl⟩, fun i e h => (by cases h), fun l _ => rfl⟩
  | cons x es ih =>
    obtain ⟨⟨d, hd⟩, hin, hout⟩ := ih (s.setDirEntry line x) (line + 1)
    refine ⟨⟨d, by rw [State.writeEntries, hd]; rfl⟩, fun i e h => ?_, fun l hl => ?_⟩
    · cases i with
      | zero =>
        cases h
        rw [State.writeEntries, hout _ (.inl (by omega)), State.setDirEntry_dirEntry]
        simp
      | succ i =>
        rw [State.writeEntries, show line + (i + 1) = line + 1 + i by omega]
        exact hin i e h
    · rw [List.length_cons] at hl
      rw [State.writeEntries, hout l (by omega), State.setDirEntry_dirEntry, if_neg (by omega)]

/-- Settles O20: the entries read back as they are laid out, and writing them changes the directory alone. -/
theorem dirLoadWritesItsEntries : Obligations.DirLoadWritesItsEntries := by
  intro s tag first es hr h1 h16 hfit
  obtain ⟨⟨d, hd⟩, hin, hout⟩ := s.served.s.writeEntries_spec (es.map loadedEntry) first
  have howner : ownerDirLoad (word first ++ entryBytes es) s.served =
      .done (s.served.upd fun s => s.writeEntries first (es.map loadedEntry)) fun _ => .directory first (es.map loadedEntry) := by
    have hread : readEntries ((word first ++ entryBytes es).drop 2) = some (es.map loadedEntry) := readEntries_bytes es
    unfold ownerDirLoad
    simp only [wordAt_word (show first < 65536 by omega), hread, List.length_map]
    rw [if_neg (by omega), if_neg (by omega)]
  have hlen : lengthDirLoad (word first ++ entryBytes es) = true := by
    have hl : (word first ++ entryBytes es).length = 2 + 3 * es.length := by
      rw [List.length_append, entryBytes_length]; rfl
    simp only [lengthDirLoad, hl, Bool.and_eq_true, decide_eq_true_eq, beq_iff_eq]
    omega
  have hs : (s.served.upd fun s => s.writeEntries first (es.map loadedEntry)).s =
      ({ ({ s with store := { s.store with directory := d } } : State) with port := [] } : State).hunt := hd
  have hdir : ∀ l, ({ s with store := { s.store with directory := d } } : State).dirEntry l =
      (s.served.s.writeEntries first (es.map loadedEntry)).dirEntry l := fun l => by rw [hd]; rfl
  refine ⟨_, congrArg Host.Outcome.next (requestFrame_acks hr 0x18#8 hlen howner hs rfl rfl hr.running), ?_, ?_, rfl, rfl, rfl⟩
  · intro i e he
    exact (hdir _).trans (hin i (loadedEntry e) (by rw [List.getElem?_map, he]; rfl))
  · intro l hl
    exact (hdir l).trans (hout l (by rwa [List.length_map]))

/-! ## PROFILE-SET (R28) -/

/-- The body of a PROFILE-SET (R20). -/
def profileBody (cls : Byte) (fvd fvl acl sho irf irm cap : Nat) (ckm hys mar : Byte) : List Byte :=
  cls :: (long fvd ++ long fvl ++ long acl ++ long sho ++ long irf ++ long irm ++ word cap ++ [ckm, hys, mar])

theorem candidateProfile_body {fvd fvl acl sho irf irm cap : Nat} (cls ckm hys mar : Byte)
    (h1 : fvd < 2 ^ 32) (h2 : fvl < 2 ^ 32) (h3 : acl < 2 ^ 32) (h4 : sho < 2 ^ 32) (h5 : irf < 2 ^ 32) (h6 : irm < 2 ^ 32)
    (h7 : cap < 65536) :
    candidateProfile (profileBody cls fvd fvl acl sho irf irm cap ckm hys mar) =
      { fvDanger := max 1000 (min 150000 fvd), fvLimit := max 500 (min 150000 fvl), acLimit := max 500 (min 150000 acl)
        shOhm := max 100 (min 100000 sho), irFail := max 1000 (min 10000000 irf)
        irMarg := max 10000 (min 50000000 irm), capMin := cap, capPerKm := max 20 (min 120 ckm.toNat)
        hyst := min 50 hys.toNat, marginalLimit := max 1 (min 7 mar.toNat) } := by
  simp only [candidateProfile, profileBody, longAt_cons, wordAt_cons, byteAt_cons_succ, List.append_assoc, longAt_pastLong,
    wordAt_pastLong, byteAt_pastLong, longAt_long h1, longAt_long h2, longAt_long h3, longAt_long h4, longAt_long h5,
    longAt_long h6, wordAt_word h7, byteAt_word, byteAt_cons_zero, clamp, Nat.zero_max, Profile.mk.injEq, true_and, and_true]
  omega

theorem Profile.ordered_iff (p : Profile) :
    p.ordered = true ↔ p.shOhm < p.irFail ∧ p.irFail < p.irMarg ∧ p.fvLimit ≤ p.fvDanger := by
  simp [Profile.ordered, and_assoc]

/-- Settles O21: the body reads as the clamped profile, and the owner tests its class and then its order. -/
theorem profileSetClampsThenChecksTheOrder : Obligations.ProfileSetClampsThenChecksTheOrder := by
  intro s tag cls fvd fvl acl sho irf irm cap ckm hys mar p hr h1 h2 h3 h4 h5 h6 h7 hp
  have hcandidate := candidateProfile_body cls ckm hys mar h1 h2 h3 h4 h5 h6 h7
  rw [← hp] at hcandidate
  have hcls : byteAt (profileBody cls fvd fvl acl sho irf irm cap ckm hys mar) 0 = cls.toNat := rfl
  have hzero : cls = 0#8 ↔ cls.toNat = 0 := by simp [← BitVec.toNat_inj]
  have howner : ownerProfileSet (profileBody cls fvd fvl acl sho irf irm cap ckm hys mar) s.served =
      if cls.toNat = 0 ∨ 15 < cls.toNat then .rejected .badValue
      else if p.ordered then .done (s.served.upd fun s => s.setProfile cls.toNat p) fun _ => .profile cls.toNat p
      else .rejected .profileOrder := by
    rw [ownerProfileSet, hcandidate, hcls]
  refine ⟨fun hbad => ?_, fun hlow hhigh ho1 ho2 ho3 => ?_, fun hlow hhigh horder => ?_⟩ <;>
    refine congrArg Host.Outcome.next ?_
  · rw [if_pos (by rwa [hzero] at hbad)] at howner
    exact requestFrame_rejects hr 0x1A#8 rfl howner
  · rw [if_neg (by omega), if_pos (p.ordered_iff.2 ⟨ho1, ho2, ho3⟩)] at howner
    exact requestFrame_acks hr 0x1A#8 rfl howner rfl rfl rfl hr.running
  · rw [if_neg (by omega), if_neg (by rwa [p.ordered_iff])] at howner
    exact requestFrame_rejects hr 0x1A#8 rfl howner

/-! ## One setting (R34, R110, R140, R184) -/

theorem ownerIntervalSet_body (n : IntervalName) (c : Byte) (u : IntervalUnit) (k : Ctx) :
    ownerIntervalSet [n.code, c, u.code] k =
      .done (k.upd fun s => match n with
        | .a => { s with store := { s.store with intervalA := ⟨max 1 (min 63 c.toNat), u⟩ } }
        | .b => { s with store := { s.store with intervalB := ⟨max 1 (min 63 c.toNat), u⟩ } })
        fun _ => .interval n ⟨max 1 (min 63 c.toNat), u⟩ := by
  cases n <;> cases u <;> rfl

theorem StepTable.put_entry (t : StepTable) (e : StepEntry) (k j : StepKind) :
    (t.put e k).entry j = if j = k then e else t.entry j := by
  cases k <;> cases j <;> rfl

/-- The entry of a step kind, its fields clamped (R140). -/
def clampedEntry (k : StepKind) (period phase : Nat) (post disc samples level : Byte) (r : MeasureRange) : StepEntry :=
  { period := max 8 (min 8000 period), phase := min (max 8 (min 8000 period) - 1) phase, post := max 1 (min 16 post.toNat)
    discard := min 15 disc.toNat, samples := max (if k = .cap then 2 else 1) (min 64 samples.toNat)
    level := if k = .fv then none else some (min 3 level.toNat), startRange := if k = .fv ∨ k = .cap then .lo else r }

theorem stepTaken_body (k : StepKind) {period phase : Nat} (post disc samples level : Byte) (r : MeasureRange)
    (hperiod : period < 65536) (hphase : phase < 65536) :
    stepTaken k (k.code :: (word period ++ word phase ++ [post, disc, samples, level, r.code])) =
      some (clampedEntry k period phase post disc samples level r) := by
  cases k <;>
    simp [stepTaken, clampedEntry, wordAt_cons, wordAt_pastWord, byteAt_word, wordAt_word hperiod, wordAt_word hphase,
      rangeOf_code, clamp]

theorem orZero_byte (old lo hi : Nat) (n : Byte) : orZero old lo hi n.toNat = if n = 0#8 then old else max lo (min hi n.toNat) := by
  unfold orZero clamp
  by_cases h : n = 0#8
  · simp [h]
  · have hn : n.toNat ≠ 0 := fun h' => h (BitVec.eq_of_toNat_eq h')
    rw [if_neg h, if_neg hn]

theorem byte_pos {n : Byte} (h : n ≠ 0#8) : 1 ≤ n.toNat :=
  Nat.one_le_iff_ne_zero.2 fun h' => h (BitVec.eq_of_toNat_eq h')

theorem orZero_fullByte (old : Nat) (n : Byte) : orZero old 1 255 n.toNat = if n = 0#8 then old else n.toNat := by
  have hn := n.isLt
  rw [orZero_byte]
  split
  · rfl
  next h =>
    have := byte_pos h
    omega

/-- Settles O24: each owner reads its operands clamped and writes one setting. -/
theorem settingsTakeClampedValues : Obligations.SettingsTakeClampedValues := by
  intro s tag hr
  refine ⟨?intervals, ?holdLimit, ?step, ?rollup⟩
  case intervals =>
    intro c u i hi
    subst hi
    exact ⟨congrArg Host.Outcome.next
        (requestFrame_acks hr 0x1E#8 rfl (ownerIntervalSet_body .a c u s.served) rfl rfl rfl hr.running),
      congrArg Host.Outcome.next
        (requestFrame_acks hr 0x1E#8 rfl (ownerIntervalSet_body .b c u s.served) rfl rfl rfl hr.running)⟩
  case holdLimit =>
    intro p m h1 h4
    have howner : ownerHoldLimitSet [byteOf p, m] s.served =
        .done (s.served.upd fun s => { s with sched := { s.sched with
          holdLimits := Table.set 10 s.sched.holdLimits p (max 1 (min 60 m.toNat)) } })
          fun _ => .holdLimit p (max 1 (min 60 m.toNat)) := by
      simp only [ownerHoldLimitSet, byteAt_byteOf (show p ≤ 255 by omega), byteAt_cons_succ, byteAt_cons_zero, clamp]
      rw [if_neg (by omega)]
    refine ⟨_, congrArg Host.Outcome.next (requestFrame_acks (t := { s with sched := { s.sched with
      holdLimits := Table.set 10 s.sched.holdLimits p (max 1 (min 60 m.toNat)) } }) hr 0x30#8 rfl howner rfl rfl rfl hr.running),
      ?_, fun q hq => ?_, rfl, rfl, rfl⟩
    · exact Table.get_set_same ..
    · exact Table.get_set_other _ _ _ hq
  case step =>
    intro k period phase post disc samples level r e hperiod hphase h1 h2 h3 h4 h5 h6 h7
    have he : e = clampedEntry k period phase post disc samples level r := by
      cases e
      simp only at h1 h2 h3 h4 h5 h6 h7
      subst h1
      simp [clampedEntry, h2, h3, h4, h5, h6, h7]
    subst he
    have howner : ownerStepSet (k.code :: (word period ++ word phase ++ [post, disc, samples, level, r.code])) s.served =
        .done (s.served.upd fun s => { s with engine := { s.engine with
          steps := s.engine.steps.put (clampedEntry k period phase post disc samples level r) k } })
          fun _ => .stepEntry k (clampedEntry k period phase post disc samples level r) := by
      simp only [ownerStepSet, byteAt_cons_zero, stepKindOf_code, stepTaken_body k post disc samples level r hperiod hphase]
    refine ⟨_, congrArg Host.Outcome.next (requestFrame_acks (t := { s with engine := { s.engine with
      steps := s.engine.steps.put (clampedEntry k period phase post disc samples level r) k } }) hr 0x3D#8 rfl howner rfl rfl rfl
      hr.running), ?_, fun j hj => ?_, rfl, rfl, rfl⟩
    · exact (StepTable.put_entry ..).trans (if_pos rfl)
    · exact (StepTable.put_entry ..).trans (if_neg hj)
  case rollup =>
    intro n w x n' w' x' hn hw hx
    subst hn hw hx
    rw [← orZero_byte, ← orZero_fullByte, ← orZero_fullByte]
    exact congrArg Host.Outcome.next (requestFrame_acks hr 0x4B#8 (owner := ownerRollupSet) (body := [n, w, x]) rfl rfl rfl rfl
      rfl hr.running)

end Sys2Proof.Machine
end

section
/-! PROOF. The requests that read, and those about one job, one ticket or the sweep that nothing follows. -/

namespace Sys2Proof.Machine

/-! ## The reads (R25, R29, R33, R132, R140, R162, R182) -/

theorem State.readDirectory_eq (s : State) (n line : Nat) :
    s.readDirectory line n = (List.range n).map fun i => s.dirEntry (line + i) := by
  induction n generalizing line with
  | zero => rfl
  | succ n ih =>
    rw [State.readDirectory, ih, List.range_succ_eq_map, List.map_cons, List.map_map]
    congr 2
    funext i
    simp only [Function.comp]
    congr 1
    omega

/-- A read's owner leaves the context as it finds it. -/
theorem requestFrame_reads {s : State} {tag : Byte} (h : Ready s tag) (code : Byte) {lengthOk : List Byte → Bool}
    {owner : List Byte → Ctx → Served} {body : List Byte} {f : State → AckBody} (hl : lengthOk body = true)
    (ho : owner body s.served = .done s.served f) :
    requestFrame code lengthOk owner tag body s = s.acks code tag (f s.served.s) :=
  requestFrame_acks h code hl ho rfl rfl rfl h.running

theorem ceilDiv_unique {d x n : Nat} (hd : 0 < d) (hlow : x ≤ d * n) (hhigh : d * n < x + d) : (x + (d - 1)) / d = n := by
  rw [Nat.div_eq_iff hd]
  constructor
  · rw [Nat.mul_comm]; omega
  · rw [Nat.mul_comm]; omega

/-- The seconds until a revisit entry's not-before moment, rounded up (log 34). -/
theorem revisitView_unique {now : Moment} {es : List RevisitEntry} {vs : List RevisitView} (hlen : vs.length = es.length)
    (h : ∀ (i : Nat) (e : RevisitEntry) (v : RevisitView), es[i]? = some e → vs[i]? = some v →
      v.line = e.line ∧ v.reason = e.reason ∧ v.attempts = e.attempts ∧
      e.notBefore - now ≤ 8000 * v.seconds ∧ 8000 * v.seconds < e.notBefore - now + 8000) :
    (es.map fun e : RevisitEntry => (⟨e.line, e.reason, e.attempts,
      (e.notBefore - now + (Config.second - 1)) / Config.second⟩ : RevisitView)) = vs := by
  refine List.ext_getElem (by simp [hlen]) fun i h1 h2 => ?_
  rw [List.length_map] at h1
  obtain ⟨hline, hreason, hattempts, hlow, hhigh⟩ :=
    h i es[i] vs[i] (List.getElem?_eq_getElem h1) (List.getElem?_eq_getElem h2)
  have hseconds : (es[i].notBefore - now + (Config.second - 1)) / Config.second = vs[i].seconds :=
    ceilDiv_unique (d := 8000) (by omega) hlow hhigh
  rw [List.getElem_map, hseconds, ← hline, ← hreason, ← hattempts]

theorem paceView_unique {now : Moment} {timer : PaceTimer} {left : PaceView} (hnone : timer = .none → left = .none)
    (hexpired : timer = .expired → left = .expired)
    (hrunning : ∀ m, timer = .running m → ∃ n, left = .running n ∧ m - now ≤ 800 * n ∧ 800 * n < m - now + 800) :
    paceView now timer = left := by
  cases timer with
  | none => exact (hnone rfl).symm
  | expired => exact (hexpired rfl).symm
  | running m =>
    obtain ⟨n, hleft, hlow, hhigh⟩ := hrunning m rfl
    rw [hleft]
    exact congrArg PaceView.running (ceilDiv_unique (d := 800) (by omega) hlow hhigh)

/-- Settles O23: each owner reads from the state as it stands and leaves it alone. -/
theorem readsAnswerAndChangeNothing : Obligations.ReadsAnswerAndChangeNothing := by
  intro s tag hr
  refine ⟨?directory, ?profile, ?route, ?step, ?line, ?sweep, ?ticket, ?list⟩
  case directory =>
    intro l n c hn hfit
    have howner : ownerDirRead (word l ++ [c]) s.served =
        .done s.served fun s => .directory l ((List.range n).map fun i => s.dirEntry (l + i)) := by
      simp only [ownerDirRead, wordAt_word (show l < 65536 by omega), byteAt_word, byteAt_cons_zero, clamp, ← hn,
        State.readDirectory_eq]
      rw [if_neg (by omega), if_neg (by omega)]
    exact congrArg Host.Outcome.next (requestFrame_reads hr 0x19#8 rfl howner)
  case profile =>
    intro k h1 h15
    have howner : ownerProfileRead [byteOf k] s.served = .done s.served fun s => .profile k (s.profile k) := by
      simp only [ownerProfileRead, byteAt_byteOf (show k ≤ 255 by omega)]
      rw [if_neg (by omega)]
    exact congrArg Host.Outcome.next (requestFrame_reads hr 0x1B#8 rfl howner)
  case route =>
    intro g h63
    have howner : ownerRouteRead [byteOf g] s.served =
        .done s.served fun s => .route g (s.route g) s.store.intervalA s.store.intervalB (s.holdingBus g) := by
      simp only [ownerRouteRead, byteAt_byteOf (show g ≤ 255 by omega)]
      rw [if_neg (by omega)]
    exact congrArg Host.Outcome.next (requestFrame_reads hr 0x1D#8 rfl howner)
  case step =>
    intro k
    have howner : ownerStepRead [k.code] s.served = .done s.served fun s => .stepEntry k (s.engine.steps.entry k) := by
      simp only [ownerStepRead, byteAt_cons_zero, stepKindOf_code]
    exact congrArg Host.Outcome.next (requestFrame_reads hr 0x3E#8 rfl howner)
  case line =>
    intro l hl
    have howner : ownerLineRead (word l) s.served = .done s.served fun s => .line l (s.lineStatus l) := by
      simp only [ownerLineRead, wordAt_word_only (show l < 65536 by omega)]
      rw [if_neg (by omega)]
    exact congrArg Host.Outcome.next (requestFrame_reads hr 0x40#8 rfl howner)
  case sweep =>
    intro left jobs entries hnone hexpired hrunning hjobs hlen hentries
    subst hjobs
    rw [← paceView_unique hnone hexpired hrunning, ← revisitView_unique hlen hentries]
    exact congrArg Host.Outcome.next (requestFrame_reads hr 0x38#8 (owner := ownerSweepRead) (body := []) rfl rfl)
  case ticket =>
    intro n x h1 h2 hx
    have howner : ownerTicketRead (word n) s.served = .done s.served fun _ => .ticket x := by
      have hnamed : s.served.s.namedTicket (wordAt (word n) 0) = .ok x := State.namedTicket_word h1 h2 hx
      simp only [ownerTicketRead, hnamed]
    exact congrArg Host.Outcome.next (requestFrame_reads hr 0x48#8 rfl howner)
  case list =>
    intro f p m ns hf hm hns
    have hfilter : matchesFilter f = m := by
      funext x
      rw [hm]
      rfl
    have howner : ownerTicketList [byteOf f, p] s.served = .done s.served fun s =>
        .ticketList f (min 3 p.toNat) ((s.tickets.table.filter m).map Ticket.number).length
          ((((s.tickets.table.filter m).map Ticket.number).drop (32 * min 3 p.toNat)).take 32) := by
      simp only [ownerTicketList, byteAt_byteOf (show f ≤ 255 by omega), byteAt_cons_succ, byteAt_cons_zero, hfilter]
      rw [if_neg (by omega)]
    subst hns
    exact congrArg Host.Outcome.next (requestFrame_reads hr 0x49#8 rfl howner)

/-! ## JOB-READ, SPEAK and HOLD (R49, R106, R109, R110) -/

/-- The job that an id names alone changes as it does. -/
theorem State.updJob_only {s : State} {id : Nat} {j : Job} (hone : ∀ k ∈ s.sched.jobs, k.id = id → k = j) (f : Job → Job) :
    s.updJob id f = s.updJob id fun _ => f j := by
  unfold State.updJob
  refine congrArg s.setJobs (List.map_congr_left fun k hk => ?_)
  by_cases h : k.id = id
  · rw [if_pos h, if_pos h, hone k hk h]
  · rw [if_neg h, if_neg h]

/-- The job that an id names, after a change that keeps the id. -/
theorem State.job?_updJob {s : State} {id : Nat} {f : Job → Job} (hf : ∀ k, k.id = id → (f k).id = id) :
    (s.updJob id f).job? id = (s.job? id).map f := by
  unfold State.job? State.updJob State.setJobs
  dsimp only
  induction s.sched.jobs with
  | nil => rfl
  | cons k ks ih =>
    by_cases h : k.id = id
    · simp [h, hf k h]
    · simp [h, ih]

/-- The job that an id names alone is left as it is. -/
theorem State.updJob_self {s : State} {id : Nat} {j : Job} (hone : ∀ k ∈ s.sched.jobs, k.id = id → k = j) :
    (s.updJob id fun _ => j) = s := by
  unfold State.updJob State.setJobs
  have hmap : s.sched.jobs.map (fun k => if k.id = id then j else k) = s.sched.jobs := by
    refine (List.map_congr_left fun k hk => ?_).trans (List.map_id _)
    by_cases h : k.id = id
    · rw [if_pos h, hone k hk h]; rfl
    · rw [if_neg h]; rfl
  rw [hmap]

theorem State.restartHold_other {s : State} {id : Nat} {j : Job} (hone : ∀ k ∈ s.sched.jobs, k.id = id → k = j)
    (hheld : j.state ≠ .held) (hmonitoring : j.state ≠ .monitoring) : s.restartHold id = s := by
  unfold State.restartHold
  rw [State.updJob_only hone]
  simp only [hheld, hmonitoring, or_self, if_false]
  exact State.updJob_self hone

theorem State.restartHold_desk {s : State} {id p : Nat} {j : Job} (hone : ∀ k ∈ s.sched.jobs, k.id = id → k = j)
    (hstate : j.state = .held ∨ j.state = .monitoring) (hp : j.source = .desk p) :
    s.restartHold id = s.updJob id fun _ => { j with holdLimit := some (s.now + s.holdLimitOf p * 480000) } := by
  unfold State.restartHold
  rw [State.updJob_only hone]
  simp only [hstate, if_true, State.holdDeadline, hp]
  rfl

/-- Settles O33: the owner restarts the hold limit and reads the record it leaves. -/
theorem jobReadAnswersTheRecord : Obligations.JobReadAnswersTheRecord := by
  intro s tag id j hr h1 h255 hj hone
  obtain rfl : j.id = id := State.job?_id hj
  have hnamed : s.served.s.namedJob (byteAt [byteOf j.id] 0) = .ok j := State.namedJob_byte h1 h255 hj
  have howner : ownerJobRead [byteOf j.id] s.served = .done (s.served.upd fun s => s.restartHold j.id) (jobReadAck j) := by
    simp only [ownerJobRead, hnamed]
  refine ⟨fun hheld hmonitoring => ?_, fun p j' hj' hp hstate => ?_⟩ <;> refine congrArg Host.Outcome.next ?_
  · have hsame : s.served.s.restartHold j.id = s.served.s := State.restartHold_other hone hheld hmonitoring
    refine requestFrame_acks hr 0x2F#8 rfl howner hsame rfl ?_ hr.running
    rw [show (s.served.upd fun s => s.restartHold j.id).s = s.served.s from hsame, jobReadAck,
      show s.served.s.job? j.id = some j from hj]
    rfl
  · have hleft : s.served.s.restartHold j.id = s.served.s.updJob j.id fun _ => j' := by
      rw [hj']
      exact State.restartHold_desk hone hstate hp
    have hid : j'.id = j.id := by rw [hj']
    have hbus : j'.bus = j.bus := by rw [hj']
    have hfound : (s.served.s.updJob j.id fun _ => j').job? j.id = some j' := by
      rw [State.job?_updJob fun _ _ => hid, show s.served.s.job? j.id = some j from hj]
      rfl
    refine requestFrame_acks hr 0x2F#8 rfl howner hleft rfl ?_ hr.running
    rw [show (s.served.upd fun s => s.restartHold j.id).s = _ from hleft, jobReadAck, hfound, Option.getD_some, hbus]
    rfl

theorem State.restartHold_busRec (s : State) (id : Nat) (b : Bus) : (s.restartHold id).busRec b = s.busRec b := rfl

/-- The owner of a SPEAK that attaches speech. -/
theorem ownerSpeak_attaches {s : State} {p : Nat} {j : Job} {b : Bus} {sp : Speech} (h1 : 1 ≤ j.id) (h255 : j.id ≤ 255)
    (hj : s.job? j.id = some j) (hp : j.source = .desk p) (hb : j.bus = some b) (hspeech : (s.busRec b).speech = none)
    (hfor : speechFor p j.state = some sp) (hok : s.attachSpeechOk b sp = true) (helse : s.speechElsewhere b p = false) :
    ownerSpeak [byteOf j.id] s.served =
      .done (s.served.upd fun s => (s.attachSpeech b sp).restartHold j.id) (speechAck j.id b) := by
  have hnamed : s.served.s.namedJob (byteAt [byteOf j.id] 0) = .ok j := State.namedJob_byte h1 h255 hj
  have hspeech' : (s.served.s.busRec b).speech = none := hspeech
  have hok' : s.served.s.attachSpeechOk b sp = true := hok
  have helse' : s.served.s.speechElsewhere b p = false := helse
  rw [ownerSpeak, hnamed]
  simp [hp, hb, hfor, hspeech', hok', helse']

theorem State.speechElsewhere_false {s : State} {b : Bus} {p : Nat}
    (h : ∀ b', b' ≠ b → ∀ sp, (s.busRec b').speech = some sp → sp.position ≠ p) : s.speechElsewhere b p = false := by
  unfold State.speechElsewhere
  rw [List.any_eq_false]
  intro b' _
  by_cases hb : b' = b
  · simp [hb]
  · cases hsp : (s.busRec b').speech with
    | none => simp
    | some sp => simpa [hb] using h b' hb sp hsp

/-- Settles O30: the owners attach and detach speech by the record and restart the hold limit. -/
theorem speakAttachesAndHoldDetaches : Obligations.SpeakAttachesAndHoldDetaches := by
  intro s tag id p j b m hr h1 h255 hj hone hp hb hm
  obtain rfl : j.id = id := State.job?_id hj
  subst hm
  refine ⟨fun helse hspeech => ⟨fun hstate haccess hfunc => ?talk, fun hstate haccess => ?listen⟩, fun hstate hspeech => ?hold⟩
    <;> refine congrArg Host.Outcome.next ?_
  case talk =>
    have hok : s.attachSpeechOk b ⟨p, .talk⟩ = true := by simp [State.attachSpeechOk, hspeech, haccess, hfunc]
    have hleft := State.restartHold_desk (s := s.served.s.attachSpeech b ⟨p, .talk⟩) hone (.inl hstate) hp
    refine requestFrame_acks hr 0x2A#8 rfl (ownerSpeak_attaches h1 h255 hj hp hb hspeech (by rw [hstate]; rfl) hok
      (State.speechElsewhere_false helse)) hleft rfl ?_ hr.running
    simp [Ctx.upd, speechAck, State.restartHold_busRec, State.attachSpeech]
  case listen =>
    have hok : s.attachSpeechOk b ⟨p, .listen⟩ = true := by simp [State.attachSpeechOk, hspeech, haccess]
    have hleft := State.restartHold_desk (s := s.served.s.attachSpeech b ⟨p, .listen⟩) hone (.inr hstate) hp
    refine requestFrame_acks hr 0x2A#8 rfl (ownerSpeak_attaches h1 h255 hj hp hb hspeech (by rw [hstate]; rfl) hok
      (State.speechElsewhere_false helse)) hleft rfl ?_ hr.running
    simp [Ctx.upd, speechAck, State.restartHold_busRec, State.attachSpeech]
  case hold =>
    have hspeech' : (s.served.s.busRec b).speech.isSome = true := hspeech
    have hdetach : s.served.s.detachSpeech b = (s.served.s.setSpeechSel b none).setBusRec b { s.busRec b with
        speech := none, func := if (s.busRec b).func = .speak then .hold else (s.busRec b).func } := by
      unfold State.detachSpeech
      exact if_pos hspeech'
    have howner : ownerHold [byteOf j.id] s.served =
        .done (s.served.upd fun s => (s.detachSpeech b).restartHold j.id) (speechAck j.id b) := by
      have hnamed : s.served.s.namedJob (byteAt [byteOf j.id] 0) = .ok j := State.namedJob_byte h1 h255 hj
      rw [ownerHold, hnamed]
      simp [hb, hstate, hspeech']
    have hleft := State.restartHold_desk (s := s.served.s.detachSpeech b) (p := p) (j := j) (id := j.id)
      (by rw [hdetach]; exact hone) hstate hp
    rw [hdetach] at hleft
    refine requestFrame_acks hr 0x2B#8 rfl howner (by rw [← hdetach] at hleft; exact (hleft.trans (by rw [hdetach]; rfl))) rfl ?_
      hr.running
    simp [Ctx.upd, hdetach, speechAck, State.restartHold_busRec]

/-! ## TICKET-DISPATCH, TICKET-VERIFY and TICKET-CLOSE (R180, R181) -/

section Tickets
variable {s : State} {x : Ticket}

/-- The ticket that a number names alone changes as it does. -/
theorem State.updTicket_only {n : Nat} (hone : ∀ t ∈ s.tickets.table, t.number = n → t = x) (f : Ticket → Ticket) :
    s.updTicket n f = s.updTicket n fun _ => f x := by
  unfold State.updTicket
  refine congrArg s.setTickets (List.map_congr_left fun t ht => ?_)
  by_cases h : t.number = n
  · rw [if_pos h, if_pos h, hone t ht h]
  · rw [if_neg h, if_neg h]

/-- The ticket that a number names, after a change that keeps the number. -/
theorem State.ticket?_updTicket {n : Nat} {f : Ticket → Ticket} (hf : ∀ t, t.number = n → (f t).number = n) :
    (s.updTicket n f).ticket? n = (s.ticket? n).map f := by
  unfold State.ticket? State.updTicket State.setTickets
  dsimp only
  induction s.tickets.table with
  | nil => rfl
  | cons t ts ih =>
    by_cases h : t.number = n
    · simp [h, hf t h]
    · simp [h, ih]

theorem State.ticket?_number {n : Nat} (h : s.ticket? n = some x) : x.number = n := by
  simpa using List.find?_some h

theorem State.ticket?_mem {n : Nat} (h : s.ticket? n = some x) : x ∈ s.tickets.table := List.mem_of_find?_eq_some h

/-- A request that changes one ticket and answers its state and verify-due. -/
theorem requestFrame_changesTicket {tag : Byte} {y : Ticket} (hr : Ready s tag) (code : Byte)
    {owner : List Byte → Ctx → Served} {f : Ticket → Ticket} (hx : s.ticket? x.number = some x)
    (hone : ∀ t ∈ s.tickets.table, t.number = x.number → t = x) (hy : f x = y) (hnumber : y.number = x.number)
    (ho : owner (word x.number) s.served = .done (s.served.upd fun s => s.updTicket x.number f) (ticketStateAck x)) :
    requestFrame code (lengthIs 2) owner tag (word x.number) s =
      (s.updTicket x.number fun _ => y).acks code tag (.ticketState x.number y.state y.verifyDue) := by
  have hleft : s.served.s.updTicket x.number f = s.served.s.updTicket x.number fun _ => y := by
    rw [← hy]
    exact State.updTicket_only (s := s.served.s) hone f
  have hfound : (s.served.s.updTicket x.number fun _ => y).ticket? x.number = some y := by
    rw [State.ticket?_updTicket fun _ _ => hnumber, show s.served.s.ticket? x.number = some x from hx]
    rfl
  refine requestFrame_acks hr code rfl ho hleft rfl ?_ hr.running
  rw [show (s.served.upd fun s => s.updTicket x.number f).s = _ from hleft, ticketStateAck, hfound, Option.getD_some, hnumber]

theorem State.closeTicket_line {l : Nat} (hline : x.kind = .line) (hl : x.line = some l) :
    s.closeTicket x = (s.updTicket x.number (Ticket.setState s.link.time .closed)).setOpenTicket l none := by
  simp only [State.closeTicket, hline, hl]

theorem State.childrenOf_eq (s : State) (n : Nat) :
    s.childrenOf n = s.tickets.table.filter fun t => t.state == .rolled && t.parent == some n :=
  List.filter_congr fun t _ => by rw [Bool.eq_iff_iff]; simp

/-- A cable ticket is closed and its children return, in one pass over the table. -/
theorem State.closeTicket_cable (hone : ∀ t ∈ s.tickets.table, t.number = x.number → t = x) (hrolled : x.state ≠ .rolled)
    (hcable : x.kind = .cable) : s.closeTicket x = s.setTickets (s.tickets.table.map fun t =>
      if t.number = x.number then { t with state := .closed, lastChange := s.link.time, members := 0 }
      else if t.state = .rolled ∧ t.parent = some x.number then
        { t with state := .opened, verifyDue := true, parent := none, lastChange := s.link.time }
      else t) := by
  simp only [State.closeTicket, hcable, State.updTicket, State.returnChildren, State.setTickets, List.map_map]
  refine congrArg (fun ts => { s with tickets := { s.tickets with table := ts } }) (List.map_congr_left fun t ht => ?_)
  simp only [Function.comp, Ticket.setState]
  by_cases hn : t.number = x.number
  · have : ¬(t.state = .rolled ∧ t.parent = some x.number) := by rw [hone t ht hn]; exact fun h => hrolled h.1
    simp [hn, this]
  · by_cases hchild : t.state = .rolled ∧ t.parent = some x.number <;> simp [hn, hchild]

end Tickets

/-- Settles O42: each owner changes the one ticket that its number names, and a cable ticket's close its children too. -/
theorem ticketRequestsChangeTickets : Obligations.TicketRequestsChangeTickets := by
  refine ⟨fun s tag n x hr h1 h2 hx hone => ?_, fun s tag n x hr h1 h2 hx hone hrolled hclosed => ?_⟩ <;>
    obtain rfl : x.number = n := State.ticket?_number hx <;>
    have hnamed : s.served.s.namedTicket (wordAt (word x.number) 0) = .ok x := State.namedTicket_word h1 h2 hx
  · refine ⟨fun hopen => ?_, fun hopen => ?_, fun hline hlive => ?_, fun hnot => ?_, fun hnot => ?_⟩ <;>
      refine congrArg Host.Outcome.next ?_
    · refine requestFrame_changesTicket (f := Ticket.setState s.link.time .dispatched)
        (y := { x with state := .dispatched, lastChange := s.link.time }) hr 0x45#8 hx hone rfl
        rfl ?_
      rw [ownerTicketDispatch, hnamed]
      exact if_pos hopen
    · refine requestFrame_rejects hr 0x45#8 rfl ?_
      rw [ownerTicketDispatch, hnamed]
      exact if_neg hopen
    · refine requestFrame_changesTicket (f := fun t => { t with verifyDue := true }) (y := { x with verifyDue := true })
        hr 0x47#8 hx hone rfl rfl ?_
      rw [ownerTicketVerify, hnamed]
      exact if_pos ⟨hline, hlive⟩
    · refine requestFrame_rejects hr 0x47#8 rfl ?_
      rw [ownerTicketVerify, hnamed]
      refine if_neg fun h => ?_
      rcases hnot with hc | hc
      · rw [hc] at h; exact absurd h.1 (by decide)
      · exact h.2 hc
    · refine requestFrame_rejects hr 0x46#8 rfl ?_
      rw [ownerTicketClose, hnamed]
      exact if_pos hnot
  · have howner : ownerTicketClose (word x.number) s.served = .done (s.served.upd fun s => s.closeTicket x) fun _ =>
        .ticketClosed x.number (if x.kind = .cable then some (s.childrenOf x.number).length else none) := by
      rw [ownerTicketClose, hnamed]
      exact if_neg (not_or.2 ⟨hrolled, hclosed⟩)
    refine ⟨fun l hkind hl => ?_, fun hkind => ?_⟩ <;> refine congrArg Host.Outcome.next ?_
    · have hclose : s.served.s.closeTicket x = (s.served.s.updTicket x.number fun _ =>
          { x with state := .closed, lastChange := s.link.time }).setLineStatus l { s.lineStatus l with ticket := none } := by
        rw [State.closeTicket_line hkind hl, State.updTicket_only (s := s.served.s) hone]
        rfl
      refine requestFrame_acks hr 0x46#8 rfl howner hclose rfl ?_ hr.running
      rw [if_neg (by rw [hkind]; decide)]
    · refine requestFrame_acks hr 0x46#8 rfl howner (State.closeTicket_cable (s := s.served.s) hone hrolled hkind) rfl ?_ hr.running
      rw [if_pos hkind, State.childrenOf_eq]

/-! ## The sweep's requests (R119 to R121) -/

theorem Calm.of_sweep {s : State} (h : Calm s) (w : Sweep) : Calm (s.setSweep w) := h.of_eq (fun _ => rfl) h.heads

theorem leNat_append (as bs : List Byte) : leNat (as ++ bs) = leNat as + 256 ^ as.length * leNat bs := by
  induction as with
  | nil => simp [leNat]
  | cons a as ih => rw [List.cons_append, leNat, leNat, ih, List.length_cons, pow_succ]; ring

theorem leNat_long (n : Nat) : leNat (long n) = n % 2 ^ 32 := by
  simp only [long, word, List.cons_append, List.nil_append, leNat, byteOf_mod]
  omega

theorem mask_laidOut (m : BitVec 64) : BitVec.ofNat 64 (leNat (long m.toNat ++ long (m.toNat / 2 ^ 32))) = m := by
  have hm := m.isLt
  apply BitVec.eq_of_toNat_eq
  rw [leNat_append, leNat_long, leNat_long, BitVec.toNat_ofNat]
  show (m.toNat % 2 ^ 32 + 256 ^ 4 * (m.toNat / 2 ^ 32 % 2 ^ 32)) % 2 ^ 64 = m.toNat
  omega

theorem orZero_concurrency (old : Nat) (n : Byte) : orZero old 1 2 n.toNat = if n = 0#8 then old else min 2 n.toNat := by
  rw [orZero_byte]
  split
  · rfl
  next h =>
    have := byte_pos h
    omega

/-- Settles O34: the owners write the sweep's record; an attempt that a request brings about may not be made. -/
theorem sweepRequestsChangeTheSweep : Obligations.SweepRequestsChangeTheSweep := by
  intro s tag hr hcalm
  have hcalm' : Calm s.served.s := hcalm.of_eq (fun _ => rfl) hcalm.heads
  refine ⟨fun hstop hstorm => ?held, fun hstop hstorm hfull => ?running, fun hstop => ?same, ?stop, ?default,
    fun pace conc mo f m w hw hstop => ?set⟩ <;> refine congrArg Host.Outcome.next ?_
  case held =>
    refine requestFrame_acks (c := s.served.upd fun s => s.setSweep { s.sweep with state := .held, timer := .expired })
      (f := sweepStateAck) hr 0x34#8 rfl ?_ rfl rfl rfl hr.running
    have h1 : s.served.s.sweep.state = .stopped := hstop
    have h2 : s.served.s.hazards.storm.inEffect = true := hstorm
    simp only [ownerSweepStart, h1, h2, if_true]
  case running =>
    have h1 : s.served.s.sweep.state = .stopped := hstop
    have h2 : s.served.s.hazards.storm.inEffect = false := hstorm
    have howner : ownerSweepStart [] s.served =
        .done ((s.served.upd fun s => s.setSweep { s.sweep with state := .running, timer := .expired }).issue.settle settleFuel)
          sweepStateAck := by
      simp only [ownerSweepStart, h1, h2]
      rfl
    rw [Ctx.settle_calm_rest (c := (s.served.upd fun s => s.setSweep { s.sweep with state := .running, timer := .expired }).issue)
      (hcalm'.of_sweep _) (fun h => by cases h) fun _ => State.mayIssue_full hfull] at howner
    exact requestFrame_acks hr 0x34#8 rfl howner rfl rfl rfl hr.running
  case same =>
    refine requestFrame_acks (c := s.served) (f := sweepStateAck) hr 0x34#8 rfl ?_ rfl rfl rfl hr.running
    have h1 : s.served.s.sweep.state ≠ .stopped := hstop
    unfold ownerSweepStart
    split
    · contradiction
    · rfl
  case stop => exact requestFrame_acks hr 0x35#8 (owner := ownerSweepStop) (body := []) rfl rfl rfl rfl rfl hr.running
  case default => exact requestFrame_acks hr 0x36#8 (owner := ownerSweepDefault) (body := []) rfl rfl rfl rfl rfl hr.running
  case set =>
    have hmask : BitVec.ofNat 64 (leNat (([pace, conc, codeOr 0xFF#8 PassMode.code mo, f.code] ++ long m.toNat ++
        long (m.toNat / 2 ^ 32)).drop 4)) = m := mask_laidOut m
    have hset : w = { s.sweep with
        pace := orZero s.sweep.pace 1 255 pace.toNat, concurrency := orZero s.sweep.concurrency 1 2 conc.toNat
        passMode := mo.getD s.sweep.passMode, mask := f.apply s.sweep.mask m } := by
      rw [hw, orZero_fullByte, orZero_concurrency]
      cases f <;> rfl
    have howner : ownerSweepSet ([pace, conc, codeOr 0xFF#8 PassMode.code mo, f.code] ++ long m.toNat ++ long (m.toNat / 2 ^ 32))
        s.served = .done ((s.served.upd fun s => s.setSweep w).issue.settle settleFuel)
          fun s => .sweepSettings s.sweep.pace s.sweep.concurrency s.sweep.passMode s.sweep.mask s.sweep.state := by
      simp only [ownerSweepSet, List.cons_append, byteAt_cons_succ, byteAt_cons_zero, orSame_passMode, formOf_code]
      rw [hset]
      simp only [List.cons_append] at hmask
      rw [hmask]
      rfl
    rw [Ctx.settle_calm_rest (c := (s.served.upd fun s => s.setSweep w).issue) (hcalm'.of_sweep _) (fun h => by cases h)
      fun _ => State.mayIssue_stopped (by rw [hset]; exact hstop)] at howner
    exact requestFrame_acks hr 0x37#8 rfl howner rfl rfl rfl hr.running

end Sys2Proof.Machine
end

section
/-! PROOF. The receiver and the transmitter (R2 to R5, R10, R12). -/

namespace Sys2Proof.Machine

/-! ## The receiver -/

/-- A character that only moves the receiver. -/
theorem quiet_tells (rx : Receiver) (s : State) :
    quiet rx s = ({ s with link := { s.link with rx := rx, rxEnd := s.now } } : State).tells [] :=
  event_telling rfl rfl

/-- A character that abandons the frame. -/
theorem abandonFraming_tells (kind tag : Byte) (s : State) :
    abandonFraming kind tag s =
      ({ s with link := { s.link with rx := .hunt, rxEnd := s.now } } : State).tells [.linkError .framing kind tag 0] :=
  event_telling (f := fun c => (c.upd fun s => s.receive .hunt).linkError .framing kind tag 0) rfl rfl

/-- A complete frame whose bytes do not sum to 0. -/
theorem frameJudged_check {len : Nat} {got : List Byte} (h : byteSum (byteOf len :: got) ≠ 0#8) (s : State) :
    frameJudged len got (s.receive .hunt) =
      ({ s with link := { s.link with rx := .hunt, rxEnd := s.now } } : State).tells
        [.linkError .check (got.getD 0 0#8) (got.getD 1 0#8) 0] := by
  unfold frameJudged
  dsimp only
  rw [if_pos h]
  exact event_telling (f := fun c => (c.upd State.hunt).linkError .check (got.getD 0 0#8) (got.getD 1 0#8) 0) rfl rfl

theorem getD_append_lt {got : List Byte} {c : Byte} {i : Nat} (h : i < got.length) : (got ++ [c]).getD i 0#8 = got.getD i 0#8 := by
  simp [List.getD_eq_getElem?_getD, List.getElem?_append_left h]

section Characters
variable {s : State} (running : s.resets.active = false)
include running

theorem characterReceived_hunt (h : s.link.rx = .hunt) (c : Byte) (ok : Bool) :
    characterReceived c ok s = quiet (if ok = true ∧ c = 0xA5#8 then .length else .hunt) s := by
  rw [characterReceived, if_neg (by simp [running]), h]

theorem characterReceived_length (h : s.link.rx = .length) (c : Byte) (ok : Bool) :
    characterReceived c ok s =
      if ok = true ∧ 2 ≤ c.toNat ∧ c.toNat ≤ 250 then quiet (.collect c.toNat []) s else abandonFraming 0#8 0#8 s := by
  rw [characterReceived, if_neg (by simp [running]), h]

theorem characterReceived_collect {len : Nat} {got : List Byte} (h : s.link.rx = .collect len got) (c : Byte) (ok : Bool) :
    characterReceived c ok s =
      if ok = true then
        if (got ++ [c]).length < len + 1 then quiet (.collect len (got ++ [c])) s
        else frameJudged len (got ++ [c]) (s.receive .hunt)
      else abandonFraming (got.getD 0 0#8) (got.getD 1 0#8) s := by
  rw [characterReceived, if_neg (by simp [running]), h]

end Characters

/-- The inter-byte timeout with the frame's kind, tag and bytes so far. -/
theorem timeout_tells {s : State} {kind tag : Byte} {n : Nat}
    (h : ((Ctx.of s).timeout) =
      ((Ctx.of s).upd fun t => (t.reach (s.link.rxEnd + Config.interByte)).hunt).linkError .timeout kind tag n) :
    event Ctx.timeout s =
      ({ s with now := max s.now (s.link.rxEnd + 160), link := { s.link with rx := .hunt } } : State).tells
        [.linkError .timeout kind tag n] :=
  event_telling (by rw [h]; rfl) (by rw [h]; rfl)

/-- Settles O44: by the receiver's state, each character moves it, abandons the frame or completes it. -/
theorem charactersBuildAFrameUntilTheTimeout : Obligations.CharactersBuildAFrameUntilTheTimeout := by
  refine ⟨fun s c ok into running hinto => ⟨fun hunt => ?hunt, fun length => ⟨fun hok hlow hhigh => ?kept, fun hbad => ?abandoned⟩,
    fun len got collect hlen => ⟨fun hok hmore => ?more, fun hok hlast hsum => ?check, fun hok => ?framing⟩⟩,
    fun s n s' hn hs' => ?timeout⟩
  case hunt =>
    rw [hinto]
    exact congrArg Host.Outcome.next ((characterReceived_hunt running hunt c ok).trans (quiet_tells _ s))
  case kept =>
    rw [hinto]
    exact congrArg Host.Outcome.next
      ((characterReceived_length running length c ok).trans ((if_pos ⟨hok, hlow, hhigh⟩).trans (quiet_tells _ s)))
  case abandoned =>
    rw [hinto]
    refine congrArg Host.Outcome.next
      ((characterReceived_length running length c ok).trans ((if_neg ?_).trans (abandonFraming_tells _ _ s)))
    rintro ⟨hok, hlow, hhigh⟩
    rcases hbad with h | h | h
    · rw [hok] at h; cases h
    · omega
    · omega
  case more =>
    rw [hinto]
    have hshort : (got ++ [c]).length < len + 1 := by simp; omega
    exact congrArg Host.Outcome.next
      ((characterReceived_collect running collect c ok).trans ((if_pos hok).trans ((if_pos hshort).trans (quiet_tells _ s))))
  case check =>
    rw [hinto]
    have hfull : ¬(got ++ [c]).length < len + 1 := by simp; omega
    refine congrArg Host.Outcome.next ((characterReceived_collect running collect c ok).trans
      ((if_pos hok).trans ((if_neg hfull).trans ((frameJudged_check hsum s).trans ?_))))
    rw [getD_append_lt (by omega), getD_append_lt (by omega)]
  case framing =>
    rw [hinto]
    exact congrArg Host.Outcome.next
      ((characterReceived_collect running collect c ok).trans ((if_neg (by simp [hok])).trans (abandonFraming_tells _ _ s)))
  case timeout =>
    subst hs' hn
    have hlink : (Ctx.of s).s.link = s.link := rfl
    refine ⟨fun hunt => ?_, fun length => ?_, fun len h => ?_, fun len kind h => ?_, fun len kind tag rest h => ?_⟩ <;>
      refine congrArg Host.Outcome.next ?_
    · have h : (Ctx.of s).timeout = Ctx.of s := by simp only [Ctx.timeout, hlink, hunt]
      exact event_telling (by rw [h]; rfl) (by rw [h]; rfl)
    · exact timeout_tells (by simp only [Ctx.timeout, hlink, length])
    · exact timeout_tells (by simp only [Ctx.timeout, hlink, h]; rfl)
    · exact timeout_tells (by simp only [Ctx.timeout, hlink, h]; rfl)
    · refine timeout_tells ?_
      simp only [Ctx.timeout, hlink, h, List.length_cons, List.getD_cons_zero, List.getD_cons_succ]
      rw [show 2 + (rest.length + 1 + 1) = 4 + rest.length by omega]

/-! ## The transmitter (R10, R12) -/

section Pump
variable {s : State} (running : s.resets.active = false) (idle : s.link.tx = .idle)
include running idle

theorem State.pump_waitingReply {r : Reply} (hslot : s.link.slot = some r) (hbegun : r.begun = false) :
    s.pump = { s with link := { s.link with tx := .reply { r with begun := true }, slot := some { r with begun := true } } } := by
  simp [State.pump, running, idle, hslot, hbegun, Option.filter]

theorem State.pump_nothing (hslot : s.link.slot = none) (hqueue : s.link.queue = [] ∨ s.resets.starting = true) : s.pump = s := by
  unfold State.pump
  rw [if_neg (by simp [running]), idle, hslot]
  rcases hqueue with h | h
  · simp [h]
  · simp [h]

theorem State.pump_report (hslot : s.link.slot = none) (hstarted : s.resets.starting = false) {q : Report} {rest : List Report}
    (hqueue : s.link.queue = q :: rest) :
    s.pump = { s with link := afterLeave { s.link with queue := rest, tx := .report q } } := by
  simp [State.pump, running, idle, hslot, hstarted, hqueue]

end Pump

theorem Report.isOverflow_iff {r : Report} : r.isOverflow = true ↔ ∃ n, r = .overflow n := by
  cases r <;> simp [Report.isOverflow]

theorem afterLeave_none {l : Link} (h : l.lost = 0 ∨ ∃ n, Report.overflow n ∈ l.queue) : afterLeave l = l := by
  refine if_neg ?_
  rintro ⟨hlost, hall⟩
  rcases h with h | ⟨n, hn⟩
  · omega
  · have := List.all_eq_true.1 hall _ hn
    cases this

theorem afterLeave_overflow {l : Link} (hlost : 0 < l.lost) (h : ∀ n, Report.overflow n ∉ l.queue) :
    afterLeave l = { l with queue := l.queue ++ [.overflow l.lost], lost := 0 } := by
  refine if_pos ⟨hlost, List.all_eq_true.2 fun r hr => ?_⟩
  cases hover : r.isOverflow with
  | false => rfl
  | true =>
    obtain ⟨n, rfl⟩ := Report.isOverflow_iff.1 hover
    exact absurd hr (h n)

/-- Settles O45: the end of a frame leaves the transmitter idle, and its start is the rest. -/
theorem frameSentBeginsTheNextFrame : Obligations.FrameSentBeginsTheNextFrame := by
  intro s running
  refine ⟨fun r htx hreset => ?reply, fun q htx => ?report⟩
  case reply =>
    have hend : exec .frameSent s =
        .next ({ s with port := [], link := { s.link with tx := .idle, slot := none } } : State).pump := by
      show Host.Outcome.next (event Ctx.frameEnds s) = _
      have h : (Ctx.of s).frameEnds = (Ctx.of s).upd fun s => { s with link := { s.link with tx := .idle, slot := none } } := by
        unfold Ctx.frameEnds
        rw [show (Ctx.of s).s.link.tx = .reply r from htx]
        simp [Ctx.upd, Ctx.of, hreset]
      rw [event, h, Ctx.finish_silent rfl]
      rfl
    have hrunning : ({ s with port := [], link := { s.link with tx := .idle, slot := none } } : State).resets.active = false :=
      running
    rw [hend]
    refine ⟨fun hqueue => ?_, fun q rest hqueue hstarted hover => ?_, fun q rest hqueue hstarted hlost hover => ?_⟩
    · rw [State.pump_nothing hrunning rfl rfl hqueue]
    · rw [State.pump_report hrunning rfl rfl hstarted hqueue, afterLeave_none hover]
    · rw [State.pump_report hrunning rfl rfl hstarted hqueue,
        afterLeave_overflow (l := { s.link with tx := .report q, slot := none, queue := rest }) hlost hover]
  case report =>
    have hend : exec .frameSent s = .next ({ s with port := [], link := { s.link with tx := .idle } } : State).pump := by
      show Host.Outcome.next (event Ctx.frameEnds s) = _
      have h : (Ctx.of s).frameEnds = (Ctx.of s).upd fun s => { s with link := { s.link with tx := .idle } } := by
        unfold Ctx.frameEnds
        rw [show (Ctx.of s).s.link.tx = .report q from htx]
      rw [event, h, Ctx.finish_silent rfl]
      rfl
    have hrunning : ({ s with port := [], link := { s.link with tx := .idle } } : State).resets.active = false := running
    rw [hend]
    refine ⟨fun r hslot hbegun => ?_, fun hslot => ⟨fun hqueue => ?_, fun q rest hqueue hstarted =>
      ⟨fun hover => ?_, fun hlost hover => ?_⟩⟩⟩
    · rw [State.pump_waitingReply hrunning rfl hslot hbegun]
    · rw [State.pump_nothing hrunning rfl hslot hqueue]
    · rw [State.pump_report hrunning rfl hslot hstarted hqueue, afterLeave_none hover]
    · rw [State.pump_report hrunning rfl hslot hstarted hqueue,
        afterLeave_overflow (l := { s.link with tx := .report q, queue := rest }) hlost hover]

end Sys2Proof.Machine
end

section
/-! PROOF. The resets, the starting phase and the supply (R18, R19, R59, R60). -/

namespace Sys2Proof.Machine

/-! ## What the end of an event does to the link -/

/-- Two states that agree in what the queue and the transmitter read. -/
structure SameLink (s t : State) : Prop where
  link : s.link = t.link
  active : s.resets.active = t.resets.active
  starting : s.resets.starting = t.resets.starting

theorem SameLink.raise {s t : State} (h : SameLink s t) (r : Report) : SameLink (s.raise r) (t.raise r) := by
  obtain ⟨link, active, starting⟩ := h
  have used : s.queueUsed = t.queueUsed := by rw [State.queueUsed, State.queueUsed, link, starting]
  by_cases room : t.queueUsed < Config.queuePlaces
  · rw [State.raise_room room, State.raise_room (used ▸ room)]
    exact ⟨by rw [link], active, starting⟩
  · rw [State.raise_full room, State.raise_full (used ▸ room)]
    exact ⟨by rw [link], active, starting⟩

theorem SameLink.raiseAll {s t : State} (h : SameLink s t) (rs : List Report) :
    SameLink (rs.foldl State.raise s) (rs.foldl State.raise t) := by
  induction rs generalizing s t with
  | nil => exact h
  | cons r rs ih => exact ih (h.raise r)

theorem SameLink.pump_link {s t : State} (h : SameLink s t) : s.pump.link = t.pump.link := by
  obtain ⟨link, active, starting⟩ := h
  unfold State.pump
  rw [link, active, starting]
  (repeat' split) <;> first | rfl | exact link

/-! ## The beginning and the end of a reset (R18, R59, R133) -/

/-- The heads are read, each from its presence input. -/
theorem readHeads_spec (f : Head → HeadRecord) (hs : List Head) (s : State) :
    (∃ t, hs.foldl (fun s h => s.setHeadRec h (f h)) s = { s with engine := { s.engine with heads := t } }) ∧
    ∀ h ∈ hs, (hs.foldl (fun s h => s.setHeadRec h (f h)) s).headRec h = f h := by
  have keeps (hs : List Head) (s : State) (h : Head) (hh : s.headRec h = f h) :
      (hs.foldl (fun s h => s.setHeadRec h (f h)) s).headRec h = f h := by
    induction hs generalizing s with
    | nil => exact hh
    | cons x hs ih =>
      refine ih _ ?_
      rw [State.setHeadRec_headRec]
      split
      next hx => rw [hx]
      · exact hh
  induction hs generalizing s with
  | nil => exact ⟨⟨s.engine.heads, rfl⟩, by simp⟩
  | cons x hs ih =>
    obtain ⟨⟨t, ht⟩, hread⟩ := ih (s.setHeadRec x (f x))
    refine ⟨⟨t, ht⟩, fun h hh => ?_⟩
    rcases List.mem_cons.1 hh with rfl | hh
    · exact keeps hs _ h (by simp)
    · exact hread h hh

theorem readHazards_none {c : Ctx} (h : c.s.pins.hazards = []) : c.readHazards = c := by
  unfold Ctx.readHazards
  induction allBuses.map HazardInput.a ++ [HazardInput.storm] with
  | nil => rfl
  | cons i is ih => rw [List.foldl_cons, if_neg (by rw [h]; simp), ih]

/-- The head record that a presence input gives at the end of a reset (R133). -/
def headFromPin (s : State) (h : Head) : HeadRecord :=
  { HeadRecord.initial with state := if Table.get true s.pins.heads h.val then .idle else .absent }

theorem State.headAtReset_eq (s : State) (h : Head) : s.headAtReset h = headFromPin s h := by
  unfold State.headAtReset headFromPin
  split <;> rfl

theorem readHeads_eq {f : Head → HeadRecord} (hs : List Head) {s : State} (h : ∀ x, s.headAtReset x = f x) :
    hs.foldl (fun s h => s.setHeadRec h (s.headAtReset h)) s = hs.foldl (fun s h => s.setHeadRec h (f h)) s := by
  induction hs generalizing s with
  | nil => rfl
  | cons x hs ih =>
    rw [List.foldl_cons, List.foldl_cons, h]
    exact ih fun y => h y

/-- The end of a reset that finds no hazard input active and the store valid. -/
theorem Ctx.endReset_spec {c : Ctx} (hhazards : c.s.pins.hazards = []) (hvalid : c.s.tickets.valid = true) :
    ∃ heads, c.endReset = { c with s := { c.s with
        resets := { c.s.resets with active := false, starting := true }
        link := { c.s.link with rate := c.s.pins.rate, nextSecond := c.s.now + 8000, queue := [], lost := 0 }
        engine := { c.s.engine with heads := heads } } } ∧
      ∀ h : Head, Table.get HeadRecord.initial heads h.val = headFromPin c.s h := by
  let s1 : State := { c.s with
    resets := { c.s.resets with active := false, starting := true }
    link := { c.s.link with rate := c.s.pins.rate, nextSecond := c.s.now + Config.second, queue := [], lost := 0 } }
  obtain ⟨⟨heads, hheads⟩, hread⟩ := readHeads_spec (headFromPin s1) allHeads s1
  have hfold : allHeads.foldl (fun s h => s.setHeadRec h (s.headAtReset h)) s1 =
      { s1 with engine := { s1.engine with heads := heads } } := (readHeads_eq allHeads s1.headAtReset_eq).trans hheads
  refine ⟨heads, ?_, fun h => ?_⟩
  · have hmark : State.checkMarker { s1 with engine := { s1.engine with heads := heads } } =
        { s1 with engine := { s1.engine with heads := heads } } := if_pos hvalid
    have hend : c.endReset = Ctx.readHazards { c with s := (allHeads.foldl (fun s h => s.setHeadRec h (s.headAtReset h))
        s1).checkMarker } := rfl
    rw [hend, hfold, hmark]
    exact readHazards_none hhazards
  · have := hread h (by revert h; decide)
    rw [hheads] at this
    exact this

/-- A reset begins with no line on a bus: nothing is left in its drop. -/
theorem drop_of_noLine {s : State} (h : ∀ b, (s.busRec b).line = none) : allBuses.filterMap s.dropOf = [] := by
  refine List.filterMap_eq_nil_iff.2 fun b _ => ?_
  simp [State.dropOf, h b]

/-- Every block at its reset values in a starting phase that has just begun. -/
def State.restarted (s : State) (cause : ResetCause) (heads : Table HeadRecord) : State :=
  { s with
    resets := ⟨false, cause, true, [], false⟩
    link := { Link.initial with rate := s.pins.rate, nextSecond := s.now + 8000, supplyFall := s.link.supplyFall }
    store := Store.initial, access := Access.initial, watches := Watches.initial, hazards := Hazards.initial
    sched := Sched.initial, sweep := Sweep.initial, engine := { Engine.initial with heads := heads }, lines := []
    tickets := { Tickets.initial with table := s.tickets.table, next := s.tickets.next } }

/-- A reset that begins with no line on a bus, RESET released, no hazard input active and the store valid ends at once. -/
theorem Ctx.beginReset_ends {c : Ctx} (cause : ResetCause) (running : c.s.resets.active = false)
    (hline : ∀ b, (c.s.busRec b).line = none) (hreset : c.s.pins.reset = false) (hhazards : c.s.pins.hazards = [])
    (hvalid : c.s.tickets.valid = true) :
    ∃ heads, c.beginReset cause = { c with s := c.s.restarted cause heads } ∧
      ∀ h : Head, Table.get HeadRecord.initial heads h.val = headFromPin c.s h := by
  have hdrop : (if c.s.resets.active = true then c.s.resets.drop else allBuses.filterMap c.s.dropOf) = [] := by
    rw [if_neg (by simp [running]), drop_of_noLine hline]
  obtain ⟨heads, hend, hread⟩ := Ctx.endReset_spec (c := c.upd fun s => s.cleared cause []) hhazards hvalid
  refine ⟨heads, ?_, hread⟩
  unfold Ctx.beginReset Ctx.mayEndReset
  rw [hdrop, if_pos ⟨rfl, rfl, hreset⟩, hend]
  simp [Ctx.upd, State.cleared, State.restarted, State.dropAccess, Access.initial, Tickets.initial, Link.initial, hvalid]

/-- Nothing is sent in a starting phase with no reply. -/
theorem finish_restarted {c : Ctx} (hout : c.out = []) {s : State} {cause : ResetCause} {heads : Table HeadRecord}
    (hs : c.s = s.restarted cause heads) : c.finish = s.restarted cause heads := by
  rw [Ctx.finish_silent hout, hs]
  exact State.pump_nothing rfl rfl rfl (.inl rfl)

/-- Settles O19: the ACK's end begins a reset, and a reset that finds nothing to drop ends at once. -/
theorem requestResetFollowsItsAck : Obligations.RequestResetFollowsItsAck := by
  refine ⟨fun s tag hr => ?_, fun s r htx hreset running hline hpin hhazards hvalid => ?_⟩
  · exact congrArg Host.Outcome.next
      (requestFrame_acks hr 0x13#8 (owner := ownerReset) (body := []) rfl rfl rfl rfl rfl hr.running)
  · let c1 : Ctx := (Ctx.of s).upd fun s => { s with link := { s.link with tx := .idle, slot := none } }
    obtain ⟨heads, hbegin, hread⟩ := Ctx.beginReset_ends (c := c1) .request running hline hpin hhazards hvalid
    have hframe : (Ctx.of s).frameEnds = c1.beginReset .request := by
      unfold Ctx.frameEnds
      rw [show (Ctx.of s).s.link.tx = .reply r from htx]
      exact if_pos hreset
    refine ⟨_, congrArg Host.Outcome.next (show event Ctx.frameEnds s = c1.s.restarted .request heads from ?_),
      rfl, rfl, rfl, rfl, rfl, rfl, rfl, rfl, rfl, rfl, rfl, rfl, rfl, hread, rfl⟩
    rw [event, hframe, hbegin]
    exact finish_restarted rfl rfl

/-! ## The RESET pin and the drop (R59) -/

/-- One bus alone gives an entry. -/
theorem filterMap_oneBus {α : Type} {f : Bus → Option α} {b : Bus} {x : α} (hb : f b = some x)
    (hother : ∀ b', b' ≠ b → f b' = none) : allBuses.filterMap f = [x] := by
  have hlist : allBuses.filterMap f = (allBuses.filter fun b' => b' = b).filterMap f := by
    rw [List.filterMap_filter]
    refine List.filterMap_congr fun b' _ => ?_
    by_cases h : b' = b <;> simp [h, hother]
  have hone : (allBuses.filter fun b' => b' = b) = [b] :=
    (by decide : ∀ b : Bus, (allBuses.filter fun b' => b' = b) = [b]) b
  rw [hlist, hone]
  simp [hb]

/-- A reset that begins under RESET goes on. -/
theorem Ctx.beginReset_held {c : Ctx} (cause : ResetCause) (running : c.s.resets.active = false)
    (hreset : c.s.pins.reset = true) :
    c.beginReset cause = { c with s := c.s.cleared cause (allBuses.filterMap c.s.dropOf) } := by
  unfold Ctx.beginReset Ctx.mayEndReset
  rw [if_neg (show ¬c.s.resets.active = true by rw [running]; decide)]
  refine if_neg fun h => ?_
  have : c.s.pins.reset = false := h.2.2
  rw [hreset] at this
  cases this

/-- RESET asserted. -/
theorem exec_resetAsserted {s : State} (hreset : s.pins.reset = false) (running : s.resets.active = false) :
    exec .resetPinAssert s = .next (({ s with port := [], pins := { s.pins with reset := true } } : State).cleared .pin
      (allBuses.filterMap s.dropOf)) := by
  refine congrArg Host.Outcome.next ?_
  show event Ctx.resetAsserted s = _
  let c1 : Ctx := (Ctx.of s).upd fun s => { s with pins := { s.pins with reset := true } }
  have h : (Ctx.of s).resetAsserted = { c1 with s := c1.s.cleared .pin (allBuses.filterMap c1.s.dropOf) } :=
    (if_neg (show ¬(Ctx.of s).s.pins.reset = true by rw [show (Ctx.of s).s.pins.reset = false from hreset]; decide)).trans
      (Ctx.beginReset_held (c := c1) .pin running rfl)
  rw [event, h, Ctx.finish_silent rfl]
  exact State.pump_active rfl

/-- Settles O46: a reset begins under RESET and does not end; its drop is empty, or the one bus's. -/
theorem resetPinClearsThePart : Obligations.ResetPinClearsThePart := by
  intro s held hreset running hheld
  refine ⟨fun hline => ?_, fun b line d hline hother haccess hgroup hd => ?_⟩ <;> rw [exec_resetAsserted hreset running, hheld]
  · rw [drop_of_noLine hline]
    rfl
  · have hentry : s.dropOf b = some ⟨line, s.now + d⟩ := by
      rcases haccess with h | h <;> simp [State.dropOf, hline, h, State.restoreTaken, groupOf, hd]
    have hnone (b' : Bus) (hb : b' ≠ b) : s.dropOf b' = none := by simp [State.dropOf, hother b' hb]
    rw [filterMap_oneBus hentry hnone]
    have hselector : ({ s with port := [], pins := { s.pins with reset := true } } : State).groupSelOf (line / 64) = some b :=
      hgroup
    simp [State.cleared, State.dropAccess, Table.set, Table.erase, Table.insert, LineRelays.initial, Access.initial, groupOf,
      hselector]

/-- The drop without the cut of a line that stands at its head alone. -/
theorem drop_withoutHead {d : DropEntry} {rest : List DropEntry} {line : Nat} (hd : d.line = line)
    (hrest : ∀ e ∈ rest, e.line ≠ line) : (d :: rest).filter (fun e => e.line != line) = rest := by
  rw [List.filter_cons_of_neg (by simp [hd])]
  exact List.filter_eq_self.2 fun e he => by simpa using hrest e he

/-- A cut of the drop closed: its line's relays and, with the last cut of its group, the group's selector. -/
def State.cutClosed (s : State) (d : DropEntry) (rest : List DropEntry) : State :=
  let closed := ({ s with now := max s.now d.runsOut, port := [], resets := { s.resets with drop := rest } } : State).setRelays
    d.line LineRelays.initial
  if rest.any (fun e => groupOf e.line == groupOf d.line) then closed else closed.setGroupSel (groupOf d.line) none

/-- A cut of the drop closes while RESET is held. -/
theorem exec_dropRunsOut {s : State} {d : DropEntry} {rest : List DropEntry} (hactive : s.resets.active = true)
    (hreset : s.pins.reset = true) (hdrop : s.resets.drop = d :: rest) (hrest : ∀ e ∈ rest, e.line ≠ d.line) :
    exec (.resetDropIntervalExpiry d.line) s = .next (s.cutClosed d rest) := by
  refine congrArg Host.Outcome.next ?_
  show event (fun c => c.dropRunsOut d.line) s = _
  have hfind : (Ctx.of s).s.resets.drop.find? (fun e => e.line == d.line) = some d := by simp [Ctx.of, hdrop]
  have hfilter : (Ctx.of s).s.resets.drop.filter (fun e => e.line != d.line) = rest := by
    show s.resets.drop.filter _ = rest
    rw [hdrop, drop_withoutHead rfl hrest]
  have hheld (c : Ctx) (h : c.s.pins.reset = true) : c.mayEndReset = c := if_neg fun h' => by simp [h] at h'
  have hends (c : Ctx) (hout : c.out = []) (hp : c.s.pins.reset = true) (ha : c.s.resets.active = true) :
      c.mayEndReset.finish = c.s := by
    rw [hheld c hp, Ctx.finish_silent hout]
    exact State.pump_active ha
  unfold event Ctx.dropRunsOut State.cutClosed
  simp only [hfind, hfilter]
  by_cases hlast : rest.any (fun e => groupOf e.line == groupOf d.line) = true
  · simp only [hlast, if_true]
    exact hends _ rfl hreset hactive
  · simp only [hlast]
    exact hends _ rfl hreset hactive

/-- Settles O47: a cut of the drop closes and leaves it, and RESET released ends the reset where no cut is left. -/
theorem resetDropEndsBeforeTheStartingPhase : Obligations.ResetDropEndsBeforeTheStartingPhase := by
  refine ⟨fun s line d rest hactive hreset hd hdrop hrest => ?cut, fun s hactive => ⟨fun hdrop => ?goesOn,
    fun hdrop hhazards hvalid => ?ends⟩⟩
  case cut =>
    subst hd
    rw [exec_dropRunsOut hactive hreset hdrop hrest]
    refine ⟨fun hlast => ?_, fun hgroup => ?_⟩
    · have : rest.any (fun e => groupOf e.line == groupOf d.line) = false := by
        simpa [groupOf] using hlast
      rw [State.cutClosed, this]
      rfl
    · have : rest.any (fun e => groupOf e.line == groupOf d.line) = true := by
        simpa [groupOf] using hgroup
      rw [State.cutClosed, this]
      rfl
  case goesOn =>
    refine congrArg Host.Outcome.next (show event Ctx.resetReleased s = _ from ?_)
    let c1 : Ctx := (Ctx.of s).upd fun s => { s with pins := { s.pins with reset := false } }
    have h : (Ctx.of s).resetReleased = c1 := if_neg fun h => hdrop h.2.1
    rw [event, h, Ctx.finish_silent rfl]
    exact State.pump_active hactive
  case ends =>
    let c1 : Ctx := (Ctx.of s).upd fun s => { s with pins := { s.pins with reset := false } }
    obtain ⟨heads, hend, hread⟩ := Ctx.endReset_spec (c := c1) hhazards hvalid
    have h : (Ctx.of s).resetReleased = c1.endReset := if_pos ⟨hactive, hdrop, rfl⟩
    obtain ⟨x, y, q, n, hfinish⟩ := c1.endReset.finish_spec
    have hlink : c1.endReset.finish.link = ({ s with
        resets := { s.resets with active := false, starting := true }
        link := { s.link with rate := s.pins.rate, nextSecond := s.now + 8000, queue := [], lost := 0 } } : State).pump.link := by
      rw [Ctx.finish_silent (by rw [hend]; rfl), hend]
      exact SameLink.pump_link ⟨rfl, rfl, rfl⟩
    refine ⟨_, congrArg Host.Outcome.next (show event Ctx.resetReleased s = _ from by rw [event, h]), ?_, ?_, hlink, fun h => ?_, ?_,
      ?_⟩
    · rw [Ctx.finish_resets, hend]; rfl
    · rw [Ctx.finish_pins, hend]; rfl
    · rw [State.headRec, Ctx.finish_engine, hend]
      exact hread h
    · rw [Ctx.finish_port, hend]; rfl
    · rw [hfinish, hend]; rfl

/-! ## The starting phase (R18, R171) -/

/-- The non-closed line tickets of a line in a list of tickets. -/
def liveOf (line : Nat) (ts : List Ticket) : List Ticket := ts.filter fun t => t.kind == .line && t.line == some line && t.live

/-- A pass over some tickets gives each line the number of its last non-closed line ticket, and touches the line table alone. -/
theorem State.rebuildFrom_spec (ts : List Ticket) (s : State) :
    ∃ ls, ts.foldl (fun s t => match t.kind, t.line with
        | .line, some l => if t.state = .closed then s else s.setOpenTicket l (some t.number)
        | _, _ => s) s = { s with lines := ls } ∧
      ∀ l, Table.get LineStatus.initial ls l =
        { s.lineStatus l with ticket := ((liveOf l ts).getLast?.map Ticket.number).or (s.lineStatus l).ticket } := by
  induction ts generalizing s with
  | nil => exact ⟨s.lines, rfl, fun l => rfl⟩
  | cons t ts ih =>
    have skip (hdead : ∀ l, (t.kind == .line && t.line == some l && t.live) = false) (l : Nat) :
        liveOf l (t :: ts) = liveOf l ts := List.filter_cons_of_neg (by simp [hdead l])
    rw [List.foldl_cons]
    split
    next l hkind hline =>
      by_cases hclosed : t.state = .closed
      · rw [if_pos hclosed]
        obtain ⟨ls, hpass, hread⟩ := ih s
        exact ⟨ls, hpass, fun l' => by rw [skip (by simp [Ticket.live, hclosed]), hread]⟩
      · rw [if_neg hclosed]
        obtain ⟨ls, hpass, hread⟩ := ih (s.setOpenTicket l (some t.number))
        refine ⟨ls, hpass, fun l' => ?_⟩
        rw [hread l', State.setOpenTicket_lineStatus]
        by_cases hl : l' = l
        · subst hl
          have hcons : liveOf l' (t :: ts) = t :: liveOf l' ts :=
            List.filter_cons_of_pos (by simp [hkind, hline, Ticket.live, hclosed])
          rw [hcons, if_pos rfl]
          cases hlast : (liveOf l' ts).getLast? <;> simp [List.getLast?_cons, hlast]
        · have hcons : liveOf l' (t :: ts) = liveOf l' ts :=
            List.filter_cons_of_neg (by simp [hline, Ne.symm hl])
          rw [hcons, if_neg hl]
    next hnone =>
      obtain ⟨ls, hpass, hread⟩ := ih s
      refine ⟨ls, hpass, fun l' => ?_⟩
      rw [skip ?_, hread]
      intro l
      by_cases hkind : t.kind = .line
      · have : t.line ≠ some l := fun h => hnone l hkind h
        simp [this]
      · simp [hkind]

/-- Where a line has at most one non-closed line ticket, that is the last of them. -/
theorem State.lineTicket?_getLast {s : State} {l : Nat} (h : (s.liveLineTickets l).length ≤ 1) :
    (liveOf l s.tickets.table).getLast? = s.lineTicket? l := by
  have hhead : s.lineTicket? l = (liveOf l s.tickets.table).head? := (List.head?_filter ..).symm
  have hlength : (liveOf l s.tickets.table).length ≤ 1 := h
  rw [hhead]
  match hlist : liveOf l s.tickets.table with
  | [] => rfl
  | [t] => rfl
  | t :: u :: ts => simp [hlist] at hlength

/-- Every line's open ticket field after the starting phase. -/
theorem State.rebuild_spec (s : State) (h : ∀ l, (s.liveLineTickets l).length ≤ 1) :
    ∃ ls, s.rebuild = { s with lines := ls } ∧ ∀ l, Table.get LineStatus.initial ls l = { s.lineStatus l with
      ticket := if s.resets.storeLost then none else (s.lineTicket? l).map Ticket.number } := by
  obtain ⟨ls, hforget, hcleared⟩ := s.forgetTickets_spec
  unfold State.rebuild
  rw [hforget]
  dsimp only
  by_cases hlost : s.resets.storeLost = true
  · rw [if_pos hlost]
    exact ⟨ls, rfl, fun l => by rw [hcleared, if_pos hlost]⟩
  · rw [if_neg hlost]
    obtain ⟨ls', hpass, hread⟩ := State.rebuildFrom_spec s.tickets.table { s with lines := ls }
    refine ⟨ls', hpass, fun l => ?_⟩
    have hl : State.lineStatus { s with lines := ls } l = { s.lineStatus l with ticket := none } := hcleared l
    rw [hread l, hl, if_neg hlost, State.lineTicket?_getLast (h l)]
    simp

/-- Settles O48: the rebuilt fields and START at the head of the queue. -/
theorem startingPhaseEndsWithStart : Obligations.StartingPhaseEndsWithStart := by
  intro s hstarting hlaw
  obtain ⟨ls, hrebuild, hread⟩ := State.rebuild_spec { s with port := [] } hlaw.oneForALine
  let t : State := { s with
    port := [], lines := ls, resets := { s.resets with starting := false }
    link := { s.link with queue := s.startReport :: s.link.queue } }
  have hevent : event Ctx.startingEnds s = t.pump := by
    have h : (Ctx.of s).startingEnds = { Ctx.of s with s := t } := by
      unfold Ctx.startingEnds Ctx.upd
      rw [if_pos (show (Ctx.of s).s.resets.starting = true from hstarting),
        show (Ctx.of s).s.rebuild = { s with port := [], lines := ls } from hrebuild]
      rfl
    rw [event, h, Ctx.finish_silent rfl]
  obtain ⟨x, y, q, n, hpump⟩ := t.pump_spec
  refine ⟨_, congrArg Host.Outcome.next hevent, ?_, fun l => ?_, SameLink.pump_link ⟨rfl, rfl, rfl⟩, ?_, ?_⟩
  · rw [hpump]
  · rw [hpump]
    exact hread l
  · rw [hpump]
  · rw [hpump]

/-! ## The supply (R60, R117, R150) -/

/-- The state without what the fall of SUPPLY-GOOD empties: relays and records, jobs, issue notes and heads. -/
def State.withdrawn (s : State) : State :=
  { s with access := Access.initial, watches := { s.watches with records := [] }, sched := { s.sched with jobs := [] }
           sweep := { s.sweep with notes := [] }, engine := { s.engine with heads := [] } }

/-- The state of a head that is freed if it is in use. -/
def HeadState.freed (x : HeadState) : HeadState := if x = .attached ∨ x = .reserved then .idle else x

/-- What the removals of a fall do: nothing outside the emptied tables, and a head's state only frees it. -/
structure Withdraws (s t : State) : Prop where
  outside : t.withdrawn = s.withdrawn
  heads : ∀ h, (t.headRec h).state.freed = (s.headRec h).state.freed

theorem Withdraws.refl (s : State) : Withdraws s s := ⟨rfl, fun _ => rfl⟩
theorem Withdraws.trans {s t u : State} (h : Withdraws s t) (k : Withdraws t u) : Withdraws s u :=
  ⟨k.outside.trans h.outside, fun x => (k.heads x).trans (h.heads x)⟩

theorem Withdraws.pins {s t : State} (h : Withdraws s t) : t.pins = s.pins :=
  (congrArg State.pins h.outside : t.withdrawn.pins = s.withdrawn.pins)
theorem Withdraws.resets {s t : State} (h : Withdraws s t) : t.resets = s.resets :=
  (congrArg State.resets h.outside : t.withdrawn.resets = s.withdrawn.resets)
theorem Withdraws.hazards {s t : State} (h : Withdraws s t) : t.hazards = s.hazards :=
  (congrArg State.hazards h.outside : t.withdrawn.hazards = s.withdrawn.hazards)
theorem Withdraws.link {s t : State} (h : Withdraws s t) : t.link = s.link :=
  (congrArg State.link h.outside : t.withdrawn.link = s.withdrawn.link)

theorem State.withdrawn_of_offBus {s t : State} (h : t.offBus = s.offBus) : t.withdrawn = s.withdrawn :=
  congrArg (fun s : State => { s with sched := { s.sched with jobs := [] }, sweep := { s.sweep with notes := [] }
                                      engine := { s.engine with heads := [] } }) h

theorem State.freeHead_headRec (s : State) (h h' : Head) : (s.freeHead h).headRec h' =
    if h' = h ∧ ((s.headRec h).state = .attached ∨ (s.headRec h).state = .reserved)
    then { HeadRecord.initial with standing := (s.headRec h).standing } else s.headRec h' := by
  unfold State.freeHead
  dsimp only
  split
  next hin => rw [State.setHeadRec_headRec]; simp [hin]
  next hout => rw [if_neg fun h => hout h.2]

theorem State.freeHead_withdraws (s : State) (h : Head) : Withdraws s (s.freeHead h) := by
  refine ⟨by unfold State.freeHead; dsimp only; split <;> rfl, fun h' => ?_⟩
  rw [State.freeHead_headRec]
  split
  next hin =>
    obtain ⟨rfl, hin⟩ := hin
    rw [HeadState.freed, HeadState.freed, if_pos hin]
    rfl
  · rfl

theorem State.freeHeads_withdraws (s : State) : Withdraws s s.freeHeads := by
  unfold State.freeHeads
  induction allHeads generalizing s with
  | nil => exact .refl s
  | cons h hs ih => exact (s.freeHead_withdraws h).trans (ih _)

/-- After the heads are freed none is in use. -/
theorem State.freeHeads_freed (s : State) (h : Head) :
    (s.freeHeads.headRec h).state = (s.freeHeads.headRec h).state.freed := by
  have step (s : State) (h' h : Head) (hh : h' = h ∨ (s.headRec h).state = (s.headRec h).state.freed) :
      ((s.freeHead h').headRec h).state = ((s.freeHead h').headRec h).state.freed := by
    rw [State.freeHead_headRec]
    split
    · rfl
    next hout =>
      rcases hh with rfl | hh
      · rw [HeadState.freed, if_neg fun h => hout ⟨rfl, h⟩]
      · exact hh
  have all (hs : List Head) : ∀ s : State, h ∈ hs ∨ (s.headRec h).state = (s.headRec h).state.freed →
      ((hs.foldl State.freeHead s).headRec h).state = ((hs.foldl State.freeHead s).headRec h).state.freed := by
    induction hs with
    | nil => exact fun s hh => hh.resolve_left List.not_mem_nil
    | cons x hs ih =>
      intro s hh
      refine ih _ ?_
      rcases hh with hmem | hfreed
      · rcases List.mem_cons.1 hmem with rfl | hmem
        · exact .inr (step s h h (.inl rfl))
        · exact .inl hmem
      · exact .inr (step s x h (.inr hfreed))
  exact all allHeads s (.inl ((by decide : ∀ h : Head, h ∈ allHeads) h))

theorem Ctx.freeJobHead_withdraws (c : Ctx) (id : Nat) : Withdraws c.s (c.freeJobHead id).s := by
  unfold Ctx.freeJobHead
  split
  · exact .refl _
  next j _ =>
  split
  · exact .refl _
  next jh _ =>
  have detached : Withdraws c.s (match j.bus with | some b => c.s.detachHead b | none => c.s) := by
    cases j.bus with
    | none => exact .refl _
    | some b =>
      have hoff := c.s.detachHead_offBus b
      exact ⟨State.withdrawn_of_offBus hoff, fun h => by rw [State.headRec, State.engine_of_offBus hoff]; rfl⟩
  exact (detached.trans (State.freeHead_withdraws _ jh.head)).trans ⟨rfl, fun _ => rfl⟩

theorem Ctx.abortEntered_withdraws (c : Ctx) (id : Nat) : Withdraws c.s (c.abortEntered id).s := by
  unfold Ctx.abortEntered
  split
  · exact .refl _
  split
  · exact .refl _
  next jh _ =>
  split
  · exact .refl _
  · refine ⟨rfl, fun h => congrArg HeadState.freed ?_⟩
    show ((c.s.dropStep jh.head).headRec h).state = _
    rw [State.dropStep, State.setHeadRec_headRec]
    split
    next hh => rw [hh]
    · rfl

theorem Sweep.jobRemoved_supply (w : Sweep) (j : Job) : ∃ notes, w.jobRemoved j .supply = { w with notes := notes } := by
  unfold Sweep.jobRemoved
  split
  · exact ⟨_, rfl⟩
  · exact ⟨w.notes, rfl⟩

theorem Ctx.removeJob_withdraws (c : Ctx) (id : Nat) : Withdraws c.s (c.removeJob id .supply).s := by
  unfold Ctx.removeJob
  split
  · exact .refl _
  next j0 _ =>
  extract_lets c1 j c2 dropped c3
  refine (c.freeJobHead_withdraws id).trans ?_
  have hs : ((if dropped.2 then c3.walk else c3).issue).s =
      (c1.s.setJobs dropped.1).setSweep ((c1.s.setJobs dropped.1).sweep.jobRemoved j .supply) := by
    have : c3.s = (c1.s.setJobs dropped.1).setSweep ((c1.s.setJobs dropped.1).sweep.jobRemoved j .supply) :=
      if_neg fun h => by simp [asksVerify] at h
    rw [← this]
    split <;> rfl
  obtain ⟨notes, hnotes⟩ := (c1.s.setJobs dropped.1).sweep.jobRemoved_supply j
  rw [hs, hnotes]
  exact ⟨rfl, fun _ => rfl⟩

theorem Ctx.removeAll_withdraws (c : Ctx) : Withdraws c.s c.removeAll.s := by
  unfold Ctx.removeAll
  induction c.s.jobIds generalizing c with
  | nil => exact .refl _
  | cons id ids ih => exact ((c.abortEntered_withdraws id).trans (Ctx.removeJob_withdraws _ id)).trans (ih _)

/-- Nothing follows a fall: the job table is empty and the sweep may issue nothing. -/
theorem Ctx.settle_fallen {c : Ctx} (hjobs : c.s.sched.jobs = []) (hexit : ∀ b, (c.s.hazardRec b).exit = none)
    (hsupply : c.s.pins.supplyGood = false) : c.settle settleFuel = { c with walkDue := false, issueDue := false } := by
  refine Ctx.settle_calm_rest ⟨hexit, by simp [hjobs]⟩ (fun _ => ?_) fun _ => by simp [State.mayIssue, hsupply]
  simp [State.queue, hjobs, Ctx.walkList]

/-- The first effects of a fall: the pins, the supply-fall mark, and the reset requested or under way. -/
def State.fallen (s : State) : State :=
  { s with pins := { s.pins with supplyGood := false }
           link := { s.link with supplyFall := true, requestReset := false }
           resets := { s.resets with drop := [] } }

/-- After the removals of a fall, which empty the job table, the drop of every relay ends the event. -/
theorem Ctx.fallen_ends {c : Ctx} {s : State} (hw : Withdraws s.fallen c.s) (hjobs : c.s.sched.jobs = [])
    (running : s.resets.active = false) (hexit : ∀ b, (s.hazardRec b).exit = none) :
    (c.upd State.dropAll).mayEndReset.settle settleFuel = { c with s := c.s.dropAll, walkDue := false, issueDue := false } := by
  have hactive : (c.upd State.dropAll).s.resets.active = false := by
    show c.s.resets.active = false
    rw [hw.resets]
    exact running
  have hend : (c.upd State.dropAll).mayEndReset = c.upd State.dropAll := by
    unfold Ctx.mayEndReset
    rw [if_neg fun h => absurd (hactive.symm.trans h.1) (by decide)]
  rw [hend]
  refine Ctx.settle_fallen (c := c.upd State.dropAll) hjobs (fun b => ?_) ?_
  · show (Table.get HazardRecord.initial c.s.hazards.records b.val).exit = none
    rw [hw.hazards]
    exact hexit b
  · show c.s.pins.supplyGood = false
    rw [hw.pins]
    rfl

/-- A fall of SUPPLY-GOOD in a running part: its removals, and the drop of every relay. -/
theorem event_supplyFalls {s : State} (hsupply : s.pins.supplyGood = true) (running : s.resets.active = false)
    (hexit : ∀ b, (s.hazardRec b).exit = none) :
    ∃ c : Ctx, c = ((Ctx.of s).upd State.fallen).removeAll ∧ Withdraws ({ s with port := [] } : State).fallen c.s.freeHeads ∧
      event Ctx.supplyFalls s = Ctx.finish { c with s := c.s.freeHeads.dropAll, walkDue := false, issueDue := false } := by
  obtain ⟨c, hc⟩ : ∃ c, c = ((Ctx.of s).upd State.fallen).removeAll := ⟨_, rfl⟩
  obtain ⟨u, hu⟩ : ∃ u, u = c.s.freeHeads := ⟨_, rfl⟩
  have hw : Withdraws ({ s with port := [] } : State).fallen u := by
    rw [hu, hc]
    have removed := Ctx.removeAll_withdraws ((Ctx.of s).upd State.fallen)
    exact removed.trans (State.freeHeads_withdraws _)
  have hjobs : u.sched.jobs = [] := by
    rw [hu, State.freeHeads_sched, hc]
    exact Ctx.removeAll_jobs _
  have hend := Ctx.fallen_ends (c := { c with s := u }) hw hjobs running hexit
  have hfall : (Ctx.of s).supplyFalls = ((c.upd fun s => s.freeHeads.dropAll).mayEndReset).settle settleFuel := by
    rw [Ctx.supplyFalls, if_neg (by simp [Ctx.of, hsupply]), hc]
    rfl
  refine ⟨c, hc, hu ▸ hw, ?_⟩
  rw [event, hfall, ← hu, ← hend, Ctx.upd, Ctx.upd, ← hu]

/-- The one job of the table, holding no head, is removed with its report. -/
theorem Ctx.removeAll_one {c : Ctx} {j : Job} (hjobs : c.s.sched.jobs = [j]) (hhead : j.head = none) (hout : c.out = []) :
    c.removeAll.out = [.late (jobResultReport c.s j .supply)] := by
  have hj : c.s.job? j.id = some j := by simp [State.job?, hjobs]
  have hids : c.s.jobIds = [j.id] := by simp [State.jobIds, hjobs, insertId]
  have habort : c.abortEntered j.id = c := by
    unfold Ctx.abortEntered
    simp only [hj, hhead]
  have hfree : c.freeJobHead j.id = c := by
    unfold Ctx.freeJobHead
    simp only [hj, hhead]
  unfold Ctx.removeAll
  rw [hids, List.foldl_cons, List.foldl_nil, habort]
  unfold Ctx.removeJob
  simp only [hj, hfree, Option.getD_some]
  split <;> simp [Ctx.walk, Ctx.issue, Ctx.upd, Ctx.put, Ctx.jobGone, hout]

/-- Settles O49: a fall's removals change nothing outside the tables it empties; a rise is a reset with nothing to drop. -/
theorem supplyFallEmptiesAndSupplyRiseResets : Obligations.SupplyFallEmptiesAndSupplyRiseResets := by
  refine ⟨fun s hsupply running hexit => ?fall, fun s hlaw hsupply running hpin hhazards hvalid => ?rise⟩
  case fall =>
    obtain ⟨c, hc, hw, hfall⟩ := event_supplyFalls hsupply running hexit
    have hjobs : c.s.freeHeads.sched.jobs = [] := by
      rw [State.freeHeads_sched, hc]
      exact Ctx.removeAll_jobs _
    have hheads (h : Head) : (c.s.freeHeads.headRec h).state = ((s.headRec h).state).freed := by
      rw [State.freeHeads_freed, hw.heads]
      rfl
    rw [show exec .supplyGoodFall s = .next (event Ctx.supplyFalls s) from rfl, hfall]
    refine ⟨⟨_, rfl, ?_⟩, fun j hone hhead => ⟨_, rfl, ?_⟩⟩
    · generalize c.s.freeHeads = u at hw hjobs hheads
      obtain ⟨x, y, q, n, hfinish⟩ := Ctx.finish_spec { c with s := u.dropAll, walkDue := false, issueDue := false }
      rw [hfinish]
      obtain ⟨pending, now, port, pins, resets, link, store, access, watches, hazards, sched, sweep, engine, lines, tickets⟩ := u
      obtain ⟨rfl, rfl, rfl, rfl, rfl, rfl, rfl, -, hwatches, rfl, hsched, hsweep, hengine, rfl, rfl⟩ := State.mk.inj hw.outside
      have hjobs : sched.jobs = [] := hjobs
      have sched_eq : sched = { s.sched with jobs := [] } :=
        (congrArg (fun l => { sched with jobs := l }) hjobs : _).trans hsched
      have watches_eq : ({ watches with records := [] } : Watches) = { s.watches with records := [] } := hwatches
      have sweep_eq : ({ sweep with notes := s.sweep.notes } : Sweep) = s.sweep :=
        congrArg (fun w : Sweep => { w with notes := s.sweep.notes }) hsweep
      have engine_eq : ({ engine with heads := s.engine.heads } : Engine) = s.engine :=
        congrArg (fun e : Engine => { e with heads := s.engine.heads }) hengine
      refine ⟨sched_eq, rfl, watches_eq, rfl, rfl, rfl, rfl, hheads, rfl, ?_⟩
      dsimp only [State.dropAll, State.fallen]
      rw [sweep_eq, engine_eq]
    · have hout : c.out = [.late (jobResultReport (Ctx.of s).s j .supply)] := by
        rw [hc, Ctx.removeAll_one (c := (Ctx.of s).upd State.fallen) hone hhead rfl]
        rfl
      have hlink : c.s.freeHeads.link = ({ s with port := [] } : State).fallen.link := hw.link
      have hresets : c.s.freeHeads.resets = ({ s with port := [] } : State).fallen.resets := hw.resets
      generalize c.s.freeHeads = u at hlink hresets
      unfold Ctx.finish State.tells
      rw [hout]
      refine (SameLink.raiseAll (s := u.dropAll) (t := { s with
        port := [], link := { s.link with supplyFall := true, requestReset := false } }) ⟨hlink, ?_, ?_⟩
        [jobResultReport (Ctx.of s).s j .supply]).pump_link
      · exact (congrArg Resets.active hresets : _)
      · exact (congrArg Resets.starting hresets : _)
  case rise =>
    let c1 : Ctx := (Ctx.of s).upd fun s => { s with pins := { s.pins with supplyGood := true } }
    have hline (b : Bus) : (c1.s.busRec b).line = none := by
      show (Table.get BusRecord.initial s.access.buses b.val).line = none
      rw [(hlaw hsupply).2]
      rfl
    obtain ⟨heads, hbegin, hread⟩ := Ctx.beginReset_ends (c := c1) .power running hline hpin hhazards hvalid
    have hrise : (Ctx.of s).supplyRises = c1.beginReset .power :=
      if_neg (show ¬(Ctx.of s).s.pins.supplyGood = true by rw [show (Ctx.of s).s.pins.supplyGood = false from hsupply]; decide)
    refine ⟨_, congrArg Host.Outcome.next (show event Ctx.supplyRises s = c1.s.restarted .power heads from ?_),
      rfl, rfl, rfl, rfl, rfl, rfl, rfl, rfl, rfl, rfl, rfl, rfl, rfl, rfl, hread, rfl⟩
    rw [event, hrise, hbegin]
    exact finish_restarted rfl rfl

end Sys2Proof.Machine
end

section
/-! PROOF. The arithmetic of a result (R154 to R159): each rounded quotient lies within half a unit of its value. -/

namespace Sys2Proof.Machine

/-- A quotient rounded to the nearest whole number. -/
theorem rounded_bounds {a d : Nat} (hd : 0 < d) :
    2 * ((2 * a + d) / (2 * d) * d) ≤ 2 * a + d ∧ 2 * a + d < 2 * (((2 * a + d) / (2 * d) + 1) * d) := by
  have low : (2 * a + d) / (2 * d) * (2 * d) ≤ 2 * a + d := Nat.div_mul_le_self _ _
  have high : 2 * a + d < 2 * d * ((2 * a + d) / (2 * d) + 1) := Nat.lt_mul_div_succ _ (by omega)
  generalize (2 * a + d) / (2 * d) = q at *
  constructor <;> linarith

/-! ## Foreign voltage (R154, R155) -/

/-- The magnitude of the DC voltage, in millivolts. -/
def dcMagnitude (k : Nat) (v : Int) : Nat := (10 * v.natAbs + k) / (2 * k)

theorem dcVoltage_of_nonneg {k : Nat} {v : Int} (h : 0 ≤ v) : dcVoltage k v = dcMagnitude k v := if_neg (by omega)
theorem dcVoltage_of_neg {k : Nat} {v : Int} (h : v < 0) : dcVoltage k v = -(dcMagnitude k v : Int) := if_pos h

theorem dcVoltage_natAbs (k : Nat) (v : Int) : (dcVoltage k v).natAbs = dcMagnitude k v := by
  rcases lt_or_ge v 0 with h | h
  · rw [dcVoltage_of_neg h, Int.natAbs_neg, Int.natAbs_natCast]
  · rw [dcVoltage_of_nonneg h, Int.natAbs_natCast]

theorem dcMagnitude_zero {k : Nat} (hk : 1 ≤ k) : dcMagnitude k 0 = 0 := Nat.div_eq_of_lt (by simp; omega)

theorem dcMagnitude_bounds {k : Nat} (hk : 1 ≤ k) (v : Int) :
    2 * (k * dcMagnitude k v) ≤ 10 * v.natAbs + k ∧ 10 * v.natAbs < 2 * (k * dcMagnitude k v) + k := by
  obtain ⟨low, high⟩ := rounded_bounds (a := 5 * v.natAbs) (d := k) hk
  rw [show 2 * (5 * v.natAbs) = 10 * v.natAbs by ring] at low high
  unfold dcMagnitude
  constructor <;> linarith

theorem acPeak_bounds {vMax vMin : Int} (h : vMin ≤ vMax) :
    2 * (acPeak vMax vMin : Int) ≤ 5 * (vMax - vMin) ∧ 5 * (vMax - vMin) < 2 * (acPeak vMax vMin : Int) + 2 := by
  unfold acPeak
  omega

/-- Settles O55: the magnitude is the rounded quotient, under the sign of the sum. -/
theorem foreignVoltageIsRounded : Obligations.ForeignVoltageIsRounded := by
  rintro st k x hkind rfl hk hspread rfl
  have hresult : computeResult st = ⟨.fv, st.leg, some .lo, { clip := st.acc.vClip.isSome },
      dcVoltage st.snapshot.samples st.acc.sumV, acPeak st.acc.vMax st.acc.vMin⟩ := by simp [computeResult, hkind]
  rw [hresult]
  dsimp only
  generalize st.snapshot.samples = k at *
  generalize st.acc.sumV = v
  obtain ⟨low, high⟩ := dcMagnitude_bounds hk v
  obtain ⟨peakLow, peakHigh⟩ := acPeak_bounds hspread
  refine ⟨dcVoltage_natAbs k v, ?_, ?_, ?_, peakLow, peakHigh, rfl, rfl, rfl⟩
  · intro hpos
    by_contra hv
    rcases lt_or_eq_of_le (not_lt.1 hv) with h | rfl
    · rw [dcVoltage_of_neg h] at hpos
      omega
    · rw [dcVoltage_of_nonneg le_rfl, dcMagnitude_zero hk] at hpos
      exact absurd hpos (lt_irrefl _)
  · intro hneg
    by_contra hv
    rw [dcVoltage_of_nonneg (not_lt.1 hv)] at hneg
    omega
  · zify at low high
    rcases lt_or_ge v 0 with h | h
    · rw [dcVoltage_of_neg h, mul_neg]
      rw [abs_of_neg h] at low high
      constructor <;> linarith
    · rw [dcVoltage_of_nonneg h]
      rw [abs_of_nonneg h] at low high
      constructor <;> linarith

/-! ## Resistance (R156, R157) -/

theorem oppositeSign_iff (v i : Int) : oppositeSign v i = true ↔ v * i < 0 := by
  simp [oppositeSign, mul_neg_iff]

/-- Settles O56: the cases of R156 in their order. -/
theorem resistanceByCases : Obligations.ResistanceByCases := by
  rintro st k n v i c x hkind rfl hk rfl rfl rfl rfl rfl
  have hresult : ∃ kind, computeResult st = ⟨kind, st.leg, some st.range, (resistance st.snapshot.samples st.range st.acc).2,
      (resistance st.snapshot.samples st.range st.acc).1, 0⟩ := by
    rcases hkind with h | h <;> exact ⟨_, by simp [computeResult, h]; rfl⟩
  obtain ⟨kind, hresult⟩ := hresult
  rw [hresult]
  dsimp only
  have hn : ohmsPerCount st.range = if st.range = .lo then 500000 else 5000 := by cases st.range <;> rfl
  unfold resistance
  simp only [oppositeSign_iff, ← hn]
  generalize st.snapshot.samples = k at *
  generalize st.acc.sumV = v
  generalize st.acc.sumI = i
  refine ⟨?_, ?_, ?_, fun hvi hi => ?_, trivial, trivial⟩
  · rintro rfl rfl
    simp [topOhms]
  · intro h
    rw [if_neg ?_, if_pos h]
    · simp
    · rintro ⟨rfl, rfl⟩
      simp at h
  · intro hv hvi hi
    rw [if_neg fun h => hv h.1, if_neg fun h => h.elim (not_lt.2 hvi) fun h => hv h.1, if_pos hi]
    simp [topOhms]
  · have hv : v ≠ 0 := by rintro rfl; simp at hvi
    have hi0 : 0 < i.natAbs := by omega
    rw [if_neg fun h => hv h.1, if_neg fun h => h.elim (not_lt.2 hvi.le) fun h => hv h.1, if_neg (not_lt.2 hi)]
    refine ⟨fun hrange hclip => ?_, fun hscale => ?_⟩
    · rw [if_pos ⟨hrange, hclip⟩]
      simp
    · have hin : ¬(st.range = .hi ∧ st.acc.iClip = true) := by
        rintro ⟨hrange, hclip⟩
        rcases hscale with h | h <;> simp_all
      rw [if_neg hin]
      obtain ⟨low, high⟩ := rounded_bounds (a := ohmsPerCount st.range * v.natAbs) hi0
      have hr : roundedOhms (ohmsPerCount st.range) v i =
          (2 * (ohmsPerCount st.range * v.natAbs) + i.natAbs) / (2 * i.natAbs) := by rw [roundedOhms, mul_assoc]
      rw [← hr] at low high
      refine ⟨roundedOhms (ohmsPerCount st.range) v i, low, high, fun h => ?_, fun h => ?_⟩
      · rw [if_neg (show ¬topOhms < _ from not_lt.2 h)]
        exact ⟨rfl, rfl⟩
      · rw [if_pos (show topOhms < _ from h)]
        exact ⟨rfl, rfl⟩

/-! ## Capacitance and distance (R158, R159) -/

/-- The cases of R158 for an effective count and a rise of v. -/
theorem capacitance_cases {k t : Nat} {a : Accumulators} {keff : Nat} {dv : Int} (hkeff : a.vClip.getD k = keff)
    (hdv : 2 ≤ keff → (if a.vClip.isSome = true then a.vBefore.getD 0 else a.vLast) - a.vFirst = dv) :
    capacitance k t a =
      if keff < 2 then (0, { underRange := true, clip := true })
      else if dv ≤ 4 then (topWord, { overRange := true, clip := a.vClip.isSome })
      else if topWord < roundedCap k keff t a.sumI dv.toNat then (topWord, { overRange := true, clip := a.vClip.isSome })
      else (roundedCap k keff t a.sumI dv.toNat, { clip := a.vClip.isSome }) := by
  unfold capacitance
  dsimp only
  rw [hkeff]
  by_cases h : keff < 2
  · rw [if_pos h, if_pos h]
  · rw [if_neg h, if_neg h, hdv (by omega)]

/-- Settles O57: the cases of R158 in their order, and the rounded distance. -/
theorem capacitanceByCases : Obligations.CapacitanceByCases := by
  refine ⟨?_, fun c m hm => ?_⟩
  · rintro st k keff t dv c x hkind rfl hk rfl hclip rfl
    have hresult : computeResult st = ⟨.cap, st.leg, some .lo,
        (capacitance st.snapshot.samples st.snapshot.interval st.acc).2,
        (capacitance st.snapshot.samples st.snapshot.interval st.acc).1, 0⟩ := by simp [computeResult, hkind]
    have hkeff : st.acc.vClip.getD st.snapshot.samples = keff := by
      rcases hclip with ⟨h, rfl, -, -⟩ | ⟨h, -, -⟩ <;> simp [h]
    have hdv : 2 ≤ keff → (if st.acc.vClip.isSome = true then st.acc.vBefore.getD 0 else st.acc.vLast) - st.acc.vFirst = dv := by
      rcases hclip with ⟨h, -, rfl, -⟩ | ⟨h, -, hzero | ⟨y, hy, rfl⟩⟩
      · simp [h]
      · omega
      · simp [h, hy]
    obtain rfl : c = st.acc.vClip.isSome := by
      rcases hclip with ⟨h, -, -, rfl⟩ | ⟨h, rfl, -⟩ <;> simp [h]
    rw [hresult, capacitance_cases hkeff hdv]
    dsimp only
    refine ⟨fun h => ?_, fun h hlow => ?_, fun h hhigh =>
      ⟨roundedCap st.snapshot.samples keff st.snapshot.interval st.acc.sumI dv.toNat, rfl, ?_⟩⟩
    · rw [if_pos h]
      exact ⟨rfl, rfl⟩
    · rw [if_neg (by omega), if_pos hlow]
      exact ⟨rfl, rfl⟩
    · rw [if_neg (by omega), if_neg (by omega)]
      refine ⟨fun hq => ?_, fun hq => ?_⟩
      · rw [if_neg (show ¬topWord < _ from not_lt.2 hq)]
        exact ⟨rfl, rfl⟩
      · rw [if_pos (show topWord < _ from hq)]
        exact ⟨rfl, rfl⟩
  · obtain ⟨low, high⟩ := rounded_bounds (a := 100 * c) hm
    have hdistance : openDistance c m = min 65535 ((2 * (100 * c) + m) / (2 * m)) := by rw [openDistance, topWord, mul_assoc 2 100]
    rw [hdistance]
    generalize (2 * (100 * c) + m) / (2 * m) = q at *
    refine ⟨min_le_left _ _, fun h => ?_, fun h => ?_⟩
    · rw [min_eq_right (by omega)]
      constructor <;> linarith
    · have : 65535 * m ≤ q * m := Nat.mul_le_mul_right m (by omega)
      linarith

end Sys2Proof.Machine
end

section
/-! SUPPORT. An event about one job on one bus that nothing follows: its end, its JOB-STATE, and the bus transitions that
cut, release and park. -/

namespace Sys2Proof.Machine

/-! ## The end of the event -/

section Ends
variable {s t : State} {c : Ctx} {rs : List Report}

/-- An event that comes to rest after its own effects. -/
theorem settled_tells {f : Ctx → Ctx} (hf : f (Ctx.of s) = c)
    (rest : c.settle settleFuel = { c with walkDue := false, issueDue := false }) (hs : c.s = { t with port := [] })
    (hr : (ordered c.out).filterMap (OutItem.report c.s) = rs) : settled f s = t.tells rs := by
  have hcalm : (f (Ctx.of s)).settle settleFuel = { c with walkDue := false, issueDue := false } := by rw [hf, rest]
  refine event_telling (f := fun c => (f c).settle settleFuel) ?_ ?_
  · rw [hcalm]; exact hs
  · rw [hcalm]; exact hr

/-- A request whose event comes to rest after its own effects. -/
theorem requestFrame_tells {tag : Byte} {a : AckBody} {g : State → AckBody} (h : Ready s tag) (code : Byte)
    {lengthOk : List Byte → Bool} {owner : List Byte → Ctx → Served} {body : List Byte} (hl : lengthOk body = true)
    (ho : owner body s.served = .done (c.settle settleFuel) g)
    (rest : c.settle settleFuel = { c with walkDue := false, issueDue := false })
    (hs : c.s = ({ t with port := [] } : State).hunt) (ha : g c.s = a)
    (hr : (ordered c.out).filterMap (OutItem.report c.s) = rs) :
    requestFrame code lengthOk owner tag body s = t.acksTelling code tag a rs := by
  rw [rest] at ho
  exact requestFrame_telling h code hl ho hs ha hr

/-- The one JOB-STATE of an event. -/
theorem report_jobState {id : Nat} {j : Job} {n : JobNote} {re : Bool} (hj : s.job? id = some j) :
    (ordered [.jobState id n re]).filterMap (OutItem.report s) = [jobStateReport s j n re] := by
  simp [ordered, OutItem.report, hj]

/-- The ACK of a request on a job that is still in the table. -/
theorem jobAck_found {j k : Job} (hk : s.job? j.id = some k) (horder : k.queueOrder = j.queueOrder) :
    jobAck j s = .job j.id (some k.state) := by
  simp [jobAck, hk, horder]

theorem Ctx.jobChanged_first (hout : c.out = []) (id : Nat) (n : JobNote) (re : Bool) :
    c.jobChanged id n re = { c with out := [.jobState id n re] } := by
  simp [Ctx.jobChanged, hout, noteSoFar]

/-- A change of one job after which it does not wait for a head. -/
theorem Calm.updJob (h : Calm s) {id : Nat} {f : Job → Job} (hf : ∀ j ∈ s.sched.jobs, j.id = id → (f j).state ≠ .waitHead) :
    Calm (s.updJob id f) := by
  refine ⟨h.exits, fun j hj => ?_⟩
  obtain ⟨k, hk, rfl⟩ := List.mem_map.1 hj
  split
  next hid => exact hf k hk hid
  · exact h.heads k hk

/-- The job that was found, after a change of it. -/
theorem State.job?_changed {id : Nat} {j : Job} {f : Job → Job} (hj : s.job? id = some j) (hf : ∀ k, (f k).id = k.id) :
    (s.updJob id f).job? id = some (f j) := by
  rw [State.job?_updJob_same hf, hj]
  rfl

/-- Calm is a matter of the hazard records and the job table. -/
theorem Calm.congr (h : Calm s) (hazards : t.hazards = s.hazards) (sched : t.sched = s.sched) : Calm t :=
  ⟨fun b => by rw [State.hazardRec, hazards]; exact h.exits b, by rw [sched]; exact h.heads⟩

/-- An event that asks for no walk and no issue attempt, with no exit due and no head to hand. -/
theorem Ctx.settle_quiet (exits : ∀ b, (c.s.hazardRec b).exit = none) (heads : c.s.nextHandout? = none)
    (walk : c.walkDue = false) (issue : c.issueDue = false) :
    c.settle settleFuel = { c with walkDue := false, issueDue := false } :=
  Ctx.settle_rest (State.dueExit_none exits) heads (fun h => by simp [walk] at h) fun h => by simp [issue] at h

/-- In a calm state an event that asks for neither a walk nor an issue attempt comes to rest. -/
theorem Ctx.settle_calm_quiet (h : Calm c.s) (walk : c.walkDue = false) (issue : c.issueDue = false) :
    c.settle settleFuel = { c with walkDue := false, issueDue := false } :=
  Ctx.settle_calm_rest h (fun h => by simp [walk] at h) fun h => by simp [issue] at h

end Ends

/-! ## The watch record across a transition (R61, R62, R65) -/

section Across
variable {raw : Bool} {now : Moment} {old new : AccessState} {w : WatchRecord}

theorem WatchRecord.across_leavesPath (hold : (sensePath old).isSome = true) (hnew : sensePath new = none) (hidle : new ≠ .idle) :
    w.across raw now old new = { w with timer := none, guard := none } := by
  have hdiffer : sensePath old ≠ sensePath new := by rw [hnew]; exact Option.isSome_iff_ne_none.1 hold
  have hguard : new ≠ .guard := by rintro rfl; cases hnew
  have hpath : ¬(sensePath new).isSome = true := by simp [hnew]
  unfold WatchRecord.across
  rw [if_neg hidle, if_neg hguard, if_neg hdiffer, if_neg hpath]

theorem WatchRecord.across_offPath (hold : sensePath old = none) (hnew : sensePath new = none) (hidle : new ≠ .idle) :
    w.across raw now old new = { w with guard := none } := by
  have hguard : new ≠ .guard := by rintro rfl; cases hnew
  simp [WatchRecord.across, hidle, hold, hnew, hguard]

theorem WatchRecord.across_idle (hold : old ≠ .idle) : w.across raw now old .idle = WatchRecord.initial := by
  simp [WatchRecord.across, hold]

end Across

/-! ## Cut, release and park (R46, R51, R52, R55) -/

section Transitions
variable {s : State} {b : Bus} {line : Nat}

theorem State.detachSpeech_none (h : (s.busRec b).speech = none) : s.detachSpeech b = s := if_neg (by simp [h])
theorem State.detachHead_none (h : (s.busRec b).head = none) : s.detachHead b = s := if_neg (by simp [h])

/-- A forced cut from monitor with no speech (R46). -/
theorem State.cutFromMonitor_forced (access : (s.busRec b).access = .monitor) (hline : (s.busRec b).line = some line)
    (speech : (s.busRec b).speech = none) :
    s.cutFromMonitor true b =
      ((s.setRelays line { s.relaysOf line with bridge := false, cutOpen := true }).setBusRec b
        { s.busRec b with access := .cutting, interval := some (s.connectTaken line) }).setWatchRec b
        { s.watchRec b with timer := none, guard := none } := by
  have hwatch (raw : Bool) (w : WatchRecord) :
      w.across raw s.now (s.busRec b).access .cutting = { w with timer := none, guard := none } := by
    rw [access]; exact WatchRecord.across_leavesPath rfl rfl (by decide)
  unfold State.cutFromMonitor
  rw [State.detachSpeech_none speech]
  simp only [if_true, State.connectOf, hline, Option.map_some, State.moveRelays, State.putBus]
  exact congrArg _ (hwatch _ _)

/-- A release of a CONNECTED bus with no speech and no head (R51). -/
theorem State.releaseBus_connected (access : (s.busRec b).access = .connected) (hline : (s.busRec b).line = some line)
    (speech : (s.busRec b).speech = none) (head : (s.busRec b).head = none) (reserve : Bool) :
    s.releaseBus reserve b =
      ((s.setRelays line { s.relaysOf line with testPath := false }).setBusRec b { s.busRec b with
        access := .releasing, func := .none, interval := some (s.restoreTaken line), reserveMark := reserve }).setWatchRec b
        { s.watchRec b with timer := none, guard := none } := by
  have hwatch (raw : Bool) (w : WatchRecord) :
      w.across raw s.now (s.busRec b).access .releasing = { w with timer := none, guard := none } := by
    rw [access]; exact WatchRecord.across_leavesPath rfl rfl (by decide)
  unfold State.releaseBus
  rw [access]
  dsimp only
  rw [State.detachSpeech_none speech, State.detachHead_none head]
  simp only [State.restoreOf, hline, Option.map_some, State.moveRelays, State.putBus]
  exact congrArg _ (hwatch _ _)

/-- A release of a PARKED bus (R52). -/
theorem State.releaseBus_parked (access : (s.busRec b).access = .parked) (hline : (s.busRec b).line = some line) (reserve : Bool) :
    s.releaseBus reserve b =
      (s.setBusRec b { s.busRec b with
        access := .releasing, interval := some (s.restoreTaken line), reserveMark := reserve }).setWatchRec b
        { s.watchRec b with guard := none } := by
  have hwatch (raw : Bool) (w : WatchRecord) :
      w.across raw s.now (s.busRec b).access .releasing = { w with guard := none } := by
    rw [access]; exact WatchRecord.across_offPath rfl rfl (by decide)
  unfold State.releaseBus
  rw [access]
  dsimp only
  simp only [State.restoreOf, hline, Option.map_some, State.putBus]
  exact congrArg _ (hwatch _ _)

end Transitions

/-! ## A job asks for its release (R94, R108) -/

/-- The record of a job in RELEASING with its outcome to be (R94). -/
def Job.released (o : JobOutcome) (j : Job) : Job :=
  { j with state := .releasing, outcome := some o, holdLimit := none, hazardHold := none, suspendedFrom := none }

/-- A job without a head that owns a bus asks for its release. -/
theorem Ctx.askRelease_holds {c : Ctx} {id : Nat} {o : JobOutcome} {note : JobNote} {j : Job} {b : Bus} (hj : c.s.job? id = some j)
    (hstate : j.state ≠ .measuring) (hhead : j.head = none) (hb : j.bus = some b) (howner : (c.s.busRec b).owner = some id)
    (hidle : (((c.s.updJob id (Job.released o)).releaseBus false b).busRec b).access ≠ .idle) :
    c.askRelease id o note = (c.jobChanged id note).upd fun s => (s.updJob id (Job.released o)).releaseBus false b := by
  have hfree : c.freeJobHead id = c := by
    unfold Ctx.freeJobHead
    simp only [hj, hhead]
  unfold Ctx.askRelease
  simp only [hj, if_neg hstate, hb, hfree]
  refine (if_pos howner).trans (if_neg hidle)

/-! ## A job enters WAIT-HEAD (R102) -/

/-- The record of a job that has entered WAIT-HEAD. -/
def Job.waiting (order : Nat) (time : BitVec 32) (j : Job) : Job :=
  { j with state := .waitHead, waitOrder := order, waitTime := time, holdLimit := none, hazardHold := none }

/-- The state in which a job has entered WAIT-HEAD, taking a new wait-head order. -/
def State.waits (s : State) (id : Nat) : State :=
  ({ s with sched := { s.sched with nextWait := s.sched.nextWait + 1 } } : State).updJob id
    (Job.waiting s.sched.nextWait s.link.time)

theorem State.job?_waits {s : State} {id : Nat} {j : Job} (hj : s.job? id = some j) :
    (s.waits id).job? id = some (j.waiting s.sched.nextWait s.link.time) :=
  State.job?_changed (s := { s with sched := { s.sched with nextWait := s.sched.nextWait + 1 } }) hj fun _ => rfl

/-- A job that is not URGENT preempts no head. -/
theorem Ctx.enterWaitHead_notUrgent {c : Ctx} {id : Nat} {j : Job} (note : JobNote) (hj : c.s.job? id = some j)
    (hprio : j.priority ≠ .urgent) : c.enterWaitHead id note = (c.upd fun s => s.waits id).jobChanged id note := by
  have hfound : ((c.upd fun s => s.waits id).jobChanged id note).s.job? id = some (j.waiting c.s.sched.nextWait c.s.link.time) :=
    State.job?_waits hj
  show ((c.upd fun s => s.waits id).jobChanged id note).preemptHead id = _
  unfold Ctx.preemptHead
  simp only [hfound]
  exact if_neg fun h => hprio h.1

end Sys2Proof.Machine
end

section
/-! PROOF. CUT, RETEST, RELEASE and JOB-CANCEL, and the deadlines of a job (R46, R51, R52, R88, R105, R107, R108, R110). -/

namespace Sys2Proof.Machine

/-! ## The forced CUT -/

/-- The record of a job after a forced CUT (R105). -/
def Job.cutForced (j : Job) : Job := { j with kept := .forced, holdLimit := none, state := .accessing }

theorem Ctx.cutJob_forced {c : Ctx} (id : Nat) (b : Bus) (hout : c.out = []) :
    c.cutJob id b true =
      { c with s := (c.s.updJob id Job.cutForced).cutFromMonitor true b
               out := [.jobState id (forcedNote (c.s.watchRec b).loop) false] } := by
  unfold Ctx.cutJob
  simp only [if_true]
  exact Ctx.jobChanged_first (c := c.upd _) hout _ _ _

/-- Settles O29: one transition of the bus and one change of the job. -/
theorem forcedCutOpensTheLine : Obligations.ForcedCutOpensTheLine := by
  intro s tag id line d j b r hr hcalm h1 h255 hj hstate hb hrec haccess hline hspeech hd
  subst hrec hd
  have hnamed : s.served.s.namedJob (byteAt [byteOf id, 1#8] 0) = .ok j := State.namedJob_byte h1 h255 hj
  obtain rfl : j.id = id := State.job?_id hj
  let c : Ctx := { s.served with
    s := (s.served.s.updJob j.id Job.cutForced).cutFromMonitor true b
    out := [.jobState j.id (forcedNote (s.watchRec b).loop) false] }
  have hcut : c.s = (((s.served.s.updJob j.id Job.cutForced).setRelays line
        { s.relaysOf line with bridge := false, cutOpen := true }).setBusRec b
        { s.busRec b with access := .cutting, interval := some (s.connectTaken line) }).setWatchRec b
        { s.watchRec b with timer := none, guard := none } :=
    State.cutFromMonitor_forced (s := s.served.s.updJob j.id Job.cutForced) haccess hline hspeech
  have howner : ownerCut [byteOf j.id, 1#8] s.served = .done (c.settle settleFuel) (jobAck j) := by
    have hbus : (s.served.s.busRec b).access = .monitor := haccess
    rw [ownerCut, hnamed]
    simp only [hstate, hb, hbus]
    exact congrArg (fun c => Served.done (Ctx.settle settleFuel c) (jobAck j)) (Ctx.cutJob_forced j.id b rfl)
  have hjob : c.s.job? j.id = some j.cutForced := by
    rw [hcut]
    exact State.job?_changed (s := s) hj fun _ => rfl
  have hrest : Calm c.s := by
    rw [hcut]
    exact (hcalm.updJob (id := j.id) (f := Job.cutForced) fun _ _ _ => by simp [Job.cutForced]).congr rfl rfl
  refine congrArg Host.Outcome.next (requestFrame_tells hr 0x29#8 rfl howner (Ctx.settle_calm_quiet hrest rfl rfl) hcut ?_ ?_)
  · exact jobAck_found hjob rfl
  · rw [report_jobState hjob, hcut]
    cases hloop : (s.watchRec b).loop <;> simp [jobStateReport, Job.cutForced, forcedNote, hb] <;> rfl

/-! ## RETEST -/

/-- The record of a job whose recipe a RETEST has replaced (R107). -/
def Job.replaced (r : List RecipeStep) (j : Job) : Job :=
  { j with recipe := r, results := [], step := 0, verdict := none, holdLimit := none, access := retestAccess j }

theorem goodRecipe {r : List RecipeStep} (hlow : 1 ≤ r.length) (hhigh : r.length ≤ 8)
    (hlegs : ∀ st ∈ r, st.kind = .lr ∨ st.kind = .cap → st.leg = .ab) : badRecipe .guarded r = false := by
  have hfit : r.all legFits = true := by
    refine List.all_eq_true.2 fun st hst => ?_
    have := hlegs st hst
    unfold legFits
    split <;> simp_all
  have hne : r ≠ [] := by rintro rfl; simp at hlow
  simp [badRecipe, hfit, hne, hhigh]

/-- Settles O31: the job takes its new recipe and waits for a head, which none is there to hand. -/
theorem retestReplacesTheRecipe : Obligations.RetestReplacesTheRecipe := by
  intro s tag id j r hr hcalm h1 h255 hj hstate hprio hspeech hheads hlow hhigh hlegs
  have hnamed : s.served.s.namedJob (byteAt (byteOf id :: recipeBytes r) 0) = .ok j := State.namedJob_byte h1 h255 hj
  obtain rfl : j.id = id := State.job?_id hj
  let c1 : Ctx := s.served.upd fun s => s.updJob j.id (Job.replaced r)
  let c : Ctx := { s.served with s := c1.s.waits j.id, out := [.jobState j.id .none false] }
  have hdetach : (match j.bus with | some b => s.served.s.detachSpeech b | none => s.served.s) = s.served.s := by
    cases hb : j.bus with
    | none => rfl
    | some b => exact State.detachSpeech_none (s := s.served.s) (hspeech b hb)
  have hreplaced : c1.s.job? j.id = some (j.replaced r) := State.job?_changed (s := s) hj fun _ => rfl
  have hretest : s.served.retestJob j r = c := by
    have h : s.served.retestJob j r = c1.enterWaitHead j.id .none :=
      congrArg (fun t : State => ({ s.served with s := t.updJob j.id (Job.replaced r) } : Ctx).enterWaitHead j.id .none) hdetach
    rw [h, Ctx.enterWaitHead_notUrgent .none hreplaced hprio]
    exact Ctx.jobChanged_first (c := c1.upd fun s => s.waits j.id) rfl _ _ _
  have howner : ownerRetest (byteOf j.id :: recipeBytes r) s.served = .done (c.settle settleFuel) (jobAck j) := by
    have hrecipe : readRecipe 1 (byteOf j.id :: recipeBytes r) = some r :=
      readRecipe_bytes (pre := [byteOf j.id]) (by omega) rfl
    rw [ownerRetest, hnamed]
    simp only [hrecipe, hstate, goodRecipe hlow hhigh hlegs, ← hretest]
    rfl
  have hleft : c.s = ({ s.served.s with sched := { s.sched with nextWait := s.sched.nextWait + 1 } } : State).updJob j.id fun k =>
      { k with
        recipe := r, results := [], step := 0, verdict := none, holdLimit := none, hazardHold := none, state := .waitHead
        access := if k.access = AccessMode.monitorOnly then k.kept else k.access
        waitOrder := s.sched.nextWait, waitTime := s.link.time } :=
    State.updJob_updJob (s := { s.served.s with sched := { s.sched with nextWait := s.sched.nextWait + 1 } }) fun _ => rfl
  have hjob : c.s.job? j.id = some ((j.replaced r).waiting s.sched.nextWait s.link.time) := State.job?_waits hreplaced
  have hrest : c.settle settleFuel = { c with walkDue := false, issueDue := false } :=
    Ctx.settle_quiet hcalm.exits (State.nextHandout_none hheads) rfl rfl
  refine congrArg Host.Outcome.next (requestFrame_tells hr 0x2C#8 (lengthRecipe_bytes (pre := [byteOf j.id]) (by omega) rfl)
    howner hrest hleft ?_ ?_)
  · exact jobAck_found hjob rfl
  · rw [report_jobState hjob]
    simp [jobStateReport, Job.waiting, Job.replaced]
    rfl

/-! ## RELEASE, JOB-CANCEL and the deadlines -/

/-- A job without a head asks for the release of its CONNECTED bus. -/
theorem askRelease_connected {c : Ctx} {id line : Nat} {o : JobOutcome} {j : Job} {b : Bus} (hj : c.s.job? id = some j)
    (hstate : j.state ≠ .measuring) (hhead : j.head = none) (hb : j.bus = some b) (howner : (c.s.busRec b).owner = some id)
    (haccess : (c.s.busRec b).access = .connected) (hline : (c.s.busRec b).line = some line)
    (hspeech : (c.s.busRec b).speech = none) (hbushead : (c.s.busRec b).head = none) (hout : c.out = []) :
    c.askRelease id o = { c with
      s := (((c.s.updJob id (Job.released o)).setRelays line { c.s.relaysOf line with testPath := false }).setBusRec b
        { c.s.busRec b with
          access := .releasing, func := .none, interval := some (c.s.restoreTaken line), reserveMark := false }).setWatchRec b
        { c.s.watchRec b with timer := none, guard := none }
      out := [.jobState id .none false] } := by
  have hrel := State.releaseBus_connected (s := c.s.updJob id (Job.released o)) haccess hline hspeech hbushead false
  rw [Ctx.askRelease_holds hj hstate hhead hb howner ?_, Ctx.jobChanged_first hout]
  · exact congrArg (fun s => ({ c with s := s, out := [.jobState id .none false] } : Ctx)) hrel
  · rw [hrel]
    simp

/-- A job without a head asks for the release of its PARKED bus. -/
theorem askRelease_parked {c : Ctx} {id line : Nat} {o : JobOutcome} {j : Job} {b : Bus} (hj : c.s.job? id = some j)
    (hstate : j.state ≠ .measuring) (hhead : j.head = none) (hb : j.bus = some b) (howner : (c.s.busRec b).owner = some id)
    (haccess : (c.s.busRec b).access = .parked) (hline : (c.s.busRec b).line = some line) (hout : c.out = []) :
    c.askRelease id o = { c with
      s := ((c.s.updJob id (Job.released o)).setBusRec b { c.s.busRec b with
          access := .releasing, interval := some (c.s.restoreTaken line), reserveMark := false }).setWatchRec b
        { c.s.watchRec b with guard := none }
      out := [.jobState id .none false] } := by
  have hrel := State.releaseBus_parked (s := c.s.updJob id (Job.released o)) haccess hline false
  rw [Ctx.askRelease_holds hj hstate hhead hb howner ?_, Ctx.jobChanged_first hout]
  · exact congrArg (fun s => ({ c with s := s, out := [.jobState id .none false] } : Ctx)) hrel
  · rw [hrel]
    simp

/-- The JOB-STATE of a job that has asked for its release. -/
theorem jobStateReport_released {s : State} {j : Job} {o : JobOutcome} {b : Bus} (hb : j.bus = some b) (hhead : j.head = none) :
    jobStateReport s (j.released o) .none false = .jobState ⟨j.id, j.source, j.line, .releasing, some b, none, j.step, .none,
      j.losses, none, s.link.time⟩ := by
  simp [jobStateReport, Job.released, hb, hhead]

/-- Settles O32: the release of the bus and the change of the job. -/
theorem jobsAreReleasedByRequestAndByDeadline : Obligations.JobsAreReleasedByRequestAndByDeadline := by
  refine ⟨?request, ?deadline⟩
  case request =>
    intro s tag id line d j b r s' hr hcalm h1 h255 hj hstate hb hhead hrec haccess hown hline hspeech hbushead hd hs' rep hrep
    subst hrec hd hrep
    obtain rfl : j.id = id := State.job?_id hj
    have hnamed : s.served.s.namedJob (byteAt [byteOf j.id] 0) = .ok j := State.namedJob_byte h1 h255 hj
    have hleft := askRelease_connected (c := s.served) (o := .cancelled) hj (by simp [hstate]) hhead hb hown haccess hline hspeech
      hbushead rfl
    have howner : ownerCancel [byteOf j.id] s.served =
        .done ((s.served.askRelease j.id .cancelled).settle settleFuel) (jobAck j) := by
      rw [ownerCancel, hnamed]
      simp only [Ctx.cancelJob, hstate]
    rw [hleft] at howner
    have hjob : (s.updJob j.id (Job.released .cancelled)).job? j.id = some (j.released .cancelled) :=
      State.job?_changed hj fun _ => rfl
    have hrest : Calm (s.updJob j.id (Job.released .cancelled)) := hcalm.updJob fun _ _ _ => by simp [Job.released]
    have answers (code : Byte) : requestFrame code (lengthIs 1) ownerCancel tag [byteOf j.id] s =
        s'.acksTelling code tag (.job j.id (some .releasing))
          [.jobState ⟨j.id, j.source, j.line, .releasing, some b, none, j.step, .none, j.losses, none, s.link.time⟩] := by
      refine requestFrame_tells hr code rfl howner (Ctx.settle_calm_quiet (hrest.congr rfl rfl) rfl rfl) (by rw [hs']; rfl) ?_ ?_
      · exact jobAck_found (k := j.released .cancelled) hjob rfl
      · refine (report_jobState (j := j.released .cancelled) hjob).trans ?_
        rw [jobStateReport_released hb hhead]
        rfl
    exact ⟨congrArg Host.Outcome.next (answers 0x2D#8), congrArg Host.Outcome.next (answers 0x2E#8)⟩
  case deadline =>
    intro s id line d j b r m n after rep hcalm hj hb hhead hrec hown hline hspeech hbushead hn hd hafter hrep
    subst hrec hd hrep hn
    obtain rfl : j.id = id := State.job?_id hj
    let c : Ctx := (Ctx.of s).upd fun s => s.reach m
    have hjob (o : JobOutcome) : (s.updJob j.id (Job.released o)).job? j.id = some (j.released o) :=
      State.job?_changed hj fun _ => rfl
    have hrest (o : JobOutcome) : Calm (s.updJob j.id (Job.released o)) := hcalm.updJob fun _ _ _ => by simp [Job.released]
    refine ⟨fun hstate hlimit haccess => ?_, fun hstate hhold haccess hfunc => ?_⟩ <;> refine congrArg Host.Outcome.next ?_
    · have hleft := askRelease_connected (c := c) (o := .timeout) hj (by simp [hstate]) hhead hb hown haccess hline hspeech
        hbushead rfl
      have hends : (Ctx.of s).holdLimitEnds j.id = c.askRelease j.id .timeout := by
        have hfound : (Ctx.of s).s.job? j.id = some j := hj
        unfold Ctx.holdLimitEnds
        simp only [hfound, hlimit]
        rfl
      refine settled_tells (hends.trans hleft) (Ctx.settle_calm_quiet ((hrest .timeout).congr rfl rfl) rfl rfl)
        (by rw [hafter]; rfl) ?_
      refine (report_jobState (j := j.released .timeout) (hjob _)).trans ?_
      rw [jobStateReport_released hb hhead]
      rfl
    · have hleft := askRelease_parked (c := c) (o := .hazardFail) hj (by simp [hstate]) hhead hb hown haccess hline rfl
      have hends : (Ctx.of s).hazardHoldEnds j.id = c.askRelease j.id .hazardFail := by
        have hfound : (Ctx.of s).s.job? j.id = some j := hj
        unfold Ctx.hazardHoldEnds
        simp only [hfound, hstate, hhold]
        rfl
      refine settled_tells (hends.trans hleft) (Ctx.settle_calm_quiet ((hrest .hazardFail).congr rfl rfl) rfl rfl)
        (by rw [hafter, ← hfunc]; rfl) ?_
      refine (report_jobState (j := j.released .hazardFail) (hjob _)).trans ?_
      rw [jobStateReport_released hb hhead]
      rfl

end Sys2Proof.Machine
end

section
/-! PROOF. The heads: presence, acceptance, loss, frames, triggers and sample pairs (R102, R104, R134 to R147). -/

namespace Sys2Proof

/-! ## A key written twice -/

section Table
variable {α : Type}

theorem Table.erase_erase (t : Table α) (k : Nat) : Table.erase (Table.erase t k) k = Table.erase t k := by
  induction t with
  | nil => rfl
  | cons p t ih =>
    obtain ⟨k', v⟩ := p
    by_cases h : k' = k <;> simp [Table.erase, h, ih]

theorem Table.erase_insert (t : Table α) (k : Nat) (v : α) : Table.erase (Table.insert t k v) k = Table.erase t k := by
  induction t with
  | nil => simp [Table.insert, Table.erase]
  | cons p t ih =>
    obtain ⟨k', v'⟩ := p
    by_cases hlt : k < k'
    · simp [Table.insert, hlt, Table.erase]
    · by_cases h : k' = k <;> simp [Table.insert, hlt, Table.erase, h, ih]

/-- The last write of a key stands. -/
theorem Table.set_set [DecidableEq α] (d : α) (t : Table α) (k : Nat) (v w : α) :
    Table.set d (Table.set d t k v) k w = Table.set d t k w := by
  have herase : Table.erase (Table.set d t k v) k = Table.erase t k := by
    unfold Table.set
    split
    · exact Table.erase_erase t k
    · rw [Table.erase_insert, Table.erase_erase]
  have hset : Table.set d (Table.set d t k v) k w = if w = d then Table.erase (Table.set d t k v) k
    else Table.insert (Table.erase (Table.set d t k v) k) k w := rfl
  rw [hset, herase]
  rfl

end Table

end Sys2Proof

namespace Sys2Proof.Machine

section
variable {s t : State}

theorem State.setHeadRec_setHeadRec (h : Head) (r r' : HeadRecord) :
    (s.setHeadRec h r).setHeadRec h r' = s.setHeadRec h r' :=
  congrArg (fun x => { s with engine := { s.engine with heads := x } }) (Table.set_set _ _ _ _ _)

theorem State.setBusRec_setBusRec (b : Bus) (r r' : BusRecord) : (s.setBusRec b r).setBusRec b r' = s.setBusRec b r' :=
  congrArg (fun x => { s with access := { s.access with buses := x } }) (Table.set_set _ _ _ _ _)

theorem State.setWatchRec_setWatchRec (b : Bus) (r r' : WatchRecord) : (s.setWatchRec b r).setWatchRec b r' = s.setWatchRec b r' :=
  congrArg (fun x => { s with watches := { s.watches with records := x } }) (Table.set_set _ _ _ _ _)

/-! ## Messages sent in an event -/

theorem State.raise_sending (s : State) (r : Report) (p : List PortMessage) :
    { s.raise r with port := p } = ({ s with port := p } : State).raise r := by
  unfold State.raise
  split <;> split <;> first | rfl | contradiction

theorem State.raiseAll_sending (rs : List Report) (s : State) (p : List PortMessage) :
    { rs.foldl State.raise s with port := p } = rs.foldl State.raise { s with port := p } := by
  induction rs generalizing s with
  | nil => rfl
  | cons r rs ih => rw [List.foldl_cons, ih, State.raise_sending]; rfl

theorem State.pump_sending (s : State) (p : List PortMessage) :
    { s.pump with port := p } = ({ s with port := p } : State).pump := by
  unfold State.pump
  dsimp only
  (repeat' split) <;> rfl

/-- The end of an event that has sent these messages. -/
theorem State.tells_sending (t : State) (rs : List Report) (p : List PortMessage) :
    { t.tells rs with port := p } = (rs.foldl State.raise { t with port := p }).pump := by
  rw [State.tells, State.pump_sending, State.raiseAll_sending]

/-- An event of the part that sends messages and comes to rest after its own effects. -/
theorem settled_sends {f : Ctx → Ctx} {c : Ctx} {rs : List Report} {p : List PortMessage} (hf : f (Ctx.of s) = c)
    (rest : c.settle settleFuel = { c with walkDue := false, issueDue := false }) (hs : c.s = { t with port := p })
    (hr : (ordered c.out).filterMap (OutItem.report c.s) = rs) : settled f s = { t.tells rs with port := p } := by
  rw [State.tells_sending]
  unfold settled event Ctx.finish
  dsimp only
  rw [hf, rest]
  show ((List.filterMap (OutItem.report c.s) (ordered c.out)).foldl State.raise c.s).pump = _
  rw [hr, hs]

end

/-! ## HEAD-ACCEPT and the presence inputs (R134, R135) -/

/-- The owner of a HEAD-ACCEPT that accepts. -/
theorem ownerHeadAccept_takes {s : State} {h : Head} (hstate : (s.headRec h).state = .replaced ∨ (s.headRec h).state = .failed) :
    ownerHeadAccept [byteOf h.val] s.served = .done ((s.served.upd fun s => s.acceptHead h).settle settleFuel) (headAck h) := by
  have hhead : headOf (byteAt [byteOf h.val] 0) = some h := by simp
  have hserved : (s.served.s.headRec h).state = (s.headRec h).state := rfl
  rw [ownerHeadAccept, hhead]
  rcases hstate with hs | hs <;> simp only [hserved, hs]

/-- The owner of a HEAD-ACCEPT of a head in service. -/
theorem ownerHeadAccept_inService {s : State} {h : Head}
    (hstate : (s.headRec h).state = .idle ∨ (s.headRec h).state = .attached ∨ (s.headRec h).state = .reserved) :
    ownerHeadAccept [byteOf h.val] s.served = .done s.served (headAck h) := by
  have hhead : headOf (byteAt [byteOf h.val] 0) = some h := by simp
  have hserved : (s.served.s.headRec h).state = (s.headRec h).state := rfl
  rw [ownerHeadAccept, hhead]
  rcases hstate with hs | hs | hs <;> simp only [hserved, hs]

/-- The loss of presence of a head that no job holds. -/
theorem presenceLost_free {s : State} {h : Head} (running : s.resets.active = false) (hattached : (s.headRec h).state ≠ .attached)
    (hreserved : (s.headRec h).state ≠ .reserved) : (Ctx.of s).presenceLost h =
      (Ctx.of s).upd fun s => (s.setHeadPin h false).setHeadRec h (outOfService .absent 0 (s.headRec h)) := by
  unfold Ctx.presenceLost
  extract_lets c1 r c2
  have hstate : r.state = (s.headRec h).state := rfl
  rw [if_neg (by rw [show c1.s.resets.active = s.resets.active from rfl, running]; decide)]
  split
  next h1 _ => exact absurd (hstate.symm.trans h1) hattached
  next h1 _ => exact absurd (hstate.symm.trans h1) hreserved
  · rfl

/-- The loss of presence of a head that a job holds attached. -/
theorem presenceLost_attached {s : State} {h : Head} {st : StepInHand} (running : s.resets.active = false)
    (hattached : (s.headRec h).state = .attached) (hstep : (s.headRec h).step = some st) : (Ctx.of s).presenceLost h =
      ((Ctx.of s).upd fun s => (s.setHeadPin h false).setHeadRec h (outOfService .absent 0 (s.headRec h))).headLost st := by
  unfold Ctx.presenceLost
  extract_lets c1 r c2
  have hstate : r.state = .attached := hattached
  have hst : r.step = some st := hstep
  rw [if_neg (by rw [show c1.s.resets.active = s.resets.active from rfl, running]; decide)]
  simp only [hstate, hst]
  rfl

/-- The loss of presence of a head that is held for a bus in hazard. -/
theorem presenceLost_reserved {s : State} {h : Head} {b : Bus} (running : s.resets.active = false)
    (hreserved : (s.headRec h).state = .reserved) (hbus : (s.headRec h).bus = some b) : (Ctx.of s).presenceLost h =
      ((Ctx.of s).upd fun s => (s.setHeadPin h false).setHeadRec h (outOfService .absent 0 (s.headRec h))).reservedLost h b := by
  unfold Ctx.presenceLost
  extract_lets c1 r c2
  have hstate : r.state = .reserved := hreserved
  have hb : r.bus = some b := hbus
  rw [if_neg (by rw [show c1.s.resets.active = s.resets.active from rfl, running]; decide)]
  simp only [hstate, hb]
  rfl

/-- Settles O36: what each head state makes of an acceptance and of a change of the presence input. -/
theorem headsAreLostAndAccepted : Obligations.HeadsAreLostAndAccepted := by
  refine ⟨fun s tag h hr => ⟨fun hstate hcalm => ?accepted, fun hstate => ?inService, fun hstate => ?refused⟩,
    fun s h v s' hs' => ⟨fun hv running hcalm hattached hreserved => ?lost, fun hv running habsent => ?replaced,
      fun hv running habsent => ?stands, fun hv active hcalm => ?lostInReset, fun hv active => ?backInReset⟩,
    fun s h b j hcalm running hstate hbus howner hj hsuspended hhead hlosses => ?reserved⟩
    <;> refine congrArg Host.Outcome.next ?_
  case accepted =>
    rw [requestFrame_tells (rs := []) (t := s.acceptHead h) hr 0x3C#8 rfl (ownerHeadAccept_takes hstate)
      (Ctx.settle_calm_quiet (hcalm.congr rfl rfl) rfl rfl) rfl ?_ rfl, State.acksTelling_nil (by exact hr.running)]
    · rfl
    · simp [headAck, Ctx.upd, State.acceptHead, HeadRecord.initial]
  case inService => exact requestFrame_reads hr 0x3C#8 rfl (ownerHeadAccept_inService hstate)
  case refused =>
    refine requestFrame_rejects hr 0x3C#8 rfl ?_
    have hhead : headOf (byteAt [byteOf h.val] 0) = some h := by simp
    have hserved : (s.served.s.headRec h).state = .absent := hstate
    rw [ownerHeadAccept, hhead]
    simp only [hserved]
  case lost =>
    subst hv hs'
    exact settled_tells (presenceLost_free running hattached hreserved)
      (Ctx.settle_calm_quiet (hcalm.congr rfl rfl) rfl rfl) rfl rfl
  case replaced =>
    subst hv hs'
    have hreturn : (Ctx.of s).presenceReturns h =
        (Ctx.of s).upd fun s => (s.setHeadPin h true).setHeadRec h { s.headRec h with state := .replaced } := by
      unfold Ctx.presenceReturns
      extract_lets c1
      rw [if_neg (by rw [show c1.s.resets.active = s.resets.active from rfl, running]; decide), if_pos (by exact habsent)]
      rfl
    exact event_telling (f := fun c => c.presenceReturns h) (by rw [hreturn]; rfl) (by rw [hreturn]; rfl)
  case stands =>
    subst hv hs'
    have hreturn : (Ctx.of s).presenceReturns h = (Ctx.of s).upd fun s => s.setHeadPin h true := by
      unfold Ctx.presenceReturns
      extract_lets c1
      rw [if_neg (by rw [show c1.s.resets.active = s.resets.active from rfl, running]; decide), if_neg (by exact habsent)]
    exact event_telling (f := fun c => c.presenceReturns h) (by rw [hreturn]; rfl) (by rw [hreturn]; rfl)
  case lostInReset =>
    subst hv hs'
    have hlost : (Ctx.of s).presenceLost h = (Ctx.of s).upd fun s => s.setHeadPin h false := if_pos active
    exact settled_tells hlost (Ctx.settle_calm_quiet (hcalm.congr rfl rfl) rfl rfl) rfl rfl
  case backInReset =>
    subst hv hs'
    have hreturn : (Ctx.of s).presenceReturns h = (Ctx.of s).upd fun s => s.setHeadPin h true := if_pos active
    exact event_telling (f := fun c => c.presenceReturns h) (by rw [hreturn]; rfl) (by rw [hreturn]; rfl)
  case reserved =>
    let c1 : Ctx := (Ctx.of s).upd fun s => (s.setHeadPin h false).setHeadRec h (outOfService .absent 0 (s.headRec h))
    let f (k : Job) : Job := { k with head := none, losses := k.losses + 1 }
    have hloss : c1.reservedLost h b = { c1 with s := c1.s.updJob j.id f, out := [.jobState j.id .headLost false] } := by
      have hfound : (c1.s.busRec b).owner.bind c1.s.job? = some j := by
        rw [show (c1.s.busRec b).owner = some j.id from howner]
        exact hj
      have htwice : ((c1.s.updJob j.id fun j => { j with head := none }).updJob j.id fun j => { j with losses := j.losses + 1 }) =
          c1.s.updJob j.id f := State.updJob_updJob fun _ => rfl
      unfold Ctx.reservedLost
      simp only [hfound]
      rw [if_pos ⟨hsuspended, hhead⟩, if_pos hlosses, Ctx.jobChanged_first rfl]
      simp only [Ctx.upd, htwice]
    have hjob : (c1.s.updJob j.id f).job? j.id = some (f j) := State.job?_changed (s := c1.s) hj fun _ => rfl
    have hrest : Calm (c1.s.updJob j.id f) :=
      (hcalm.congr (t := c1.s) rfl rfl).updJob fun k hk _ => hcalm.heads k hk
    refine settled_tells ((presenceLost_reserved running hstate hbus).trans hloss) (Ctx.settle_calm_quiet hrest rfl rfl) rfl ?_
    refine (report_jobState (j := f j) hjob).trans ?_
    simp [jobStateReport, f, hsuspended]
    rfl

/-! ## The loss of an attached head (R104, R145) -/

/-- The record of a job that has lost its head and waits for another (R104). -/
def Job.lostHead (order : Nat) (time : BitVec 32) (k : Job) : Job :=
  { k with head := none, losses := k.losses + 1, state := .waitHead, waitOrder := order, waitTime := time
           holdLimit := none, hazardHold := none }

theorem State.detachHead_measuring {s : State} {b : Bus} {h : Head} (hhead : (s.busRec b).head = some h)
    (hfunc : (s.busRec b).func = .measure) :
    s.detachHead b = (s.setHeadSel b none).setBusRec b { s.busRec b with head := none, func := .hold } := by
  unfold State.detachHead
  simp [hhead, hfunc]

/-- The state in which a job has lost its head and waits for another, its bus in HOLD. -/
def State.losesHead (s : State) (id : Nat) (b : Bus) : State :=
  ((({ s with sched := { s.sched with nextWait := s.sched.nextWait + 1 } } : State).updJob id
    (Job.lostHead s.sched.nextWait s.link.time)).setHeadSel b none).setBusRec b { s.busRec b with head := none, func := .hold }

/-- A MEASURING job that is not URGENT loses its head for the first or second time. -/
theorem Ctx.headLost_waits {c : Ctx} {st : StepInHand} {j : Job} {b : Bus} {h : Head} (hj : c.s.job? st.job = some j)
    (hb : j.bus = some b) (hlosses : j.losses < 2) (hprio : j.priority ≠ .urgent) (hhead : (c.s.busRec b).head = some h)
    (hfunc : (c.s.busRec b).func = .measure) (hout : c.out = []) :
    c.headLost st = { c with s := c.s.losesHead st.job b, out := [.jobState st.job .headLost false] } := by
  have hid : j.id = st.job := State.job?_id hj
  let d : State := (c.s.setHeadSel b none).setBusRec b { c.s.busRec b with head := none, func := .hold }
  let f (k : Job) : Job := { k with head := none, losses := k.losses + 1 }
  let c1 : Ctx := { c with s := d.updJob st.job f }
  have htwice : ((d.updJob j.id fun j => { j with head := none }).updJob j.id fun j => { j with losses := j.losses + 1 }) = c1.s := by
    rw [hid]
    exact State.updJob_updJob fun _ => rfl
  have hfound : c1.s.job? st.job = some (f j) := State.job?_changed (s := d) hj fun _ => rfl
  have hloss : c.headLost st = c1.enterWaitHead st.job .headLost := by
    unfold Ctx.headLost
    simp only [hj, hb]
    rw [if_pos hlosses]
    simp only [Ctx.upd, State.detachHead_measuring hhead hfunc]
    rw [htwice, hid]
  have hwaits : c1.s.waits st.job = c.s.losesHead st.job b :=
    State.updJob_updJob (s := { d with sched := { d.sched with nextWait := d.sched.nextWait + 1 } }) fun _ => rfl
  rw [hloss, Ctx.enterWaitHead_notUrgent .headLost hfound hprio,
    Ctx.jobChanged_first (c := c1.upd fun s => s.waits st.job) hout, ← hwaits]
  rfl

theorem State.job?_losesHead {s : State} {id : Nat} {j : Job} (b : Bus) (hj : s.job? id = some j) :
    (s.losesHead id b).job? id = some (j.lostHead s.sched.nextWait s.link.time) :=
  State.job?_changed (s := { s with sched := { s.sched with nextWait := s.sched.nextWait + 1 } }) hj fun _ => rfl

/-- No head is IDLE after a head that is not takes its place among others that are not. -/
theorem State.setHeadRec_notIdle {s : State} {h : Head} {x : HeadRecord} (hx : x.state ≠ .idle)
    (hothers : ∀ h', h' ≠ h → (s.headRec h').state ≠ .idle) (h' : Head) : ((s.setHeadRec h x).headRec h').state ≠ .idle := by
  rw [State.setHeadRec_headRec]
  split
  · exact hx
  next hne => exact hothers h' hne

/-- A trigger in a frame of index 0 on a running step. -/
theorem triggerFalls_zero {s : State} {h : Head} {st : StepInHand} {t : TimeBase} (hattached : (s.headRec h).state = .attached)
    (hstep : (s.headRec h).step = some st) (htime : (s.headRec h).timeBase = some t) (hindex : t.index = 0) :
    (Ctx.of s).triggerFalls h =
      if (s.headRec h).outstanding then ((Ctx.of s).upd fun s => s.reach t.triggerMoment).missed h st
      else ((Ctx.of s).upd fun s => s.reach t.triggerMoment).strobe h := by
  unfold Ctx.triggerFalls
  have h1 : ((Ctx.of s).s.headRec h).state = .attached := hattached
  have h2 : ((Ctx.of s).s.headRec h).step = some st := hstep
  have h3 : ((Ctx.of s).s.headRec h).timeBase = some t := htime
  simp only [h1, h2, h3, hindex, if_true]
  rfl

/-- Settles O37: both losses hand the job the same change. -/
theorem lostHeadReturnsItsJobToWaitHead : Obligations.LostHeadReturnsItsJobToWaitHead := by
  intro s h b j st jobs hcalm running hattached hstep hj hb hlosses hprio hhead hfunc hothers hjobs rep hrep
  subst hrep
  have report (u : State) (htime : u.link.time = s.link.time) (order : Nat)
      (hu : u.job? st.job = some (j.lostHead order s.link.time)) :
      (ordered [.jobState st.job .headLost false]).filterMap (OutItem.report u) =
        [.jobState ⟨st.job, j.source, j.line, .waitHead, some b, none, j.step, .headLost, j.losses + 1, none, s.link.time⟩] := by
    rw [report_jobState hu]
    simp [jobStateReport, Job.lostHead, htime, hb, State.job?_id hj]
  refine ⟨?presence, fun t htime hindex hout hmissing => ?trigger⟩ <;> refine congrArg Host.Outcome.next ?_
  case presence =>
    let c : Ctx := (Ctx.of s).upd fun s => (s.setHeadPin h false).setHeadRec h (outOfService .absent 0 (s.headRec h))
    have hleft : c.headLost st = _ := Ctx.headLost_waits (c := c) hj hb hlosses hprio hhead hfunc rfl
    have hrest := State.setHeadRec_notIdle (s := s) (h := h) (x := outOfService .absent 0 (s.headRec h)) (by simp [outOfService]) hothers
    refine settled_tells ((presenceLost_attached running hattached hstep).trans hleft)
      (Ctx.settle_quiet hcalm.exits (State.nextHandout_none hrest) rfl rfl) (by rw [hjobs]; rfl) ?_
    exact report _ rfl _ (State.job?_losesHead (s := c.s) b hj)
  case trigger =>
    let c : Ctx := (Ctx.of s).upd fun s =>
      (s.reach t.triggerMoment).setHeadRec h (outOfService .failed 3 (s.headRec h))
    have hleft : c.headLost st = _ := Ctx.headLost_waits (c := c) hj hb hlosses hprio hhead hfunc rfl
    have hrest := State.setHeadRec_notIdle (s := s) (h := h) (x := outOfService .failed 3 (s.headRec h)) (by simp [outOfService]) hothers
    have hfalls : (Ctx.of s).triggerFalls h = c.headLost st := by
      rw [triggerFalls_zero hattached hstep htime hindex, if_pos hout]
      unfold Ctx.missed
      have hread : (((Ctx.of s).upd fun s => s.reach t.triggerMoment).s.headRec h).missing = 2 := hmissing
      simp only [hread]
      rfl
    refine settled_tells (hfalls.trans hleft)
      (Ctx.settle_quiet hcalm.exits (State.nextHandout_none hrest) rfl rfl) (by rw [hjobs]; rfl) ?_
    exact report _ rfl _ (State.job?_losesHead (s := c.s) b hj)

/-! ## Frame boundaries and triggers (R143, R145) -/

/-- Settles O38: the boundary moves the index on, and the trigger sends its strobe in a frame of index 0. -/
theorem boundariesAndTriggersKeepTheFrame : Obligations.BoundariesAndTriggersKeepTheFrame := by
  intro s h r t hcalm hr htime
  subst hr
  refine ⟨fun hstate => ?boundary, fun st hattached hstep => ⟨fun hindex => ?other, fun hindex hout => ?strobe,
    fun hindex hout hmissing => ?missing⟩⟩ <;> refine congrArg Host.Outcome.next ?_
  case boundary =>
    let r' : HeadRecord := { s.headRec h with timeBase := some { t with index := (t.index + 1) % t.post, next := t.next + t.period } }
    have hboundary : (Ctx.of s).boundary h = (Ctx.of s).upd fun s => (s.reach t.next).setHeadRec h r' := by
      unfold Ctx.boundary
      have h1 : ((Ctx.of s).s.headRec h).timeBase = some t := htime
      simp only [h1]
      split
      next h2 _ => exact absurd h2 hstate
      · rfl
    exact settled_tells hboundary (Ctx.settle_calm_quiet (hcalm.congr rfl rfl) rfl rfl) rfl rfl
  case other =>
    have hfalls : (Ctx.of s).triggerFalls h = Ctx.of s := by
      unfold Ctx.triggerFalls
      have h1 : ((Ctx.of s).s.headRec h).state = .attached := hattached
      have h2 : ((Ctx.of s).s.headRec h).step = some st := hstep
      have h3 : ((Ctx.of s).s.headRec h).timeBase = some t := htime
      simp only [h1, h2, h3, hindex, if_false]
    exact settled_tells hfalls (Ctx.settle_calm_quiet (hcalm.congr rfl rfl) rfl rfl) rfl rfl
  case strobe =>
    have hfalls := triggerFalls_zero hattached hstep htime hindex
    rw [if_neg (by rw [hout]; decide)] at hfalls
    exact settled_sends hfalls (Ctx.settle_calm_quiet (hcalm.congr rfl rfl) rfl rfl) rfl rfl
  case missing =>
    let c : Ctx := (Ctx.of s).upd fun s => s.reach t.triggerMoment
    have hfalls : (Ctx.of s).triggerFalls h = (c.upd fun s =>
        s.setHeadRec h { s.headRec h with missing := (s.headRec h).missing + 1, outstanding := false }).strobe h := by
      rw [triggerFalls_zero hattached hstep htime hindex, if_pos hout]
      unfold Ctx.missed
      exact if_pos (show (s.headRec h).missing + 1 < 3 by omega)
    refine settled_sends hfalls (Ctx.settle_calm_quiet (hcalm.congr rfl rfl) rfl rfl) ?_ rfl
    simp only [Ctx.strobe, Ctx.send, Ctx.upd, State.setHeadRec_setHeadRec, State.setHeadRec_headRec, if_true]
    rfl

/-! ## Sample pairs (R138, R142, R144, R146, R147) -/

section Pairs
variable {s : State} {h : Head} {v i : BitVec 16} {st : StepInHand}

/-- The head record after a pair has answered its strobe. -/
def HeadRecord.answered (r : HeadRecord) : HeadRecord := { r with outstanding := false, missing := 0 }

/-- A pair that answers the outstanding strobe of a running step. -/
theorem pairArrives_answers (hattached : (s.headRec h).state = .attached) (hstep : (s.headRec h).step = some st)
    (hout : (s.headRec h).outstanding = true) : (Ctx.of s).pairArrives h v i =
      ((Ctx.of s).upd fun t => t.setHeadRec h (s.headRec h).answered).takePair h st v i := by
  unfold Ctx.pairArrives
  extract_lets r
  split
  next st' h1 h2 h3 =>
    obtain rfl : st' = st := Option.some.inj (h3.symm.trans hstep)
    rfl
  next hno => exact (hno st hattached hout hstep).elim

/-- The step in hand of a head whose record has just been written. -/
theorem Ctx.setStep_setHeadRec (c : Ctx) (r : HeadRecord) (st : StepInHand) :
    (c.upd fun s => s.setHeadRec h r).setStep h st = c.upd fun s => s.setHeadRec h { r with step := some st } := by
  simp only [Ctx.setStep, Ctx.upd, State.setHeadRec_headRec, if_true, State.setHeadRec_setHeadRec]

/-- A configure to a head whose record has just been written. -/
theorem Ctx.configure_setHeadRec (c : Ctx) (r : State → HeadRecord) (k : Configure) :
    (c.upd fun s => s.setHeadRec h (r s)).configure h k =
      (c.upd fun s => s.setHeadRec h { r s with standing := some k }).send (.configure h k) := by
  simp only [Ctx.configure, Ctx.upd, State.setHeadRec_headRec, if_true, State.setHeadRec_setHeadRec]

/-- A strobe to a head whose record has just been written, after a message. -/
theorem Ctx.strobe_sent (c : Ctx) (r : State → HeadRecord) (m : PortMessage) :
    ((c.upd fun s => s.setHeadRec h (r s)).send m).strobe h =
      ((c.upd fun s => s.setHeadRec h { r s with outstanding := true }).send m).send (.strobe h) := by
  have hread : ((c.upd fun s => s.setHeadRec h (r s)).send m).s.headRec h = r c.s := by
    show (c.s.setHeadRec h (r c.s)).headRec h = r c.s
    rw [State.setHeadRec_headRec, if_pos rfl]
  have hwrite := State.setHeadRec_setHeadRec (s := c.s) h (r c.s) { r c.s with outstanding := true }
  have hstrobe (d : Ctx) : d.strobe h =
      ({ d with s := d.s.setHeadRec h { d.s.headRec h with outstanding := true } } : Ctx).send (.strobe h) := rfl
  rw [hstrobe, hread]
  exact congrArg (fun t : State => ({ c with s := { t with port := c.s.port ++ [m] } } : Ctx).send (.strobe h)) hwrite

/-- A pair of an FV or CAP step switches no range. -/
theorem StepInHand.unranged (hkind : st.kind = .fv ∨ st.kind = .cap) : st.ranged = false := by
  rcases hkind with h | h <;> simp [StepInHand.ranged, h]

/-- A further unclipped pair (R144). -/
theorem Accumulators.add_unclipped {a : Accumulators} (hcount : 1 ≤ a.count) (h1 : v ≠ 0x7FFF#16)
    (h2 : v ≠ 0x8000#16) : a.add v i = { a with
      count := a.count + 1, sumV := a.sumV + v.toInt, sumI := a.sumI + i.toInt
      vMax := max a.vMax v.toInt, vMin := min a.vMin v.toInt, vLast := v.toInt
      iClip := a.iClip || i == 0x7FFF#16 || i == 0x8000#16 } := by
  have hfirst : ¬a.count = 0 := by omega
  have hv : clipped v = false := by simp [clipped, h1, h2]
  have hi : clipped i = (i == 0x7FFF#16 || i == 0x8000#16) := rfl
  simp [Accumulators.add, hfirst, hv, hi, Bool.or_assoc]

/-- Settles O39: what a pair makes of the step in hand, by the count of discards and of samples. -/
theorem samplePairsAreDiscardedThenAccumulated : Obligations.SamplePairsAreDiscardedThenAccumulated := by
  intro s h v i r st hcalm hr hattached hstep
  subst hr
  refine ⟨fun hout => ?unseen, fun hout hdiscard => ?discarded, fun hout hdiscard hlo hswitched hkind hclip => ?switched,
    fun hout hdiscard hkind hcount hfirst hvclip hv1 hv2 => ?accumulated⟩ <;> refine congrArg Host.Outcome.next ?_
  case unseen =>
    have hunseen : (Ctx.of s).pairArrives h v i = Ctx.of s := by
      unfold Ctx.pairArrives
      have h3 : ((Ctx.of s).s.headRec h).outstanding = false := hout
      simp only [h3]
      split
      next heq _ => cases heq
      · rfl
    exact settled_tells hunseen (Ctx.settle_calm_quiet (hcalm.congr rfl rfl) rfl rfl) rfl rfl
  case discarded =>
    have htaken := pairArrives_answers (v := v) (i := i) hattached hstep hout
    rw [Ctx.takePair, if_pos hdiscard, Ctx.setStep_setHeadRec] at htaken
    exact settled_tells htaken (Ctx.settle_calm_quiet (hcalm.congr rfl rfl) rfl rfl) rfl rfl
  case switched =>
    have hup : st.switchesUp i = true := by
      have hranged : st.ranged = true := by rcases hkind with h | h <;> simp [StepInHand.ranged, h]
      have hclipped : clipped i = true := by rcases hclip with h | h <;> simp [clipped, h]
      simp [StepInHand.switchesUp, hranged, hlo, hswitched, hclipped]
    have htaken := pairArrives_answers (v := v) (i := i) hattached hstep hout
    rw [Ctx.takePair, if_neg (by omega), if_pos hup, Ctx.switchRange, Ctx.setStep_setHeadRec, Ctx.configure_setHeadRec] at htaken
    exact settled_sends htaken (Ctx.settle_calm_quiet (hcalm.congr rfl rfl) rfl rfl) rfl rfl
  case accumulated =>
    have htaken := pairArrives_answers (v := v) (i := i) hattached hstep hout
    rw [Ctx.takePair, if_neg (by omega), if_neg (by simp [StepInHand.switchesUp, StepInHand.unranged hkind]),
      Accumulators.add_unclipped hfirst hv1 hv2, if_pos hcount, Ctx.setStep_setHeadRec] at htaken
    exact settled_tells htaken (Ctx.settle_calm_quiet (hcalm.congr rfl rfl) rfl rfl) rfl rfl

/-- The K-th pair of an FV or CAP step completes it. -/
theorem takePair_completes {c : Ctx} (hdiscard : st.snapshot.discard ≤ st.discards) (hkind : st.kind = .fv ∨ st.kind = .cap)
    (hlast : st.snapshot.samples = st.acc.count + 1) :
    c.takePair h st v i = c.completeStep st.job h (computeResult { st with acc := st.acc.add v i }) := by
  have hcount : (st.acc.add v i).count = st.acc.count + 1 := rfl
  have hranged := StepInHand.unranged hkind
  unfold Ctx.takePair
  rw [if_neg (by omega), if_neg (by simp [StepInHand.switchesUp, hranged])]
  simp only [hcount]
  rw [if_neg (by omega), if_neg (by
    have : StepInHand.ranged { st with acc := st.acc.add v i } = false := hranged
    simp [StepInHand.switchesDown, this])]

/-- A job of an unambiguous id advances past no further step where no danger stands. -/
theorem Job.skip_none {j : Job} (hdanger : underDanger j.limits.fvDanger j.results = false) : j.skip = j := by
  simp [Job.skip, skippedSteps, hdanger]

end Pairs

/-- A step starts on a head whose record has just been written: its configure, and a strobe where its phase is 0. -/
theorem Ctx.startStep_starts {c : Ctx} {id : Nat} {h : Head} {j : Job} {nxt : RecipeStep} {e : StepEntry} {k : Configure}
    (hj : c.s.job? id = some j) (hnxt : j.recipe[j.step]? = some nxt) (he : e = c.s.engine.steps.entry nxt.kind)
    (hk : k = ⟨nxt.leg, sourceOf nxt.kind e.level, e.startRange⟩) :
    c.startStep id h = { c with s := { c.s.setHeadRec h { c.s.headRec h with
        outstanding := e.phase == 0, standing := some k
        timeBase := some ⟨e.period, e.phase, e.post, 0, c.s.now + e.period⟩
        step := some ⟨id, j.step, nxt.kind, nxt.leg, e, e.startRange, false, 0, Accumulators.empty⟩ } with
      port := c.s.port ++ .configure h k :: (if e.phase = 0 then [.strobe h] else []) } } := by
  subst he hk
  unfold Ctx.startStep
  simp only [hj, hnxt]
  rw [Ctx.configure_setHeadRec]
  by_cases hphase : (c.s.engine.steps.entry nxt.kind).phase = 0
  · rw [if_pos hphase, if_pos hphase, Ctx.strobe_sent, beq_iff_eq.2 hphase]
    simp only [Ctx.send, Ctx.upd, List.append_assoc, List.cons_append, List.nil_append]
    rfl
  · rw [if_neg hphase, if_neg hphase, beq_eq_false_iff_ne.2 hphase]
    rfl

/-- Settles O40: the completed step's result, and the start of the next step on the same head. -/
theorem lastPairCompletesTheStep : Obligations.LastPairCompletesTheStep := by
  intro s h v i r st j nxt x e k hcalm hr hattached hstep hout hdiscard hkind hlast hj hone hnxt hx hdanger he hk
  subst hr hx
  refine congrArg Host.Outcome.next ?_
  let j' : Job := { j with results := j.results ++ [computeResult { st with acc := st.acc.add v i }], step := j.step + 1 }
  let r1 : HeadRecord := { (s.headRec h).answered with step := none, outstanding := false }
  let c : Ctx := { Ctx.of s with s := ((Ctx.of s).s.updJob st.job fun _ => j').setHeadRec h r1 }
  have hjid : j.id = st.job := State.job?_id hj
  have hskip : j'.skip = j' := Job.skip_none hdanger
  have hfound : c.s.job? st.job = some j' := by
    refine (State.job?_updJob (s := s) (f := fun _ => j') fun _ _ => hjid).trans ?_
    rw [hj]
    rfl
  have hcompletes : (Ctx.of s).pairArrives h v i = c.startStep st.job h := by
    rw [pairArrives_answers hattached hstep hout, takePair_completes hdiscard hkind hlast]
    have hleft : (((Ctx.of s).s.setHeadRec h (s.headRec h).answered).dropStep h).updJob st.job (fun k =>
        ({ k with results := k.results ++ [computeResult { st with acc := st.acc.add v i }], step := k.step + 1 } : Job).skip) =
        c.s := by
      have hread : ((Ctx.of s).s.setHeadRec h (s.headRec h).answered).headRec h = (s.headRec h).answered := by
        rw [State.setHeadRec_headRec, if_pos rfl]
      rw [State.dropStep, hread, State.setHeadRec_setHeadRec]
      refine (State.updJob_only (s := (Ctx.of s).s.setHeadRec h _) hone _).trans ?_
      exact congrArg (fun k => ((Ctx.of s).s.updJob st.job fun _ => k).setHeadRec h r1) hskip
    have hmore : j'.step < j'.recipe.length := (List.getElem?_eq_some_iff.1 hnxt).1
    unfold Ctx.completeStep
    simp only [Ctx.upd, hleft]
    rw [show (⟨c.s, (Ctx.of s).out, (Ctx.of s).walkDue, (Ctx.of s).issueDue⟩ : Ctx) = c from rfl]
    simp only [hfound]
    exact if_pos hmore
  have hstarts := hcompletes.trans (Ctx.startStep_starts hfound hnxt he hk)
  have hrest : Calm (s.updJob st.job fun _ => j') := hcalm.updJob fun _ _ _ => hcalm.heads j (State.job?_mem hj)
  have hread : c.s.headRec h = r1 := by
    show (((Ctx.of s).s.updJob st.job fun _ => j').setHeadRec h r1).headRec h = r1
    rw [State.setHeadRec_headRec, if_pos rfl]
  rw [hread] at hstarts
  refine settled_sends hstarts (Ctx.settle_calm_quiet (hrest.congr rfl rfl) rfl rfl) ?_ rfl
  exact congrArg (fun t : State => { t with port := PortMessage.configure h k :: (if e.phase = 0 then [.strobe h] else []) })
    (State.setHeadRec_setHeadRec (s := s.updJob st.job fun _ => j') h r1 _)

end Sys2Proof.Machine
end

section
/-! PROOF. The intervals of a bus and its loop sense (R43, R47, R51, R61 to R70, R94, R101, R111). -/

namespace Sys2Proof.Machine

/-! ## An event in a settled state -/

section Settling
variable {s t : State} {c : Ctx}

theorem Ctx.settle_done (h : Settled c.s) : c.settle settleFuel = { c with walkDue := false, issueDue := false } :=
  Ctx.settle_settled h 398

/-- To be settled is a matter of the hazard records, the job table and the sweep. -/
theorem Settled.congr (h : Settled s) (hazards : t.hazards = s.hazards) (sched : t.sched = s.sched) (sweep : t.sweep = s.sweep) :
    Settled t :=
  ⟨h.toCalm.congr hazards sched, by rw [sched]; exact h.queue, by rw [sweep]; exact h.sweep⟩

/-- Without some of its jobs a settled state is settled. -/
theorem Settled.setJobs (h : Settled s) {js : List Job} (hjs : ∀ j ∈ js, j ∈ s.sched.jobs) : Settled (s.setJobs js) :=
  ⟨⟨h.exits, fun j hj => h.heads j (hjs j hj)⟩, fun j hj => h.queue j (hjs j hj), h.sweep⟩

/-! ## The removal of a desk job (R94) -/

/-- The table without a job that no mark or claim names. -/
theorem dropMarks_unnamed {id : Nat} {js : List Job} (hmarks : ∀ k ∈ js, k.takeover ≠ some id ∧ k.claim ≠ some id) :
    dropMarks id (js.filter fun k => k.id != id) = (js.filter fun k => k.id != id, false) := by
  unfold dropMarks
  refine Prod.ext ?_ ?_
  · refine (List.map_congr_left fun k hk => ?_).trans (List.map_id _)
    obtain ⟨htakeover, hclaim⟩ := hmarks k (List.mem_of_mem_filter hk)
    rw [if_neg htakeover, if_neg hclaim]
    rfl
  · refine List.any_eq_false.2 fun k hk => ?_
    simpa using (hmarks k (List.mem_of_mem_filter hk)).1

/-- A desk job without a head, which no mark or claim names, leaves the table. -/
theorem Ctx.removeJob_desk {id p : Nat} {j : Job} (o : JobOutcome) (hj : c.s.job? id = some j) (hhead : j.head = none)
    (hp : j.source = .desk p) (hmarks : ∀ k ∈ c.s.sched.jobs, k.takeover ≠ some id ∧ k.claim ≠ some id) :
    c.removeJob id o = { c with
      s := c.s.setJobs (c.s.sched.jobs.filter fun k => k.id != id)
      out := c.out.filter (fun i => !i.isStateOf id) ++ [.late (jobResultReport c.s j o)]
      issueDue := true } := by
  have hfree : c.freeJobHead id = c := by
    unfold Ctx.freeJobHead
    simp only [hj, hhead]
  have hsweep : c.s.sweep.jobRemoved j o = c.s.sweep := by simp [Sweep.jobRemoved, hp]
  unfold Ctx.removeJob
  simp only [hj, hfree, Option.getD_some]
  simp [dropMarks_unnamed hmarks, hp, Ctx.issue, Ctx.upd, Ctx.put, Ctx.jobGone, State.setJobs, State.setSweep, hsweep]

end Settling

/-! ## The return of a line (R37, R43, R51, R53) -/

section Returns
variable {s : State} {b : Bus} {line : Nat}

theorem State.moveRelays_some {l : Option Nat} (h : l = some line) (f : LineRelays → LineRelays) :
    s.moveRelays l f = s.setRelays line (f (s.relaysOf line)) := by
  rw [h]
  rfl

/-- An unreserved record returns to IDLE. -/
theorem State.toIdle_unreserved (hline : (s.busRec b).line = some line) (hreserve : (s.busRec b).reserveMark = false)
    (haccess : (s.busRec b).access ≠ .idle) :
    s.toIdle b = ((s.setGroupSel (line / 64) none).setBusRec b BusRecord.initial).setWatchRec b WatchRecord.initial := by
  unfold State.toIdle
  simp only [hreserve, hline, State.freeGroup, State.putBus]
  exact congrArg _ (WatchRecord.across_idle haccess)

/-- A record whose reserve mark is taken away returns to IDLE. -/
theorem State.toIdle_released {r : BusRecord} (hline : r.line = some line) (haccess : r.access ≠ .idle) :
    (s.setBusRec b { r with reserveMark := false }).toIdle b =
      ((s.setGroupSel (line / 64) none).setBusRec b BusRecord.initial).setWatchRec b WatchRecord.initial := by
  have hread : (s.setBusRec b { r with reserveMark := false }).busRec b = { r with reserveMark := false } := by simp
  rw [State.toIdle_unreserved (line := line) (by rw [hread]; exact hline) (by rw [hread]) (by rw [hread]; exact haccess)]
  exact congrArg (fun t : State => t.setWatchRec b WatchRecord.initial)
    (State.setBusRec_setBusRec (s := s.setGroupSel (line / 64) none) b _ _)

/-- The restore interval runs out (R51). -/
theorem State.restoreEnds_unreserved (hline : (s.busRec b).line = some line) (hreserve : (s.busRec b).reserveMark = false)
    (haccess : (s.busRec b).access ≠ .idle) :
    s.restoreEnds b = (((s.setRelays line { s.relaysOf line with cutOpen := false }).setGroupSel (line / 64) none).setBusRec b
      BusRecord.initial).setWatchRec b WatchRecord.initial := by
  unfold State.restoreEnds
  simp only [hline, State.moveRelays]
  exact State.toIdle_unreserved (s := s.setRelays line _) hline hreserve haccess

/-- The guard judged BUSY (R43). -/
theorem State.guardBusy_returns (hline : (s.busRec b).line = some line) (haccess : (s.busRec b).access ≠ .idle) :
    s.guardBusy b = (((s.setRelays line { s.relaysOf line with bridge := false }).setGroupSel (line / 64) none).setBusRec b
      BusRecord.initial).setWatchRec b WatchRecord.initial := by
  unfold State.guardBusy
  dsimp only
  rw [State.moveRelays_some hline]
  exact State.toIdle_released (s := s.setRelays line _) (r := s.busRec b) hline haccess

/-- A release from monitor with no speech (R53). -/
theorem State.releaseBus_monitor (hline : (s.busRec b).line = some line) (haccess : (s.busRec b).access = .monitor)
    (speech : (s.busRec b).speech = none) :
    s.releaseBus false b = (((s.setRelays line { s.relaysOf line with bridge := false }).setGroupSel (line / 64) none).setBusRec b
      BusRecord.initial).setWatchRec b WatchRecord.initial := by
  unfold State.releaseBus
  rw [haccess]
  dsimp only
  rw [State.detachSpeech_none speech, State.moveRelays_some hline]
  exact State.toIdle_released (s := s.setRelays line _) (r := s.busRec b) hline (by rw [haccess]; decide)

end Returns

/-- Settles O51: the line returns and its owner, which nothing names, leaves the table. -/
theorem restoreIntervalReturnsTheLine : Obligations.RestoreIntervalReturnsTheLine := by
  intro s b i id line p j o r hs hr haccess hinterval hline howner hreserve hj hstate ho hhead hp hmarks
  subst hr
  obtain rfl : j.id = id := State.job?_id hj
  let u : State := (((((Ctx.of s).s.reach i.runsOut).setRelays line { s.relaysOf line with cutOpen := false }).setGroupSel
    (line / 64) none).setBusRec b BusRecord.initial).setWatchRec b WatchRecord.initial
  have hends : ((Ctx.of s).s.reach i.runsOut).restoreEnds b = u :=
    State.restoreEnds_unreserved hline hreserve (by
      show (s.busRec b).access ≠ .idle
      rw [haccess]; decide)
  have hremove := Ctx.removeJob_desk (c := { Ctx.of s with s := u }) o hj hhead hp hmarks
  have hruns : (Ctx.of s).restoreRunsOut b = (Ctx.removeJob { Ctx.of s with s := u } j.id o).walk := by
    have h1 : ((Ctx.of s).s.busRec b).access = .releasing := haccess
    have h2 : ((Ctx.of s).s.busRec b).interval = some i := hinterval
    have h3 : ((Ctx.of s).s.busRec b).owner.bind (Ctx.of s).s.job? = some j := by
      rw [show ((Ctx.of s).s.busRec b).owner = some j.id from howner]
      exact hj
    unfold Ctx.restoreRunsOut
    simp only [h1, h2, h3, Ctx.reachedIdle, hstate, ho, Ctx.upd, hends]
    rfl
  rw [hremove] at hruns
  have hrest : Settled (s.setJobs (s.sched.jobs.filter fun k => k.id != j.id)) := hs.setJobs fun k hk => List.mem_of_mem_filter hk
  refine congrArg Host.Outcome.next (settled_tells hruns (Ctx.settle_done (hrest.congr rfl rfl rfl)) rfl ?_)
  simp [ordered, OutItem.report, Ctx.walk, jobResultReport, Report.atEnd, hp]
  rfl

/-! ## The guard window and the connect interval (R43, R47) -/

section Reaches
variable {s : State} {b : Bus} {line : Nat}

/-- The guard judged IDLE-LINE (R43). -/
theorem State.guardIdleLine_cuts (haccess : (s.busRec b).access = .guard) (hline : (s.busRec b).line = some line) :
    s.guardIdleLine b =
      ((s.setRelays line { s.relaysOf line with bridge := false, cutOpen := true }).setBusRec b
        { s.busRec b with access := .cutting, interval := some (s.connectTaken line) }).setWatchRec b
        { s.watchRec b with timer := none, guard := none } := by
  have hwatch (raw : Bool) (w : WatchRecord) :
      w.across raw s.now (s.busRec b).access .cutting = { w with timer := none, guard := none } := by
    rw [haccess]; exact WatchRecord.across_leavesPath rfl rfl (by decide)
  have hconnect : s.connectOf (s.busRec b).line = some (s.connectTaken line) := by rw [State.connectOf, hline]; rfl
  have hrelays : s.moveRelays (s.busRec b).line (fun x => { x with bridge := false, cutOpen := true }) =
      s.setRelays line { s.relaysOf line with bridge := false, cutOpen := true } := State.moveRelays_some hline _
  unfold State.guardIdleLine
  dsimp only
  rw [hrelays, hconnect]
  exact congrArg _ (hwatch _ _)

/-- The connect interval runs out under a park mark (R47). -/
theorem State.connectEnds_parks (haccess : (s.busRec b).access = .cutting) (hpark : (s.busRec b).parkMark = true) :
    s.connectEnds b =
      (s.setBusRec b { s.busRec b with access := .parked, func := .none, interval := none, parkMark := false }).setWatchRec b
        { s.watchRec b with guard := none } := by
  have hwatch (raw : Bool) (w : WatchRecord) :
      w.across raw s.now (s.busRec b).access .parked = { w with guard := none } := by
    rw [haccess]; exact WatchRecord.across_offPath rfl rfl (by decide)
  unfold State.connectEnds
  dsimp only
  rw [if_pos hpark]
  exact congrArg _ (hwatch _ _)

/-- The debounce timer of a bus that has come onto a sense path: it runs where the raw sense differs (R62, R63). -/
def WatchRecord.enteredTimer (raw : Bool) (now : Moment) (w : WatchRecord) : Option DebounceTimer :=
  if LoopState.ofRaw raw = w.loop then none
  else some ⟨w.settings.debounce, LoopState.ofRaw raw, now + w.settings.debounce⟩

theorem WatchRecord.across_entersPath {raw : Bool} {now : Moment} {old new : AccessState} {w : WatchRecord}
    (hold : sensePath old = none) (hnew : (sensePath new).isSome = true) (hidle : new ≠ .idle) (hguard : new ≠ .guard) :
    w.across raw now old new = { w with timer := w.enteredTimer raw now, guard := none } := by
  have hdiffer : sensePath old ≠ sensePath new := by rw [hold]; exact (Option.isSome_iff_ne_none.1 hnew).symm
  unfold WatchRecord.across
  rw [if_neg hidle, if_neg hguard, if_neg hdiffer, if_pos hnew]
  unfold WatchRecord.compare WatchRecord.enteredTimer
  dsimp only
  split <;> rfl

/-- The connect interval runs out with no park mark (R47). -/
theorem State.connectEnds_connects (haccess : (s.busRec b).access = .cutting) (hline : (s.busRec b).line = some line)
    (hpark : (s.busRec b).parkMark = false) :
    s.connectEnds b =
      ((s.setRelays line { s.relaysOf line with testPath := true }).setBusRec b
        { s.busRec b with access := .connected, func := .hold, interval := none }).setWatchRec b
        { s.watchRec b with timer := (s.watchRec b).enteredTimer (s.rawLoop b) s.now, guard := none } := by
  have hwatch (raw : Bool) (w : WatchRecord) : w.across raw s.now (s.busRec b).access .connected =
      { w with timer := w.enteredTimer raw s.now, guard := none } := by
    rw [haccess]; exact WatchRecord.across_entersPath rfl rfl (by decide) (by decide)
  have hrelays : s.moveRelays (s.busRec b).line (fun x => { x with testPath := true }) =
      s.setRelays line { s.relaysOf line with testPath := true } := State.moveRelays_some hline _
  unfold State.connectEnds
  dsimp only
  rw [if_neg (by rw [hpark]; decide), hrelays]
  exact congrArg _ (hwatch _ _)

end Reaches

/-- A mode that is not a level one has no level condition (R68). -/
theorem levelCause_edge {m : WatchMode} (hpresent : m ≠ .loopPresent) (habsent : m ≠ .loopAbsent) (x : LoopState) :
    levelCause m x = none := by
  cases m <;> first | rfl | contradiction

/-- A level test in a mode that is not a level one. -/
theorem Ctx.levelCheck_edge {c : Ctx} {b : Bus} (hpresent : (c.s.watchRec b).settings.mode ≠ .loopPresent)
    (habsent : (c.s.watchRec b).settings.mode ≠ .loopAbsent) : c.levelCheck b = c := by
  unfold Ctx.levelCheck
  rw [levelCause_edge hpresent habsent]
  rfl

/-- An ACCESSING job with a step left that no takeover mark names, its bus CONNECTED: it waits for a head (R101). -/
theorem Ctx.moveConnected_waits {c : Ctx} {id : Nat} {j : Job} (note : JobNote) (hj : c.s.job? id = some j)
    (hstep : j.step < j.recipe.length) (hprio : j.priority ≠ .urgent) (hmarks : ∀ k ∈ c.s.sched.jobs, k.takeover ≠ some id) :
    c.moveConnected id note = (c.upd fun s => s.waits id).jobChanged id note := by
  have hmarked : c.s.markedFor? id = none := List.find?_eq_none.2 fun k hk => by simp [hmarks k hk]
  unfold Ctx.moveConnected
  simp only [hmarked, hj]
  rw [if_pos hstep, Ctx.enterWaitHead_notUrgent note hj hprio]

/-- A connect interval runs out and leaves this state. -/
theorem connectRunsOut_reaches {s u : State} {b : Bus} {i : HeldInterval} (haccess : (s.busRec b).access = .cutting)
    (hinterval : (s.busRec b).interval = some i) (hu : ((Ctx.of s).s.reach i.runsOut).connectEnds b = u) :
    (Ctx.of s).connectRunsOut b = if (u.busRec b).access = .connected then Ctx.reachedConnected { Ctx.of s with s := u } b
      else { Ctx.of s with s := u } := by
  have h1 : ((Ctx.of s).s.busRec b).access = .cutting := haccess
  have h2 : ((Ctx.of s).s.busRec b).interval = some i := hinterval
  subst hu
  unfold Ctx.connectRunsOut
  simp only [h1, h2]
  rfl

/-- Settles O50: the three transitions of the bus and what its job makes of them. -/
theorem guardedAccessCutsThenConnects : Obligations.GuardedAccessCutsThenConnects := by
  refine ⟨?guard, fun s b i n r w hcalm hr haccess hinterval hn hw => ⟨fun hpark => ?parked, ?connected⟩⟩
  case guard =>
    intro s b m n id line d j r hcalm hr haccess hline howner hj hguard hloop hn hd _
    subst hr hd hn
    obtain rfl : j.id = id := State.job?_id hj
    let v : State := (Ctx.of s).s.reach m
    let u : State := ((v.setRelays line { s.relaysOf line with bridge := false, cutOpen := true }).setBusRec b
        { s.busRec b with access := .cutting, interval := some (v.connectTaken line) }).setWatchRec b
        { s.watchRec b with timer := none, guard := none }
    have hcut : v.guardIdleLine b = u := State.guardIdleLine_cuts haccess hline
    have hends : (Ctx.of s).guardWindowEnds b = { Ctx.of s with s := u, out := [.jobState j.id .none false] } := by
      have h1 : ((Ctx.of s).s.busRec b).access = .guard := haccess
      have h2 : ((Ctx.of s).s.watchRec b).guard = some m := hguard
      have h3 : ((Ctx.of s).s.watchRec b).loop ≠ .present := by
        rw [show ((Ctx.of s).s.watchRec b).loop = .absent from hloop]; decide
      have h4 : (u.busRec b).owner.bind u.job? = some j := by
        have hread : (u.busRec b).owner = some j.id := by simp [u, howner]
        rw [hread]
        exact hj
      unfold Ctx.guardWindowEnds
      simp only [h1, h2]
      refine (if_neg h3).trans ?_
      simp only [Ctx.upd]
      rw [show ((Ctx.of s).s.reach m).guardIdleLine b = u from hcut]
      simp only [h4]
      exact Ctx.jobChanged_first rfl _ _ _
    refine congrArg Host.Outcome.next (settled_tells hends (Ctx.settle_calm_quiet (hcalm.congr rfl rfl) rfl rfl) rfl ?_)
    exact (report_jobState (s := u) hj).trans (by simp [jobStateReport]; rfl)
  case parked =>
    subst hr hn hw
    let v : State := (Ctx.of s).s.reach i.runsOut
    let u : State := (v.setBusRec b { s.busRec b with access := .parked, func := .none, interval := none, parkMark := false }).setWatchRec
      b { s.watchRec b with guard := none }
    have hparks : v.connectEnds b = u := State.connectEnds_parks haccess hpark
    have hends : (Ctx.of s).connectRunsOut b = { Ctx.of s with s := u } :=
      (connectRunsOut_reaches haccess hinterval hparks).trans (if_neg (by simp [u]))
    exact congrArg Host.Outcome.next (settled_tells hends (Ctx.settle_calm_quiet (hcalm.congr rfl rfl) rfl rfl) rfl rfl)
  case connected =>
    intro line id j timer htimer hpark hline howner hj hstate hstep hprio hmarks hheads hpresent habsent
    subst hr hn hw htimer
    obtain rfl : j.id = id := State.job?_id hj
    let v : State := (Ctx.of s).s.reach i.runsOut
    let u : State := ((v.setRelays line { s.relaysOf line with testPath := true }).setBusRec b
        { s.busRec b with access := .connected, func := .hold, interval := none }).setWatchRec b
        { s.watchRec b with timer := (s.watchRec b).enteredTimer (s.rawLoop b) v.now, guard := none }
    let c : Ctx := { Ctx.of s with s := u }
    have hconnects : v.connectEnds b = u := State.connectEnds_connects haccess hline hpark
    have hmode : (u.watchRec b).settings.mode = (s.watchRec b).settings.mode := by simp [u]
    have hreached : c.reachedConnected b = { c with s := u.waits j.id, out := [.jobState j.id .none false] } := by
      have h4 : (u.busRec b).owner.bind u.job? = some j := by
        have hread : (u.busRec b).owner = some j.id := by simp [u, howner]
        rw [hread]
        exact hj
      unfold Ctx.reachedConnected
      rw [Ctx.levelCheck_edge (by rw [hmode]; exact hpresent) (by rw [hmode]; exact habsent)]
      simp only [c, h4]
      rw [if_pos hstate, Ctx.moveConnected_waits (c := c) .none hj hstep hprio hmarks]
      exact Ctx.jobChanged_first (c := c.upd fun s => s.waits j.id) rfl _ _ _
    have hends : (Ctx.of s).connectRunsOut b = { c with s := u.waits j.id, out := [.jobState j.id .none false] } :=
      (connectRunsOut_reaches haccess hinterval hconnects).trans ((if_pos (by simp [u])).trans hreached)
    refine congrArg Host.Outcome.next (settled_tells hends
      (Ctx.settle_quiet hcalm.exits (State.nextHandout_none hheads) rfl rfl) rfl ?_)
    refine (report_jobState (s := u.waits j.id) (State.job?_waits (s := u) hj)).trans ?_
    simp [jobStateReport, Job.waiting]
    rfl

/-! ## The loop sense (R61 to R70) -/

theorem WatchSettings.debounce_eq (w : WatchSettings) : w.debounce = 2 ^ w.n * (if w.base = .four then 32 else 2) := by
  unfold WatchSettings.debounce
  cases w.base <;> rfl

/-- A change of the raw sense of a bus with no sense path. -/
theorem exec_loopChange_noPath {s : State} {b : Bus} {v : Bool} (hpath : sensePath (s.busRec b).access = none) :
    event (fun c => c.loopChange b v) s =
      ({ s with pins := { s.pins with loops := Table.set false s.pins.loops b.val v } } : State).tells [] := by
  have hchange : ((Ctx.of s).loopChange b v).s =
      { s with port := [], pins := { s.pins with loops := Table.set false s.pins.loops b.val v } } := by
    unfold Ctx.loopChange Ctx.upd
    dsimp only
    refine if_neg ?_
    rw [Option.not_isSome_iff_eq_none]
    exact hpath
  exact event_telling (f := fun c => c.loopChange b v) hchange rfl

/-- A change of the raw sense of a bus with a sense path. -/
theorem exec_loopChange_path {s : State} {b : Bus} {v : Bool} (hpath : (sensePath (s.busRec b).access).isSome = true) :
    event (fun c => c.loopChange b v) s =
      (({ s with pins := { s.pins with loops := Table.set false s.pins.loops b.val v } } : State).setWatchRec b
        ((s.watchRec b).follow v s.now)).tells [] := by
  have hchange : ((Ctx.of s).loopChange b v).s =
      ({ s with port := [], pins := { s.pins with loops := Table.set false s.pins.loops b.val v } } : State).setWatchRec b
        ((s.watchRec b).follow v s.now) := by
    unfold Ctx.loopChange Ctx.upd
    dsimp only
    exact if_pos hpath
  exact event_telling (f := fun c => c.loopChange b v) hchange rfl

section Debounce
variable {s : State} {b : Bus} {t : DebounceTimer}

/-- The state in which the debounced loop has taken the timer's aim. -/
def State.debounced (s : State) (b : Bus) (t : DebounceTimer) : State :=
  (s.reach t.runsOut).setWatchRec b { s.watchRec b with loop := t.aim, timer := none }

theorem State.debounced_watchRec : (s.debounced b t).watchRec b = { s.watchRec b with loop := t.aim, timer := none } := by
  simp [State.debounced]

theorem debounceEnds_eq (htimer : (s.watchRec b).timer = some t) :
    (Ctx.of s).debounceEnds b = Ctx.edgeActs { Ctx.of s with s := (Ctx.of s).s.debounced b t } b := by
  have h1 : ((Ctx.of s).s.watchRec b).timer = some t := htimer
  unfold Ctx.debounceEnds
  simp only [h1]
  rfl

theorem Ctx.edgeActs_rises {c : Ctx} {w : WatchRecord} (hw : c.s.watchRec b = w) (haccess : (c.s.busRec b).access ≠ .guard) :
    c.edgeActs b = c.mayRise b ((edgeCause w.settings.mode w.loop).or (levelCause w.settings.mode w.loop)) := by
  subst hw
  unfold Ctx.edgeActs
  exact if_neg haccess

/-- A debounce timer runs out on a bus that is not in GUARD. -/
theorem debounceEnds_rises (htimer : (s.watchRec b).timer = some t) (haccess : (s.busRec b).access ≠ .guard) :
    (Ctx.of s).debounceEnds b = Ctx.mayRise { Ctx.of s with s := (Ctx.of s).s.debounced b t } b
      ((edgeCause (s.watchRec b).settings.mode t.aim).or (levelCause (s.watchRec b).settings.mode t.aim)) :=
  (debounceEnds_eq htimer).trans (Ctx.edgeActs_rises (c := { Ctx.of s with s := (Ctx.of s).s.debounced b t })
    (State.debounced_watchRec (s := (Ctx.of s).s)) haccess)

/-- The WATCH-EVENT of a rise, its debounced state filled in at the event's end. -/
def riseEvent (s : State) (b : Bus) (cause : WatchCause) : WatchEvent :=
  ⟨b, (s.busRec b).line, (s.busRec b).owner, cause, (s.watchRec b).loop, (s.watchRec b).settings.mode,
    (s.watchRec b).settings.action, s.link.time⟩

/-- Pending rises under the action REPORT (R69). -/
theorem Ctx.mayRise_reports {c : Ctx} {cause : WatchCause} (hwatched : (c.s.busRec b).access.watched = true)
    (hpending : (c.s.watchRec b).pending = false) (haction : (c.s.watchRec b).settings.action = .report) :
    c.mayRise b (some cause) = (c.upd fun s => s.setWatchRec b { c.s.watchRec b with pending := true }).put
      (.early (.watch (riseEvent c.s b cause))) := by
  unfold Ctx.mayRise
  refine (if_pos ⟨hwatched, hpending⟩).trans ?_
  unfold Ctx.rise
  simp only [haction]
  rw [riseEvent, haction]

/-- Pending rises under the action YIELD (R69, R70). -/
theorem Ctx.mayRise_yields {c : Ctx} {cause : WatchCause} (hwatched : (c.s.busRec b).access.watched = true)
    (hpending : (c.s.watchRec b).pending = false) (haction : (c.s.watchRec b).settings.action = .yield) :
    c.mayRise b (some cause) = ((c.upd fun s => s.setWatchRec b { c.s.watchRec b with pending := true }).put
      (.early (.watch (riseEvent c.s b cause)))).yieldBus b := by
  unfold Ctx.mayRise
  refine (if_pos ⟨hwatched, hpending⟩).trans ?_
  unfold Ctx.rise
  simp only [haction]
  rw [riseEvent, haction]

/-- Nothing rises without a cause, or where pending stands. -/
theorem Ctx.mayRise_nothing {c : Ctx} {cause : Option WatchCause} (h : cause = none ∨ (c.s.watchRec b).pending = true) :
    c.mayRise b cause = c := by
  unfold Ctx.mayRise
  split
  · rfl
  next k =>
    rcases h with h | h
    · cases h
    · exact if_neg fun hk => by simp [h] at hk

end Debounce

/-- The guard of a line that nothing else names ends BUSY: the line returns and its desk job leaves the table (R43, R101). -/
theorem Ctx.judgeBusy_desk {c : Ctx} {b : Bus} {id line p : Nat} {j : Job} (haccess : (c.s.busRec b).access ≠ .idle)
    (hline : (c.s.busRec b).line = some line) (howner : (c.s.busRec b).owner = some id) (hj : c.s.job? id = some j)
    (hhead : j.head = none) (hp : j.source = .desk p) (hout : c.out = [])
    (hmarks : ∀ k ∈ c.s.sched.jobs, k.takeover ≠ some id ∧ k.claim ≠ some id) :
    c.judgeBusy b =
      { s := ((((c.s.setJobs (c.s.sched.jobs.filter fun k => k.id != id)).setRelays line
            { c.s.relaysOf line with bridge := false }).setGroupSel (line / 64) none).setBusRec b BusRecord.initial).setWatchRec b
            WatchRecord.initial
        out := [.late (jobResultReport c.s j .busy)], walkDue := true, issueDue := true } := by
  obtain rfl : j.id = id := State.job?_id hj
  let u : State := (((c.s.setRelays line { c.s.relaysOf line with bridge := false }).setGroupSel (line / 64) none).setBusRec b
    BusRecord.initial).setWatchRec b WatchRecord.initial
  have hbusy : c.s.guardBusy b = u := State.guardBusy_returns hline haccess
  have hfound : (c.s.busRec b).owner.bind c.s.job? = some j := by rw [howner]; exact hj
  have hremove := Ctx.removeJob_desk (c := { c with s := u, walkDue := true }) .busy hj hhead hp hmarks
  have hhand : ({ c with s := u, walkDue := true } : Ctx).handOverJob j .busy = { c with s := u, walkDue := true } :=
    if_neg (by simp [hp])
  unfold Ctx.judgeBusy
  simp only [hfound, Ctx.upd, Ctx.walk, hbusy, hhand]
  rw [hremove]
  simp only [hout]
  rfl

/-- The table without a job, whatever has been made of that job. -/
theorem filter_updJob {id : Nat} {f : Job → Job} (hf : ∀ k, (f k).id = k.id) (js : List Job) :
    (js.map fun k => if k.id = id then f k else k).filter (fun k => k.id != id) = js.filter fun k => k.id != id := by
  induction js with
  | nil => rfl
  | cons k ks ih =>
    by_cases h : k.id = id
    · simp [h, hf, ih]
    · simp [h, ih]

/-- A desk job without a head, which nothing names, asks for its release and leaves the table with the return of its bus. -/
theorem Ctx.askRelease_leaves {c : Ctx} {id p : Nat} {o : JobOutcome} {j : Job} {b : Bus} {u : State} (hj : c.s.job? id = some j)
    (hstate : j.state ≠ .measuring) (hhead : j.head = none) (hp : j.source = .desk p) (hb : j.bus = some b)
    (howner : (c.s.busRec b).owner = some id) (hmarks : ∀ k ∈ c.s.sched.jobs, k.takeover ≠ some id ∧ k.claim ≠ some id)
    (hu : (c.s.updJob id (Job.released o)).releaseBus false b = u) (hsched : u.sched = (c.s.updJob id (Job.released o)).sched)
    (hidle : (u.busRec b).access = .idle) :
    c.askRelease id o =
      { s := u.setJobs (c.s.sched.jobs.filter fun k => k.id != id)
        out := c.out.filter (fun i => !i.isStateOf id) ++ [.late (jobResultReport u (j.released o) o)]
        walkDue := true, issueDue := true } := by
  subst hu
  have hfree : c.freeJobHead id = c := by
    unfold Ctx.freeJobHead
    simp only [hj, hhead]
  let u : State := (c.s.updJob id (Job.released o)).releaseBus false b
  let c1 : Ctx := { c.jobChanged id .none with s := u }
  have hfound : c1.s.job? id = some (j.released o) := by
    rw [State.job?, show c1.s.sched = (c.s.updJob id (Job.released o)).sched from hsched]
    exact State.job?_changed hj fun _ => rfl
  have hmarks' : ∀ k ∈ c1.s.sched.jobs, k.takeover ≠ some id ∧ k.claim ≠ some id := by
    intro k hk
    rw [show c1.s.sched = (c.s.updJob id (Job.released o)).sched from hsched] at hk
    obtain ⟨m, hm, rfl⟩ := List.mem_map.1 hk
    split
    · exact hmarks m hm
    · exact hmarks m hm
  have hremove := Ctx.removeJob_desk (c := c1) o hfound hhead hp hmarks'
  have hleft : c.askRelease id o = (c1.removeJob id o).walk := by
    unfold Ctx.askRelease
    simp only [hj, if_neg hstate, hb, hfree]
    refine (if_pos howner).trans ?_
    exact if_pos hidle
  have hjobs : c1.s.sched.jobs.filter (fun k => k.id != id) = c.s.sched.jobs.filter fun k => k.id != id := by
    rw [show c1.s.sched = (c.s.updJob id (Job.released o)).sched from hsched]
    exact filter_updJob (f := Job.released o) (fun _ => rfl) _
  have hout : c1.out.filter (fun i => !i.isStateOf id) = c.out.filter fun i => !i.isStateOf id := by
    simp [c1, Ctx.jobChanged, OutItem.isStateOf, List.filter_append, List.filter_filter]
  rw [hleft, hremove, hjobs, hout]
  rfl

/-- Settles O52: the timer follows the raw sense, and a debounced edge rises, yields or ends the guard by the access. -/
theorem loopIsDebouncedAndActedOn : Obligations.LoopIsDebouncedAndActedOn := by
  refine ⟨fun s b v w d s' hw hd hs' => ⟨fun haccess => ?noPath, fun haccess => ⟨fun hsame => ?dropped, fun hdiffer htimer => ?starts,
      fun hdiffer htimer => ?stands⟩⟩, fun s b t w r n hw htimer hr hn haction => ⟨fun haccess hcalm => ⟨?rises, ?quiet⟩, ?busy⟩, ?yield⟩
  case noPath =>
    subst hs'
    exact congrArg Host.Outcome.next (exec_loopChange_noPath (by rcases haccess with h | h | h | h <;> rw [h] <;> rfl))
  case dropped =>
    subst hs' hw
    refine congrArg Host.Outcome.next ((exec_loopChange_path (by rcases haccess with h | h | h <;> rw [h] <;> rfl)).trans ?_)
    rw [WatchRecord.follow, if_pos hsame]
  case starts =>
    subst hs' hw hd
    refine congrArg Host.Outcome.next ((exec_loopChange_path (by rcases haccess with h | h | h <;> rw [h] <;> rfl)).trans ?_)
    rw [WatchRecord.follow, if_neg hdiffer, if_neg (by simp [htimer]), WatchRecord.compare, if_neg hdiffer, WatchSettings.debounce_eq]
  case stands =>
    subst hs' hw
    refine congrArg Host.Outcome.next ((exec_loopChange_path (by rcases haccess with h | h | h <;> rw [h] <;> rfl)).trans ?_)
    rw [WatchRecord.follow, if_neg hdiffer, if_pos htimer]
  case rises =>
    intro k hcause hpending
    subst hw hr hn
    let c : Ctx := { Ctx.of s with s := (Ctx.of s).s.debounced b t }
    have hwatch : c.s.watchRec b = { s.watchRec b with loop := t.aim, timer := none } :=
      State.debounced_watchRec (s := (Ctx.of s).s)
    have hguard : (s.busRec b).access ≠ .guard := by rcases haccess with h | h <;> rw [h] <;> decide
    have hwatched : (c.s.busRec b).access.watched = true := by
      show (s.busRec b).access.watched = true
      rcases haccess with h | h <;> rw [h] <;> rfl
    have hrises := debounceEnds_rises htimer hguard
    rw [hcause, Ctx.mayRise_reports (c := c) hwatched (by rw [hwatch]; exact hpending) (by rw [hwatch]; exact haction)] at hrises
    refine congrArg Host.Outcome.next (settled_tells hrises (Ctx.settle_calm_quiet (hcalm.congr rfl rfl) rfl rfl) ?_ ?_)
    · rw [hwatch]
      exact State.setWatchRec_setWatchRec (s := (Ctx.of s).s.reach t.runsOut) b _ _
    · simp [ordered, OutItem.report, Report.atEnd, riseEvent, Ctx.upd, Ctx.put, hwatch, haction]
      rfl
  case quiet =>
    intro hnone
    subst hw hr hn
    let c : Ctx := { Ctx.of s with s := (Ctx.of s).s.debounced b t }
    have hwatch : c.s.watchRec b = { s.watchRec b with loop := t.aim, timer := none } :=
      State.debounced_watchRec (s := (Ctx.of s).s)
    have hguard : (s.busRec b).access ≠ .guard := by rcases haccess with h | h <;> rw [h] <;> decide
    have hrises := (debounceEnds_rises htimer hguard).trans
      (Ctx.mayRise_nothing (c := c) (hnone.imp_right fun h => by rw [hwatch]; exact h))
    exact congrArg Host.Outcome.next (settled_tells hrises (Ctx.settle_calm_quiet (hcalm.congr rfl rfl) rfl rfl) rfl rfl)
  case busy =>
    intro id line p j haccess haim hs hline howner hj hhead hp hmarks
    subst hw hr hn
    let c : Ctx := { Ctx.of s with s := (Ctx.of s).s.debounced b t }
    have hwatch : c.s.watchRec b = { s.watchRec b with loop := t.aim, timer := none } :=
      State.debounced_watchRec (s := (Ctx.of s).s)
    have hidle : (s.busRec b).access ≠ .idle := by rw [haccess]; decide
    have hbusy : (Ctx.of s).debounceEnds b = c.judgeBusy b := by
      rw [debounceEnds_eq htimer]
      unfold Ctx.edgeActs
      refine (if_pos haccess).trans (if_pos ?_)
      rw [hwatch, haim]
    have hleft := Ctx.judgeBusy_desk (c := c) hidle hline howner hj hhead hp rfl hmarks
    have hrest : Settled (s.setJobs (s.sched.jobs.filter fun k => k.id != id)) := hs.setJobs fun k hk => List.mem_of_mem_filter hk
    refine congrArg Host.Outcome.next (settled_tells (hbusy.trans hleft) (Ctx.settle_done (hrest.congr rfl rfl rfl)) ?_ ?_)
    · exact State.setWatchRec_setWatchRec (s := (((({ s with now := max s.now t.runsOut, port := [] } : State).setJobs
        (s.sched.jobs.filter fun k => k.id != id)).setRelays line { s.relaysOf line with bridge := false }).setGroupSel
        (line / 64) none).setBusRec b BusRecord.initial) b { s.watchRec b with loop := t.aim, timer := none } WatchRecord.initial
    · simp [ordered, OutItem.report, Report.atEnd, jobResultReport, hp, State.job?_id hj]
      rfl
  case yield =>
    intro s b t w r k id line p j hw htimer hr haction hpending hcause hs haccess hline howner hspeech hj hstate hb hhead hp hmarks
    subst hw hr
    obtain rfl : j.id = id := State.job?_id hj
    let c : Ctx := { Ctx.of s with s := (Ctx.of s).s.debounced b t }
    have hwatch : c.s.watchRec b = { s.watchRec b with loop := t.aim, timer := none } :=
      State.debounced_watchRec (s := (Ctx.of s).s)
    let c1 : Ctx := (c.upd fun s => s.setWatchRec b { c.s.watchRec b with pending := true }).put
      (.early (.watch (riseEvent c.s b k)))
    let v : State := c1.s.updJob j.id (Job.released .yielded)
    let u : State := (((v.setRelays line { s.relaysOf line with bridge := false }).setGroupSel (line / 64) none).setBusRec b
      BusRecord.initial).setWatchRec b WatchRecord.initial
    have hu : v.releaseBus false b = u := State.releaseBus_monitor hline haccess hspeech
    have hrises : (Ctx.of s).debounceEnds b = c1.askRelease j.id .yielded := by
      have hfound : (c1.s.busRec b).owner.bind c1.s.job? = some j := by
        rw [show (c1.s.busRec b).owner = some j.id from howner]
        exact hj
      have hhand : c1.handOverJob j .yielded = c1 := if_neg (by simp [hp])
      have hyield : c1.yieldBus b = c1.askRelease j.id .yielded := by
        unfold Ctx.yieldBus
        simp only [hfound, hstate, hhand]
      have h := debounceEnds_rises htimer (by rw [haccess]; decide)
      rw [hcause, Ctx.mayRise_yields (c := c) (by
        show (s.busRec b).access.watched = true
        rw [haccess]; rfl) (by rw [hwatch]; exact hpending) (by rw [hwatch]; exact haction)] at h
      exact h.trans hyield
    have hleft := Ctx.askRelease_leaves (c := c1) (u := u) hj (by rw [hstate]; decide) hhead hp hb howner hmarks hu rfl
      (by simp [u]; rfl)
    have hrest : Settled (s.setJobs (s.sched.jobs.filter fun m => m.id != j.id)) := hs.setJobs fun k hk => List.mem_of_mem_filter hk
    refine congrArg Host.Outcome.next (settled_tells (hrises.trans hleft) (Ctx.settle_done (hrest.congr rfl rfl rfl)) ?_ ?_)
    · let x : State := (((({ s with now := max s.now t.runsOut, port := [] } : State).setJobs
        (s.sched.jobs.filter fun m => m.id != j.id)).setRelays line { s.relaysOf line with bridge := false }).setGroupSel
        (line / 64) none).setBusRec b BusRecord.initial
      show ((x.setWatchRec b { s.watchRec b with loop := t.aim, timer := none }).setWatchRec b
        { c.s.watchRec b with pending := true }).setWatchRec b WatchRecord.initial = x.setWatchRec b WatchRecord.initial
      rw [State.setWatchRec_setWatchRec, State.setWatchRec_setWatchRec]
    · have hevent : (riseEvent c.s b k) = ⟨b, some line, some j.id, k, t.aim, (s.watchRec b).settings.mode, .yield, s.link.time⟩ := by
        rw [riseEvent, hwatch, ← hline, ← howner, ← haction]
        rfl
      have hloop : (u.watchRec b).loop = .absent := by simp [u]; rfl
      have hresult : jobResultReport u (j.released .yielded) .yielded =
          .jobResult ⟨j.id, .yielded, .desk p, j.line, s.link.time, j.verification, none, j.results⟩ := by
        rw [← hp]
        rfl
      show [Report.watch { riseEvent c.s b k with loop := (u.watchRec b).loop }, (jobResultReport u (j.released .yielded) .yielded).atEnd
        (u.setJobs _)] = _
      rw [hevent, hloop, hresult]
      rfl

end Sys2Proof.Machine
end

section
/-! PROOF. The hazard inputs: the release filter, the end of a condition under FOLLOW, and an onset (R75 to R90). -/

namespace Sys2Proof.Machine

theorem State.setHazardRec_setHazardRec {s : State} (b : Bus) (r r' : HazardRecord) :
    (s.setHazardRec b r).setHazardRec b r' = s.setHazardRec b r' :=
  congrArg (fun x => { s with hazards := { s.hazards with records := x } }) (Table.set_set _ _ _ _ _)

/-- No exit is pending after a hazard record without one is written. -/
theorem State.exits_setHazardRec {s : State} {b : Bus} {r : HazardRecord} (hr : r.exit = none)
    (hs : ∀ b', (s.hazardRec b').exit = none) (b' : Bus) : ((s.setHazardRec b r).hazardRec b').exit = none := by
  rw [State.setHazardRec_hazardRec]
  split
  · exact hr
  · exact hs b'

/-- The one exit that is due. -/
theorem State.dueExit_one {s : State} {b : Bus} (hb : s.exitDue b = true) (hother : ∀ b', b' ≠ b → s.exitDue b' = false) :
    s.dueExit? = some b := by
  have hfilter : allBuses.filter s.exitDue = allBuses.filter fun b' => b' = b := by
    refine List.filter_congr fun b' _ => ?_
    by_cases h : b' = b
    · subst h; simp [hb]
    · simp [h, hother b' h]
  rw [State.dueExit?, ← List.head?_filter, hfilter]
  exact (by decide : ∀ b : Bus, (allBuses.filter fun b' => b' = b).head? = some b) b

/-! ## The release filter (R75, R78, R85) -/

section Release
variable {s : State} {b : Bus}

/-- The state in which an input of hazard A is GONE. -/
def State.gone (s : State) (b : Bus) (m : Moment) : State :=
  (s.reach m).setHazardRec b { s.hazardRec b with a := { (s.hazardRec b).a with input := .gone } }

/-- The report that an input of hazard A is GONE. -/
def goneEvent (s : State) (b : Bus) (inEffect : Bool) : OutItem :=
  .early (.hazard ⟨.gone, .a, some b, inEffect, 0#6, none, none, s.link.time⟩)

/-- The release filter runs out and the condition stays as it is. -/
theorem inputGone_stays {m : Moment} (hinput : (s.hazardRec b).a.input = .filtering m)
    (hstays : ((s.hazardRec b).a.inEffect && (s.hazards.settingsA.mode == .follow || (s.hazardRec b).a.clearTaken)) = false) :
    (Ctx.of s).inputGone (.a b) =
      ({ Ctx.of s with s := (Ctx.of s).s.gone b m } : Ctx).put (goneEvent s b (s.hazardRec b).a.inEffect) := by
  have h1 : ((Ctx.of s).s.condition (.a b)).input = .filtering m := hinput
  have h2 : (((Ctx.of s).s.condition (.a b)).inEffect && (((Ctx.of s).s.settingsOf (hazardOf (.a b))).mode == .follow ||
      ((Ctx.of s).s.condition (.a b)).clearTaken)) = false := hstays
  unfold Ctx.inputGone
  simp only [h1, h2, Bool.not_false, Bool.and_true]
  rfl

/-- The release filter runs out under FOLLOW on a condition in effect, which ends. -/
theorem inputGone_follows {m : Moment} (hinput : (s.hazardRec b).a.input = .filtering m)
    (heffect : (s.hazardRec b).a.inEffect = true) (hmode : s.hazards.settingsA.mode = .follow) :
    (Ctx.of s).inputGone (.a b) =
      (({ Ctx.of s with s := (Ctx.of s).s.gone b m } : Ctx).put (goneEvent s b false)).endCondition (.a b) := by
  have h1 : ((Ctx.of s).s.condition (.a b)).input = .filtering m := hinput
  have h2 : ((Ctx.of s).s.condition (.a b)).inEffect = true := heffect
  have h3 : (((Ctx.of s).s.settingsOf (hazardOf (.a b))).mode == .follow) = true := by
    rw [beq_iff_eq]
    exact hmode
  unfold Ctx.inputGone
  simp only [h1, h2, h3, Bool.true_or, Bool.and_true, Bool.not_true, if_true, State.gone,
    show ((Ctx.of s).s.hazardRec b).a.inEffect = true from heffect]
  rfl

/-- The end of hazard A's condition on a bus in its enable set, in the hazard state A. -/
theorem Ctx.endCondition_pends {c : Ctx} {r : HazardRecord} (hr : r = c.s.hazardRec b)
    (henable : inSet c.s.hazards.settingsA.enable b = true) (hstate : r.state = .a)
    (hstorm : inSet c.s.hazards.settingsB.enable b = false) :
    c.endCondition (.a b) = c.upd fun s => s.setHazardRec b
      { r with a := { r.a with inEffect := false, clearTaken := false }, exit := some .toNone } := by
  subst hr
  have hhit : (concerned (.a b)).filter (fun b' => inSet (c.s.settingsOf (hazardOf (.a b))).enable b') = [b] := by
    simp only [concerned, hazardOf, State.settingsOf]
    exact List.filter_eq_self.2 fun x hx => by rw [List.mem_singleton.1 hx]; exact henable
  let r' : HazardRecord := { c.s.hazardRec b with a := { (c.s.hazardRec b).a with inEffect := false, clearTaken := false } }
  have hstop : (c.s.setHazardRec b r').stopApplying .a b = (c.s.setHazardRec b r').setHazardRec b { r' with exit := some .toNone } := by
    have hread : (c.s.setHazardRec b r').hazardRec b = r' := State.setHazardRec_hazardRec_same _ _ _
    have happlies : (c.s.setHazardRec b r').applies .b b = false := by
      show (c.s.hazards.storm.inEffect && inSet c.s.hazards.settingsB.enable b) = false
      rw [hstorm, Bool.and_false]
    unfold State.stopApplying
    simp only [hread, happlies, show r'.state = .a from hstate]
    rfl
  unfold Ctx.endCondition
  simp only [hhit]
  refine (if_neg (by simp)).trans ?_
  refine congrArg (fun s => ({ c with s := s } : Ctx)) ?_
  refine hstop.trans ?_
  rw [State.setHazardRec_setHazardRec]

/-- A pending exit of a bus without owner. -/
theorem Ctx.makeExit_unowned {c : Ctx} {r : HazardRecord} (hr : r = c.s.hazardRec b) (hstate : r.state = .a)
    (hexit : r.exit = some .toNone) (howner : (c.s.busRec b).owner = none) :
    ∃ w, c.makeExit b = { c with
      s := c.s.setHazardRec b { r with state := .none, exit := none }
      out := c.out ++ [.early (.hazard ⟨.exit, .a, some b, r.a.inEffect, busBit b, some .none, none, c.s.link.time⟩)]
      walkDue := w } := by
  subst hr
  let c1 : Ctx := { c with
    s := c.s.setHazardRec b { c.s.hazardRec b with state := .none, exit := none }
    out := c.out ++ [.early (.hazard ⟨.exit, .a, some b, (c.s.hazardRec b).a.inEffect, busBit b, some .none, none, c.s.link.time⟩)] }
  have hnormal : c1.returnToNormal b = c1 := by
    have h1 : (c1.s.busRec b).owner.bind c1.s.job? = none := by
      rw [show (c1.s.busRec b).owner = none from howner]
      rfl
    unfold Ctx.returnToNormal
    simp only [h1]
  have hmake : c.makeExit b = if c1.s.allocatable b then c1.walk else c1 := by
    unfold Ctx.makeExit
    simp only [hstate, hexit]
    have htell : ({ c with s := c.s.setHazardRec b { c.s.hazardRec b with state := .none, exit := none } } : Ctx).put
        (.early (.hazard ⟨.exit, .a, inputBusOf .a b,
          (c.s.setHazardRec b { c.s.hazardRec b with state := .none, exit := none }).inEffectAt .a b, busBit b, some .none, none,
          c.s.link.time⟩)) = c1 := by
      simp [Ctx.put, inputBusOf, State.inEffectAt, c1]
    exact (congrArg (fun d : Ctx => if (d.returnToNormal b).s.allocatable b = true then (d.returnToNormal b).walk
      else d.returnToNormal b) htell).trans (by simp only [hnormal])
  rw [hmake]
  split
  · exact ⟨true, rfl⟩
  · exact ⟨c.walkDue, rfl⟩

end Release

/-- Settles O54: the filter starts, ends in effect under LATCHED, and under FOLLOW ends the condition and makes the exit. -/
theorem hazardReleaseEndsAFollowedCondition : Obligations.HazardReleaseEndsAFollowedCondition := by
  intro s b k hk
  subst hk
  refine ⟨fun running hinput => ?inactive, fun m hs hinput heffect => ⟨fun hmode hclear => ?latched,
    fun hmode henable hstate hstorm howner hheads => ?follow⟩⟩ <;> refine congrArg Host.Outcome.next ?_
  case inactive =>
    have hstarts : (Ctx.of s).inputInactive (.a b) = (Ctx.of s).upd fun s => (s.setHazardPin (.a b) false).setHazardRec b
        { s.hazardRec b with a := { (s.hazardRec b).a with input := .filtering (s.now + 400) } } := by
      unfold Ctx.inputInactive
      refine (if_neg (show ¬s.resets.active = true by rw [running]; decide)).trans ?_
      have h1 : (((Ctx.of s).upd fun s => s.setHazardPin (.a b) false).s.condition (.a b)).input = .asserted := hinput
      simp only [h1]
      rfl
    exact event_telling (f := fun c => c.inputInactive (.a b)) (by rw [hstarts]; rfl) (by rw [hstarts]; rfl)
  case latched =>
    have hgone := inputGone_stays hinput (by rw [hmode, hclear]; simp)
    rw [heffect] at hgone
    have hrest : Settled ((Ctx.of s).s.gone b m) :=
      ⟨⟨State.exits_setHazardRec (hs.exits b) hs.exits, hs.heads⟩, hs.queue, hs.sweep⟩
    exact settled_tells hgone (Ctx.settle_done hrest) rfl rfl
  case follow =>
    have hgone := inputGone_follows hinput heffect hmode
    let v : State := (Ctx.of s).s.reach m
    let r : HazardRecord := { s.hazardRec b with a := { (s.hazardRec b).a with input := .gone } }
    let r' : HazardRecord := ⟨⟨.gone, false, false⟩, .a, some .toNone⟩
    let c1 : Ctx := ({ Ctx.of s with s := v.setHazardRec b r } : Ctx).put (goneEvent s b false)
    let c2 : Ctx := { c1 with s := v.setHazardRec b r' }
    have hpends : (Ctx.of s).inputGone (.a b) = c2 := by
      have hread : r = c1.s.hazardRec b := (State.setHazardRec_hazardRec_same (s := v) b r).symm
      refine hgone.trans ((Ctx.endCondition_pends (c := c1) hread henable hstate hstorm).trans ?_)
      refine congrArg (fun s => ({ c1 with s := s } : Ctx)) ((State.setHazardRec_setHazardRec b _ _).trans ?_)
      rw [show ({ r with a := { r.a with inEffect := false, clearTaken := false }, exit := some .toNone } : HazardRecord) = r' by
        simp [r, r', hstate]]
    have hread : c2.s.hazardRec b = r' := State.setHazardRec_hazardRec_same (s := v) b r'
    have hdue : c2.s.dueExit? = some b := by
      refine State.dueExit_one ?_ fun b' hb' => ?_
      · have hreserved : c2.s.reservedHead? b = none := by
          refine List.find?_eq_none.2 fun h _ hfound => ?_
          obtain ⟨hreserved, hbus⟩ := (Bool.and_eq_true _ _).mp hfound
          exact hheads h (beq_iff_eq.1 hreserved) (beq_iff_eq.1 hbus)
        simp [State.exitDue, hread, hreserved, r']
      · have hexit : (c2.s.hazardRec b').exit = none := by
          rw [show c2.s.hazardRec b' = s.hazardRec b' by
            refine (State.setHazardRec_hazardRec (s := v) b' b r').trans ?_
            rw [if_neg hb']; rfl]
          exact hs.exits b'
        simp [State.exitDue, hexit]
    obtain ⟨w, hmake⟩ := Ctx.makeExit_unowned (c := c2) hread.symm rfl rfl howner
    have hleft : (c2.makeExit b).s = v.setHazardRec b ⟨⟨.gone, false, false⟩, .none, none⟩ := by
      rw [hmake]
      exact State.setHazardRec_setHazardRec (s := v) b _ _
    have hrest : Settled (c2.makeExit b).s := by
      rw [hleft]
      exact ⟨⟨State.exits_setHazardRec (s := v) rfl hs.exits, hs.heads⟩, hs.queue, hs.sweep⟩
    have hsettle : c2.settle settleFuel = { c2.makeExit b with walkDue := false, issueDue := false } := by
      have hstep : c2.settleStep = some (c2.makeExit b) := by
        unfold Ctx.settleStep
        simp only [hdue]
      have hfuel : c2.settle settleFuel = (c2.makeExit b).settle 399 := by
        show Ctx.settle (399 + 1) c2 = _
        rw [Ctx.settle, hstep]
      rw [hfuel]
      exact Ctx.settle_settled hrest 397
    have hevent : ((Ctx.of s).inputGone (.a b)).settle settleFuel = { c2.makeExit b with walkDue := false, issueDue := false } := by
      rw [hpends, hsettle]
    refine event_telling (f := fun c => (c.inputGone (.a b)).settle settleFuel) ?_ ?_
    · rw [hevent]
      exact hleft
    · rw [hevent, hmake]
      rfl

/-! ## An onset of hazard A (R55, R75, R80 to R84) -/

/-- A condition in effect by an asserted input. -/
def Condition.onset : Condition := ⟨.asserted, true, false⟩

section Onset
variable {b : Bus} {line : Nat}

theorem busMask_one {f : Bus → Bool} (hf : ∀ b', f b' = decide (b' = b)) : busMask f = busBit b := by
  rw [show f = fun b' => decide (b' = b) from funext hf]
  exact (by decide : ∀ b : Bus, busMask (fun b' => decide (b' = b)) = busBit b) b

/-- The park of a CONNECTED bus with no speech and no head (R55). -/
theorem State.park_connected {s : State} (access : (s.busRec b).access = .connected) (hline : (s.busRec b).line = some line)
    (speech : (s.busRec b).speech = none) (head : (s.busRec b).head = none) :
    s.park b = ((s.setRelays line { s.relaysOf line with testPath := false }).setBusRec b
        { s.busRec b with access := .parked, func := .none }).setWatchRec b { s.watchRec b with timer := none, guard := none } := by
  have hwatch (raw : Bool) (w : WatchRecord) :
      w.across raw s.now (s.busRec b).access .parked = { w with timer := none, guard := none } := by
    rw [access]; exact WatchRecord.across_leavesPath rfl rfl (by decide)
  unfold State.park
  rw [access]
  dsimp only
  rw [State.detachSpeech_none speech, State.detachHead_none head, State.moveRelays_some hline]
  exact congrArg _ (hwatch _ _)

/-- An onset on a bus in the enable set that is in no hazard state. -/
theorem Ctx.inputOnset_applies {c : Ctx} (henable : inSet c.s.hazards.settingsA.enable b = true)
    (hstate : (c.s.hazardRec b).state = .none) :
    c.inputOnset (.a b) =
      (({ c with s := c.s.setHazardRec b { c.s.hazardRec b with a := .onset } } : Ctx).put (.early (.hazard
        ⟨.onset, .a, some b, true, busBit b, none,
          (c.s.setHazardRec b { c.s.hazardRec b with a := .onset }).marksLine .a b, c.s.link.time⟩))).onsetActs .a b := by
  let u : State := c.s.setHazardRec b { c.s.hazardRec b with a := .onset }
  have hread : u.hazardRec b = { c.s.hazardRec b with a := .onset } := State.setHazardRec_hazardRec_same _ _ _
  have happlies : u.applies .a b = true := by
    show ((u.hazardRec b).a.inEffect && inSet c.s.hazards.settingsA.enable b) = true
    rw [hread, henable]
    rfl
  have hhit : (concerned (.a b)).filter (fun b' => u.applies (hazardOf (.a b)) b') = [b] :=
    List.filter_eq_self.2 fun x hx => by rw [List.mem_singleton.1 hx]; exact happlies
  have hacts : actsAsOnset (u.hazardRec b).state (hazardOf (.a b)) = true := by rw [hread, hstate]; rfl
  have hmask : (busMask fun b' => [b].contains b' && actsAsOnset (u.hazardRec b').state (hazardOf (.a b))) = busBit b := by
    refine busMask_one fun b' => ?_
    by_cases h : b' = b
    · subst h; simp [hacts]
    · simp [h]
  have hmark : ((inputBus (.a b)).bind fun b' => if [b].contains b' then u.marksLine (hazardOf (.a b)) b' else none) =
      u.marksLine .a b := by simp [inputBus, hazardOf]
  unfold Ctx.inputOnset
  rw [show (c.upd fun s => s.setCondition (.a b) ⟨.asserted, true, false⟩) = { c with s := u } from rfl]
  simp only [reduceCtorEq, if_false, hhit, hmark, hmask, List.foldl_cons, List.foldl_nil]
  unfold Ctx.applyHazard
  exact if_pos hacts

/-- An onset acts on an IDLE bus without owner and speech: the hazard state alone. -/
theorem Ctx.onsetActs_idle {c : Ctx} (haccess : (c.s.busRec b).access = .idle) (howner : (c.s.busRec b).owner = none)
    (hspeech : (c.s.busRec b).speech = none) (hisolate : inSet c.s.hazards.settingsA.isolate b = false) :
    c.onsetActs .a b = c.upd fun s => s.setHazardRec b { s.hazardRec b with state := .a, exit := none } := by
  let u : State := c.s.setHazardRec b { c.s.hazardRec b with state := .a, exit := none }
  have hmark : c.s.marksLine .a b = none := if_neg fun h => by rw [haccess] at h; cases h.2.2
  have haction : u.hazardAction .a b = u := by
    have hdetach : u.detachSpeech b = u := State.detachSpeech_none (s := u) hspeech
    have hidle : (u.busRec b).access = .idle := haccess
    unfold State.hazardAction
    rw [hdetach]
    refine (if_neg (show ¬inSet c.s.hazards.settingsA.isolate b = true by rw [hisolate]; decide)).trans ?_
    unfold State.park
    simp only [hidle]
  unfold Ctx.onsetActs
  simp only [hmark, Ctx.upd]
  rw [show c.s.setHazardRec b { c.s.hazardRec b with state := Hazard.a.state, exit := none } = u from rfl, haction]
  unfold Ctx.jobInHazard
  simp only [show (u.busRec b).owner = none from howner, Option.bind_none]
  rfl

/-- A hazard mark repeats the line's OPEN ticket as CROSS (R82, R175, R176). -/
theorem Ctx.markLine_repeats {c : Ctx} {x : Ticket} (hx : c.s.lineTicket? line = some x) (hstate : x.state = .opened)
    (hone : ∀ t ∈ c.s.tickets.table, t.number = x.number → t = x) :
    c.markLine line = c.upd fun s => (s.updTicket x.number fun _ =>
      { x with repeats := min 255 (x.repeats + 1), lastSeen := c.s.link.time, cls := .cross
               lastChange := if x.cls = .cross then x.lastChange else c.s.link.time }).setLineStatus line
      { c.s.lineStatus line with unticketed := false } := by
  have hcross : ((x.repeated c.s.link.time).raiseClass c.s.link.time .cross).withEvidence ⟨line, .hazard, [], none, false⟩ =
      { x with repeats := min 255 (x.repeats + 1), lastSeen := c.s.link.time, cls := .cross
               lastChange := if x.cls = .cross then x.lastChange else c.s.link.time } := by
    cases hcls : x.cls <;> simp [Ticket.repeated, Ticket.raiseClass, Ticket.withEvidence, TicketClass.raisedBy, TicketClass.rank,
      satInc, hcls]
  have hticket := (State.updTicket_only hone fun t => ((t.repeated c.s.link.time).raiseClass c.s.link.time .cross).withEvidence
    ⟨line, .hazard, [], none, false⟩).trans (congrArg (fun y => c.s.updTicket x.number fun _ => y) hcross)
  unfold Ctx.markLine Ctx.handVerdict Ctx.actOnVerdict
  simp only [hx]
  unfold Ctx.faultOn
  simp only [hstate]
  simp only [Ctx.upd, hticket, Bool.false_eq_true, if_false, reduceCtorEq, decide_false, hstate]
  rfl

/-- The suspension of a job without a head (R84). -/
theorem Ctx.suspend_headless {c : Ctx} {j : Job} (hhead : j.head = none) (h : Hazard) :
    c.suspend j b h = (c.upd fun s => s.updJob j.id fun k =>
      { k with state := .suspended, suspendedFrom := some k.state, holdLimit := none
               head := k.head.map fun jh => ⟨jh.head, true⟩
               hazardHold := some (s.now + s.hazards.holdTime * Config.second) }).jobChanged j.id (suspendNote h) := by
  unfold Ctx.suspend
  simp only [hhead]

/-- A HELD desk job without a head is suspended by hazard A (R84). -/
theorem Ctx.jobInHazard_suspends {c : Ctx} {id p : Nat} {j : Job} (howner : (c.s.busRec b).owner = some id)
    (hj : c.s.job? id = some j) (hone : ∀ k ∈ c.s.sched.jobs, k.id = id → k = j) (hstate : j.state = .held) (hhead : j.head = none)
    (hp : j.source = .desk p) :
    c.jobInHazard b .a = (c.upd fun s => s.updJob id fun _ =>
      { j with state := .suspended, suspendedFrom := some .held, holdLimit := none
               hazardHold := some (c.s.now + c.s.hazards.holdTime * 8000) }).jobChanged id .suspendedA := by
  obtain rfl : j.id = id := State.job?_id hj
  have hfound : (c.s.busRec b).owner.bind c.s.job? = some j := by rw [howner]; exact hj
  have hsuspend := State.updJob_only hone fun k : Job =>
    { k with state := .suspended, suspendedFrom := some k.state, holdLimit := none
             head := k.head.map fun jh => ⟨jh.head, true⟩
             hazardHold := some (c.s.now + c.s.hazards.holdTime * Config.second) }
  have hrecord : ({ j with
        state := .suspended, suspendedFrom := some j.state, holdLimit := none, head := j.head.map fun jh => ⟨jh.head, true⟩
        hazardHold := some (c.s.now + c.s.hazards.holdTime * Config.second) } : Job) =
      { j with state := .suspended, suspendedFrom := some .held, holdLimit := none
               hazardHold := some (c.s.now + c.s.hazards.holdTime * 8000) } := by
    rw [hstate, hhead]
    cases j
    subst hhead
    rfl
  rw [hrecord] at hsuspend
  unfold Ctx.jobInHazard
  simp only [hfound, hstate]
  refine (if_neg (by simp [hp])).trans ?_
  rw [Ctx.suspend_headless hhead]
  exact congrArg (fun s => ({ c with s := s } : Ctx).jobChanged j.id .suspendedA) hsuspend

/-- The mark and the suspension that follow the park (R81 item 4, R84). -/
theorem Ctx.markLine_suspends {c : Ctx} {id p : Nat} {j : Job} {x : Ticket} (howner : (c.s.busRec b).owner = some id)
    (hj : c.s.job? id = some j) (hone : ∀ k ∈ c.s.sched.jobs, k.id = id → k = j) (hheld : j.state = .held) (hhead : j.head = none)
    (hp : j.source = .desk p) (hx : c.s.lineTicket? line = some x) (hopened : x.state = .opened)
    (honeticket : ∀ t ∈ c.s.tickets.table, t.number = x.number → t = x) :
    (c.markLine line).jobInHazard b .a = (c.upd fun s => ((s.updTicket x.number fun _ =>
        { x with repeats := min 255 (x.repeats + 1), lastSeen := c.s.link.time, cls := .cross
                 lastChange := if x.cls = .cross then x.lastChange else c.s.link.time }).setLineStatus line
        { s.lineStatus line with unticketed := false }).updJob id fun _ =>
        { j with state := .suspended, suspendedFrom := some .held, holdLimit := none
                 hazardHold := some (c.s.now + c.s.hazards.holdTime * 8000) }).jobChanged id .suspendedA := by
  rw [Ctx.markLine_repeats hx hopened honeticket]
  exact Ctx.jobInHazard_suspends (c := c.upd fun s => (s.updTicket x.number fun _ =>
    { x with repeats := min 255 (x.repeats + 1), lastSeen := c.s.link.time, cls := .cross
             lastChange := if x.cls = .cross then x.lastChange else c.s.link.time }).setLineStatus line
    { c.s.lineStatus line with unticketed := false }) howner hj hone hheld hhead hp

/-- An onset acts on a CONNECTED bus with the action PARK: the bus is parked, then its line is marked and its job suspended. -/
theorem Ctx.onsetActs_parks {c : Ctx} (hstate : (c.s.hazardRec b).state = .none) (haccess : (c.s.busRec b).access = .connected)
    (hline : (c.s.busRec b).line = some line) (hspeech : (c.s.busRec b).speech = none)
    (hbushead : (c.s.busRec b).head = none) (hisolate : inSet c.s.hazards.settingsA.isolate b = false) :
    c.onsetActs .a b = ((c.upd fun s => (((s.setHazardRec b { s.hazardRec b with state := .a, exit := none }).setRelays line
        { s.relaysOf line with testPath := false }).setBusRec b { s.busRec b with access := .parked, func := .none }).setWatchRec b
        { s.watchRec b with timer := none, guard := none }).markLine line).jobInHazard b .a := by
  let u : State := c.s.setHazardRec b { c.s.hazardRec b with state := .a, exit := none }
  have hmark : c.s.marksLine .a b = some line := (if_pos ⟨rfl, by rw [hstate]; rfl, haccess⟩).trans hline
  have haction : u.hazardAction .a b = ((u.setRelays line { u.relaysOf line with testPath := false }).setBusRec b
      { u.busRec b with access := .parked, func := .none }).setWatchRec b { u.watchRec b with timer := none, guard := none } := by
    have hdetach : u.detachSpeech b = u := State.detachSpeech_none (s := u) hspeech
    unfold State.hazardAction
    rw [hdetach]
    refine (if_neg (show ¬inSet c.s.hazards.settingsA.isolate b = true by rw [hisolate]; decide)).trans ?_
    exact State.park_connected (s := u) haccess hline hspeech hbushead
  unfold Ctx.onsetActs
  simp only [hmark]
  exact congrArg (fun s => (({ c with s := s } : Ctx).markLine line).jobInHazard b .a) haction

end Onset

/-- The reports of an event that queues one report early and one JOB-STATE. -/
theorem ordered_early_jobState {s : State} {id : Nat} {j : Job} {n : JobNote} {re : Bool} {r : Report} (hj : s.job? id = some j) :
    (ordered [.early r, .jobState id n re]).filterMap (OutItem.report s) = [r.atEnd s, jobStateReport s j n re] := by
  simp [ordered, OutItem.report, hj]

/-- Settles O53: an input still FILTERING is reasserted, and an onset acts on an idle bus and on the bus of a HELD job. -/
theorem hazardOnsetParksTheBus : Obligations.HazardOnsetParksTheBus := by
  intro s b s' running calm hs'
  have hcalm (r : HazardRecord) (hr : r.exit = none) : Calm (s'.setHazardRec b r) := by
    subst hs'
    exact ⟨State.exits_setHazardRec hr calm.exits, calm.heads⟩
  have hinput (c : Ctx) (hc : (Ctx.of s).upd (fun s => s.setHazardPin (.a b) true) = c) :
      (Ctx.of s).inputActive (.a b) = match (c.s.condition (.a b)).input with
        | .gone => c.inputOnset (.a b)
        | .filtering _ => c.upd fun s => s.setCondition (.a b) { c.s.condition (.a b) with input := .asserted, clearTaken := false }
        | .asserted => c := by
    subst hc
    unfold Ctx.inputActive
    exact if_neg (show ¬s.resets.active = true by rw [running]; decide)
  constructor
  · intro m hfilter
    refine congrArg Host.Outcome.next ?_
    have hactive := hinput _ rfl
    rw [show (((Ctx.of s).upd fun s => s.setHazardPin (.a b) true).s.condition (.a b)).input = .filtering m from hfilter] at hactive
    refine settled_tells hactive (Ctx.settle_calm_quiet ?_ rfl rfl) ?_ rfl
    · exact (hcalm { s.hazardRec b with a := { (s.hazardRec b).a with input := .asserted, clearTaken := false } }
        (calm.exits b)).congr (by subst hs'; rfl) (by subst hs'; rfl)
    · subst hs'; rfl
  · intro hgone hstate henable hisolate
    have hactive := hinput _ rfl
    rw [show (((Ctx.of s).upd fun s => s.setHazardPin (.a b) true).s.condition (.a b)).input = .gone from hgone] at hactive
    have honset := hactive.trans
      (Ctx.inputOnset_applies (c := (Ctx.of s).upd fun s => s.setHazardPin (.a b) true) (b := b) henable hstate)
    let v : State := { s'.setHazardRec b { s.hazardRec b with a := .onset } with port := [] }
    have hread : v.hazardRec b = { s.hazardRec b with a := .onset } := State.setHazardRec_hazardRec_same (s := s') b _
    let c1 (marked : Option Nat) : Ctx :=
      ({ Ctx.of s with s := v } : Ctx).put (.early (.hazard ⟨.onset, .a, some b, true, busBit b, none, marked, s.link.time⟩))
    have hc1 : (Ctx.of s).inputActive (.a b) = (c1 (v.marksLine .a b)).onsetActs .a b := by
      subst hs'; exact honset
    have hcollapse : v.setHazardRec b { v.hazardRec b with state := .a, exit := none } =
        { s'.setHazardRec b ⟨.onset, .a, none⟩ with port := [] } := by
      rw [hread]
      exact State.setHazardRec_setHazardRec (s := { s' with port := [] }) b _ _
    constructor
    · intro haccess howner hspeech
      have hmark : v.marksLine .a b = none := if_neg fun h => by
        rw [show (v.busRec b).access = .idle by subst hs'; exact haccess] at h; cases h.2.2
      rw [hmark] at hc1
      have hacts := hc1.trans (Ctx.onsetActs_idle (c := c1 none) (b := b) (by subst hs'; exact haccess) (by subst hs'; exact howner)
        (by subst hs'; exact hspeech) (by subst hs'; exact hisolate))
      refine congrArg Host.Outcome.next (settled_tells hacts (Ctx.settle_calm_quiet ?_ rfl rfl) hcollapse rfl)
      rw [show ((c1 none).upd fun s => s.setHazardRec b { s.hazardRec b with state := .a, exit := none }).s =
        { s'.setHazardRec b ⟨.onset, .a, none⟩ with port := [] } from hcollapse]
      exact (hcalm ⟨.onset, .a, none⟩ rfl).congr rfl rfl
    · intro id line p j r x hr haccess hline howner hspeech hhead hj hone hheld hjhead hp hx hopened honeticket
      have hnone : (v.hazardRec b).state = .none := by rw [hread]; exact hstate
      have hconnected : (v.busRec b).access = .connected := by subst hs' hr; exact haccess
      have hvline : (v.busRec b).line = some line := by subst hs' hr; exact hline
      have hmark : v.marksLine .a b = some line := (if_pos ⟨rfl, by rw [hnone]; rfl, hconnected⟩).trans hvline
      rw [hmark] at hc1
      have hparks := Ctx.onsetActs_parks (c := c1 (some line)) (b := b) (line := line) hnone hconnected hvline
        (by subst hs' hr; exact hspeech) (by subst hs' hr; exact hhead) (by subst hs'; exact hisolate)
      let q : State := { s'.setHazardRec b ⟨.onset, .a, none⟩ with port := [] }
      let after (q : State) : State := ((q.setRelays line { v.relaysOf line with testPath := false }).setBusRec b
        { v.busRec b with access := .parked, func := .none }).setWatchRec b { v.watchRec b with timer := none, guard := none }
      let w : State := after q
      have hparked := hparks.trans (congrArg (fun q => (({ c1 (some line) with s := after q } : Ctx).markLine line).jobInHazard b .a)
        hcollapse)
      have howner' : (w.busRec b).owner = some id := by
        rw [show w.busRec b = { v.busRec b with access := .parked, func := .none } from
          State.setBusRec_busRec_same (s := q.setRelays line _) b _]
        subst hs' hr
        exact howner
      have hsuspends := Ctx.markLine_suspends (c := { c1 (some line) with s := w }) (b := b) (line := line) howner'
        (by subst hs'; exact hj) (by subst hs'; exact hone) hheld hjhead hp (by subst hs'; exact hx) hopened
        (by subst hs'; exact honeticket)
      let y : Ticket := { x with
        repeats := min 255 (x.repeats + 1), lastSeen := s.link.time, cls := .cross
        lastChange := if x.cls = .cross then x.lastChange else s.link.time }
      let k : Job := { j with
        state := .suspended, suspendedFrom := some .held, holdLimit := none
        hazardHold := some (s.now + s.hazards.holdTime * 8000) }
      let z : State := (w.updTicket x.number fun _ => y).setLineStatus line { w.lineStatus line with unticketed := false }
      have hacts : (Ctx.of s).inputActive (.a b) =
          ({ c1 (some line) with s := z.updJob id fun _ => k } : Ctx).jobChanged id .suspendedA :=
        hc1.trans (hparked.trans (hsuspends.trans (by subst hs'; rfl)))
      have hk : (z.updJob id fun _ => k).job? id = some k := by
        have hfound : z.job? id = some j := by subst hs'; exact hj
        rw [State.job?_updJob (f := fun _ => k) fun _ _ => (State.job?_id hj : j.id = id), hfound]
        rfl
      refine congrArg Host.Outcome.next (settled_tells hacts (Ctx.settle_calm_quiet ?_ rfl rfl) ?_ ?_)
      · exact Calm.updJob (s := z) ((hcalm ⟨.onset, .a, none⟩ rfl).congr rfl rfl) fun _ _ _ => by simp [k]
      · subst hs' hr
        rfl
      · have hid : j.id = id := State.job?_id hj
        have hout : (c1 (some line)).out = [.early (.hazard
          ⟨.onset, .a, some b, true, busBit b, none, some line, s.link.time⟩)] := rfl
        rw [show (({ c1 (some line) with s := z.updJob id fun _ => k } : Ctx).jobChanged id .suspendedA).out =
          [.early (.hazard ⟨.onset, .a, some b, true, busBit b, none, some line, s.link.time⟩), .jobState id .suspendedA false] by
          simp [Ctx.jobChanged, hout, noteSoFar, OutItem.isStateOf]]
        refine (ordered_early_jobState hk).trans ?_
        simp [jobStateReport, Report.atEnd, k, hid, hp, hjhead]
        subst hs'
        rfl

end Sys2Proof.Machine
end

section
/-! PROOF. The requests of Bus Watch and of the Hazard Unit (R72, R73, R77, R79). -/

namespace Sys2Proof.Machine

/-! ## WATCH-SET and WATCH-CLEAR (R72, R73) -/

theorem byte_eq_iff_toNat {a b : Byte} : a.toNat = b.toNat ↔ a = b := ⟨BitVec.eq_of_toNat_eq, congrArg _⟩

theorem busOf_byteOf (b : Bus) : busOf (byteOf b.val).toNat = some b :=
  (by decide : ∀ b : Bus, busOf (byteOf b.val).toNat = some b) b

/-- The guard window length that WATCH-SET leaves (R72). -/
theorem State.setGuardLength_byte (s : State) (g : Byte) :
    s.setGuardLength g.toNat = { s with watches := { s.watches with
      guardLength := if g = 0#8 then s.watches.guardLength else min 50 g.toNat } } := by
  unfold State.setGuardLength
  by_cases h : g = 0#8
  · subst h; rfl
  · have hn : ¬g.toNat = 0 := fun hn => h (BitVec.eq_of_toNat_eq hn)
    rw [if_neg hn, if_neg h]

/-- The settings that laid-out codes ask for (R72). -/
theorem watchTaken_laidOut (x n g : Byte) (mo : Option WatchMode) (ba : Option WatchBase) (ac : Option WatchAction) (w : WatchSettings) :
    watchTaken [x, codeOr 0xFF#8 WatchMode.code mo, n, codeOr 0xFF#8 WatchBase.code ba, codeOr 0xFF#8 WatchAction.code ac, g] w =
      some ⟨mo.getD w.mode, if n = 0xFF#8 then w.n else min 7 n.toNat, ba.getD w.base, ac.getD w.action⟩ := by
  have hn : (n.toNat = 255) = (n = 0xFF#8) := propext (byte_eq_iff_toNat (b := 0xFF#8))
  unfold watchTaken
  simp only [byteAt_cons_succ, byteAt_cons_zero, orSame_watchMode, orSame_watchBase, orSame_watchAction, hn]

/-- Pending is no on these buses. -/
def State.clearPending (l : List Bus) (s : State) : State :=
  l.foldl (fun s b => s.setWatchRec b { s.watchRec b with pending := false }) s

theorem State.clearPending_watchRec (l : List Bus) (s : State) (b : Bus) :
    (s.clearPending l).watchRec b = { s.watchRec b with pending := (s.watchRec b).pending && !l.contains b } := by
  induction l generalizing s with
  | nil => simp [State.clearPending]
  | cons x l ih =>
    refine (ih _).trans ?_
    rw [State.setWatchRec_watchRec]
    by_cases h : b = x
    · subst h; simp
    · simp [h]

/-- Only the watch records change. -/
theorem State.clearPending_records (l : List Bus) (s : State) :
    ∃ r, s.clearPending l = { s with watches := { s.watches with records := r } } := by
  induction l generalizing s with
  | nil => exact ⟨s.watches.records, rfl⟩
  | cons x l ih =>
    obtain ⟨r, hr⟩ := ih (s.setWatchRec x { s.watchRec x with pending := false })
    exact ⟨r, hr⟩

/-- Level tests of buses none of which has a level mode. -/
theorem Ctx.levelChecks_edge {l : List Bus} {c : Ctx} (h : ∀ b ∈ l, (c.s.watchRec b).settings.mode ≠ .loopPresent ∧
    (c.s.watchRec b).settings.mode ≠ .loopAbsent) : l.foldl (fun c b => c.levelCheck b) c = c := by
  induction l with
  | nil => rfl
  | cons b l ih =>
    rw [List.foldl_cons, Ctx.levelCheck_edge (h b (by simp)).1 (h b (by simp)).2]
    exact ih fun b' hb' => h b' (by simp [hb'])

theorem inSet_busBit (x b : Bus) : inSet (busBit x) b = (b == x) :=
  (by decide : ∀ x b : Bus, inSet (busBit x) b = (b == x)) x b

/-- The mask of the buses that satisfy a test, joined to a mask bus by bus. -/
theorem inSet_foldl (f : Bus → Bool) (b : Bus) (l : List Bus) (m : BusSet) :
    inSet (l.foldl (fun m b => if f b then m ||| busBit b else m) m) b = (inSet m b || (l.contains b && f b)) := by
  induction l generalizing m with
  | nil => simp
  | cons x l ih =>
    have hor : inSet (m ||| busBit x) b = (inSet m b || (b == x)) := by
      rw [← inSet_busBit x b]
      exact BitVec.getLsbD_or
    rw [List.foldl_cons, ih, List.contains_cons]
    by_cases h : b = x
    · subst h
      cases hf : f b <;> simp [hor]
    · cases hf : f x <;> simp [hor, beq_false_of_ne h]

theorem inSet_busMask (f : Bus → Bool) (b : Bus) : inSet (busMask f) b = f b := by
  have hall : allBuses.contains b = true := (by decide : ∀ b : Bus, allBuses.contains b = true) b
  have hzero : inSet 0#6 b = false := (by decide : ∀ b : Bus, inSet 0#6 b = false) b
  rw [busMask, inSet_foldl, hall, hzero, Bool.false_or, Bool.true_and]

/-- Settles O25: WATCH-SET writes the settings its codes name, WATCH-CLEAR the pending flags of its mask. -/
theorem watchRequestsChangeSettingsAndPending : Obligations.WatchRequestsChangeSettingsAndPending := by
  refine ⟨fun s tag n g gl hr hgl => ⟨fun m x y => ?_, fun b id mo ba ac w hw hcalm howner haccess hlevel => ?_⟩,
    fun s tag m hr hcalm hmode => ?_⟩
  · refine congrArg Host.Outcome.next ?_
    refine requestFrame_acks (c := s.served.upd fun s => s.setGuardLength g.toNat)
      (f := fun s => .watch 6 WatchSettings.initial none none s.watches.guardLength) hr 0x20#8 rfl rfl ?_ rfl ?_ hr.running
    · subst hgl
      exact State.setGuardLength_byte s.served.s g
    · subst hgl
      exact congrArg (fun s => AckBody.watch 6 WatchSettings.initial none none s.watches.guardLength)
        (State.setGuardLength_byte s.served.s g)
  · refine congrArg Host.Outcome.next ?_
    let t : State := ({ s with watches := { s.watches with guardLength := gl } }.updJob id fun j => { j with watch := w }).setWatchRec b
      { s.watchRec b with settings := w }
    let c : Ctx := s.served.upd fun _ => ({ t with port := [] } : State).hunt
    have hguard : s.served.s.setGuardLength g.toNat = ({ s with
        port := [], watches := { s.watches with guardLength := gl } } : State).hunt := by
      rw [hgl]
      exact State.setGuardLength_byte s.served.s g
    have hforce : s.served.s.watchInForce b = (s.watchRec b).settings := if_neg haccess
    have hserve : ownerWatchSet [byteOf b.val, codeOr 0xFF#8 WatchMode.code mo, n, codeOr 0xFF#8 WatchBase.code ba,
        codeOr 0xFF#8 WatchAction.code ac, g] s.served = .done (c.settle settleFuel) (watchAck b) := by
      have howner' : (s.served.s.busRec b).owner = some id := howner
      unfold ownerWatchSet
      simp only [byteAt_cons_zero, busOf_byteOf, howner', watchTaken_laidOut, hforce, ← hw]
      let d : Ctx := s.served.upd fun s => (s.setGuardLength g.toNat).keepWatch id w
      have hd : d = s.served.upd fun _ => ({ s with
          port := [], watches := { s.watches with guardLength := gl } } : State).hunt.keepWatch id w :=
        congrArg (fun q : State => s.served.upd fun _ => q.keepWatch id w) hguard
      have hbusy : ¬(d.s.busRec b).access = .idle := by rw [hd]; exact haccess
      have hwritten : (d.upd fun s => s.writeWatch b w) = c := by rw [hd]; rfl
      have hsettings : (c.s.watchRec b).settings = w ∧ (c.s.watchRec b).loop = (s.watchRec b).loop := by
        rw [show c.s.watchRec b = { s.watchRec b with settings := w } from State.setWatchRec_watchRec_same _ _ _]
        exact ⟨rfl, rfl⟩
      have hedge : c.levelCheck b = c := by
        unfold Ctx.levelCheck
        rw [hsettings.1, hsettings.2, hlevel]
        rfl
      have hresult : (if (d.s.busRec b).access = .idle then d else (d.upd fun s => s.writeWatch b w).levelCheck b) = c := by
        rw [if_neg hbusy, hwritten, hedge]
      exact congrArg (fun c : Ctx => Served.done (c.settle settleFuel) (watchAck b)) hresult
    have hrest : Calm c.s := by
      refine ⟨hcalm.exits, fun k hk => ?_⟩
      obtain ⟨j, hj, rfl⟩ := List.mem_map.1 hk
      have := hcalm.heads j hj
      split <;> exact this
    rw [Ctx.settle_calm_quiet hrest rfl rfl] at hserve
    refine requestFrame_acks hr 0x20#8 rfl hserve rfl rfl ?_ hr.running
    have hread : c.s.watchRec b = { s.watchRec b with settings := w } := State.setWatchRec_watchRec_same _ _ _
    have hforce' : c.s.watchInForce b = (c.s.watchRec b).settings := if_neg haccess
    unfold watchAck
    rw [hforce', hread]
    rfl
  · let hit : List Bus := allBuses.filter fun b => inSet m b && (s.watchRec b).pending
    let c : Ctx := s.served.upd (State.clearPending hit)
    let p : BusSet := busMask fun b => (c.s.watchRec b).pending
    have hread (b : Bus) : c.s.watchRec b = { s.watchRec b with pending := (s.watchRec b).pending && !inSet m b } := by
      refine (State.clearPending_watchRec hit s.served.s b).trans ?_
      have hhit : hit.contains b = (inSet m b && (s.watchRec b).pending) := by
        have hall : b ∈ allBuses := (by decide : ∀ b : Bus, b ∈ allBuses) b
        rw [Bool.eq_iff_iff, List.contains_iff_mem, List.mem_filter]
        exact and_iff_right hall
      have hflag : ((s.watchRec b).pending && !(inSet m b && (s.watchRec b).pending)) = ((s.watchRec b).pending && !inSet m b) := by
        cases (s.watchRec b).pending <;> cases inSet m b <;> rfl
      rw [hhit]
      exact congrArg (fun x => { s.watchRec b with pending := x }) hflag
    obtain ⟨r, hr'⟩ := State.clearPending_records hit s.served.s
    have hserve : ownerWatchClear [maskByte m] s.served = .done (c.settle settleFuel)
        fun s => .watchPending (busMask fun b => (s.watchRec b).pending) := by
      have hchecks : hit.foldl (fun c b => c.levelCheck b) c = c := Ctx.levelChecks_edge fun b hb => by
        rw [hread b]
        exact hmode b ((Bool.and_eq_true _ _).mp (List.mem_filter.1 hb).2).1
      unfold ownerWatchClear
      simp only [byteAt_cons_zero, busSetOf_mask]
      exact congrArg (fun c : Ctx => Served.done (c.settle settleFuel) _) hchecks
    have hrest : Calm c.s := by
      rw [show c.s = _ from hr']
      exact ⟨hcalm.exits, hcalm.heads⟩
    rw [Ctx.settle_calm_quiet hrest rfl rfl] at hserve
    let u : State := { s with watches := { s.watches with records := r } }
    have hacks := requestFrame_acks (t := u) (a := .watchPending p) hr 0x21#8 (lengthOk := lengthIs 1) rfl hserve hr' rfl rfl hr.running
    refine ⟨p, _, congrArg Host.Outcome.next hacks, fun b => ?_, fun b => ?_, rfl, rfl, rfl⟩
    · rw [← hread b, show c.s = _ from hr']
      rfl
    · rw [inSet_busMask, hread b]

/-! ## HAZARD-SET and HAZARD-CLEAR (R77, R79) -/

/-- A condition that is not in effect and has no clear taken is left as it is by a change of mode. -/
theorem Condition.afterMode_rest {k : Condition} (heffect : k.inEffect = false) (hclear : k.clearTaken = false)
    (old new : HazardMode) : k.afterMode old new = k := by
  cases k
  subst heffect hclear
  unfold Condition.afterMode
  split <;> rfl

/-- The records are written with what they held: the table may change, what is read from it does not. -/
structure SameHazards (s t : State) : Prop where
  rest : ∃ r, t = { s with hazards := { s.hazards with records := r } }
  read : ∀ b, t.hazardRec b = s.hazardRec b

theorem SameHazards.refl (s : State) : SameHazards s s := ⟨⟨s.hazards.records, rfl⟩, fun _ => rfl⟩

theorem SameHazards.trans {s t u : State} (h : SameHazards s t) (k : SameHazards t u) : SameHazards s u := by
  obtain ⟨r, rfl⟩ := h.rest
  obtain ⟨r', rfl⟩ := k.rest
  exact ⟨⟨r', rfl⟩, fun b => (k.read b).trans (h.read b)⟩

/-- A condition is written with what it held. -/
theorem SameHazards.setCondition (s : State) (i : HazardInput) : SameHazards s (s.setCondition i (s.condition i)) := by
  cases i with
  | storm => exact .refl s
  | a b =>
    refine ⟨⟨_, rfl⟩, fun b' => (State.setHazardRec_hazardRec (s := s) b' b _).trans ?_⟩
    split
    next h => subst h; rfl
    · rfl

theorem SameHazards.condition {s t : State} (h : SameHazards s t) (i : HazardInput) : t.condition i = s.condition i := by
  cases i with
  | a b => exact congrArg HazardRecord.a (h.read b)
  | storm => obtain ⟨r, rfl⟩ := h.rest; rfl

/-- A change of mode leaves conditions that are not in effect and have no clear taken. -/
theorem SameHazards.afterMode {s : State} {l : List HazardInput} (old new : HazardMode)
    (h : ∀ i ∈ l, (s.condition i).inEffect = false ∧ (s.condition i).clearTaken = false) :
    SameHazards s (l.foldl (fun s i => s.setCondition i ((s.condition i).afterMode old new)) s) := by
  induction l generalizing s with
  | nil => exact .refl s
  | cons i l ih =>
    obtain ⟨heffect, hclear⟩ := h i (by simp)
    rw [List.foldl_cons, Condition.afterMode_rest heffect hclear]
    have hfirst := SameHazards.setCondition s i
    refine hfirst.trans (ih fun i' hi' => ?_)
    rw [hfirst.condition]
    exact h i' (by simp [hi'])

/-- Nothing follows at a bus in no hazard state whose condition is not in effect. -/
theorem Ctx.hazardAt_rest {c : Ctx} {x : HazardChange} {b : Bus} (was : x.was b = false) (ends : x.ends b = false)
    (hstate : (c.s.hazardRec b).state = .none) (hexit : (c.s.hazardRec b).exit = none) : c.hazardAt x b = c := by
  have hstop : (c.upd fun s => s.stopApplying x.hazard b) = c := by
    unfold Ctx.upd State.stopApplying
    simp only [hstate]
  have hdue : c.s.exitDue b = false := by simp [State.exitDue, hexit]
  unfold Ctx.hazardAt
  simp only [was, ends, Bool.and_false, Bool.or_false, Bool.false_eq_true, if_false, hstop, ite_self, hdue]

theorem Ctx.hazardAts_rest {l : List Bus} {c : Ctx} {x : HazardChange} (was : ∀ b, x.was b = false) (ends : ∀ b, x.ends b = false)
    (hstate : ∀ b, (c.s.hazardRec b).state = .none) (hexit : ∀ b, (c.s.hazardRec b).exit = none) :
    l.foldl (fun c b => c.hazardAt x b) c = c := by
  induction l with
  | nil => rfl
  | cons b l ih => rw [List.foldl_cons, Ctx.hazardAt_rest (was b) (ends b) (hstate b) (hexit b), ih]

/-- A HAZARD-SET about a hazard whose conditions are not in effect, with no bus in a hazard state: settings and hold time alone. -/
theorem Ctx.setHazard_rest {c : Ctx} {h : Hazard} (new : HazardSettings) (hold : Nat) (heffect : ∀ b, c.s.inEffectAt h b = false)
    (hclear : ∀ b, (c.s.condition (inputAt h b)).clearTaken = false) (hstate : ∀ b, (c.s.hazardRec b).state = .none)
    (hexit : ∀ b, (c.s.hazardRec b).exit = none) :
    ∃ u, SameHazards (c.s.setSettings h new) u ∧ c.setHazard h new hold = { c with s := { u with
      hazards := { u.hazards with holdTime := if hold = 0 then u.hazards.holdTime else hold } } } := by
  have hinput : ∀ i ∈ inputsOf h, ∃ b, i = inputAt h b := by
    intro i hi
    cases h with
    | a => obtain ⟨b, _, rfl⟩ := List.mem_map.1 hi; exact ⟨b, rfl⟩
    | b => exact ⟨0, List.mem_singleton.1 hi⟩
  have hset (i : HazardInput) : (c.s.setSettings h new).condition i = c.s.condition i := by cases h <;> cases i <;> rfl
  have hread (b : Bus) : (c.s.setSettings h new).hazardRec b = c.s.hazardRec b := by cases h <;> rfl
  have hquiet (b : Bus) : (c.s.condition (inputAt h b)).inEffect = false := by
    refine Eq.trans ?_ (heffect b)
    cases h <;> rfl
  have hmode := SameHazards.afterMode (s := c.s.setSettings h new) (l := inputsOf h) (c.s.settingsOf h).mode new.mode fun i hi => by
    obtain ⟨b, rfl⟩ := hinput i hi
    rw [hset]
    exact ⟨hquiet b, hclear b⟩
  let x := c.s.hazardChange h new
  let u : State := (inputsOf h).foldl
    (fun s i => s.setCondition i ((s.condition i).afterMode x.old.mode x.new.mode)) (c.s.setSettings h new)
  have hends (b : Bus) : x.ends b = false := by
    show (c.s.condition (inputAt h b)).endsInFollow _ _ = false
    simp [Condition.endsInFollow, hquiet]
  have hsame (b : Bus) : u.hazardRec b = c.s.hazardRec b := (hmode.read b).trans (hread b)
  have hbuses : allBuses.foldl (fun c b => c.hazardAt x b) ({ c with s := u } : Ctx) = { c with s := u } :=
    Ctx.hazardAts_rest heffect hends (fun b => (congrArg HazardRecord.state (hsame b)).trans (hstate b))
      fun b => (congrArg HazardRecord.exit (hsame b)).trans (hexit b)
  refine ⟨u, hmode, ?_⟩
  unfold Ctx.setHazard
  refine (congrArg (fun d : Ctx => (if h = .b ∧ x.ends 0 = true then d.releaseSweep else d).upd fun s =>
    { s with hazards := { s.hazards with holdTime := if hold = 0 then s.hazards.holdTime else hold } }) hbuses).trans ?_
  rw [if_neg (by rw [hends]; simp)]
  rfl

/-- The settings that laid-out codes ask for (R77). -/
theorem hazardTaken_laidOut (x hold : Byte) (mo : Option HazardMode) (f : SetForm) (m : BusSet) (iso : Option BusSet)
    (old : HazardSettings) :
    hazardTaken [x, codeOr 0xFF#8 HazardMode.code mo, f.code, maskByte m, codeOr 0xFF#8 maskByte iso, hold] old =
      some ⟨mo.getD old.mode,
        (match f with | .add => old.enable ||| m | .remove => old.enable &&& ~~~m | .replace => m), iso.getD old.isolate⟩ := by
  unfold hazardTaken
  simp only [byteAt_cons_succ, byteAt_cons_zero, orSame_hazardMode, orSame_mask, formOf_code, busSetOf_mask]
  cases f <;> rfl

/-- HAZARD-CLEAR about the one input of a bus (R79). -/
theorem ownerHazardClear_one {c : Ctx} (b : Bus) :
    ownerHazardClear [1#8 <<< b.val] c = .done ((c.clearCondition (.a b)).settle settleFuel) fun s =>
      .hazardClear (s.conditionMask (·.inEffect)) (s.conditionMask (·.clearTaken)) := by
  have hsmall : ¬127 < (1#8 <<< b.val : Byte).toNat := (by decide : ∀ b : Bus, ¬127 < (1#8 <<< b.val : Byte).toNat) b
  have hnamed : (allInputs.filter fun i => (BitVec.ofNat 7 (1#8 <<< b.val : Byte).toNat).getLsbD (inputKey i)) = [.a b] :=
    (by decide : ∀ b : Bus, (allInputs.filter fun i => (BitVec.ofNat 7 (1#8 <<< b.val : Byte).toNat).getLsbD (inputKey i)) = [.a b]) b
  unfold ownerHazardClear
  simp only [byteAt_cons_zero, hsmall, if_false, hnamed, List.foldl_cons, List.foldl_nil]

/-- Settles O26: HAZARD-SET writes the settings its codes name, HAZARD-CLEAR takes or makes the clear of one condition. -/
theorem hazardRequestsChangeSettingsAndClear : Obligations.HazardRequestsChangeSettingsAndClear := by
  refine ⟨fun s tag hold h mo f m iso old new hr hcalm heffect hstate hclear hold' hnew => ?_, fun s tag b hr hcalm hmode =>
    ⟨fun heffect hinput s' hs' => ?_, fun heffect hinput henable s' hs' => ?_, fun heffect => ?_⟩⟩
  · obtain ⟨u, hsame, hset⟩ := Ctx.setHazard_rest (c := s.served) (h := h) new hold.toNat heffect hclear hstate hcalm.exits
    obtain ⟨r, hrest⟩ := hsame.rest
    let body : List Byte :=
      [h.code, codeOr 0xFF#8 HazardMode.code mo, f.code, maskByte m, codeOr 0xFF#8 maskByte iso, hold]
    have hserve : ownerHazardSet body s.served =
        .done ((s.served.setHazard h new hold.toNat).settle settleFuel) fun s => .hazard (s.hazardView h) := by
      have htaken : hazardTaken body (s.served.s.settingsOf h) = some new := by
        rw [hazardTaken_laidOut, hnew, hold']
        cases h <;> rfl
      cases h
      · show (match hazardTaken body (s.served.s.settingsOf .a) with | none => _ | some new => _) = _
        rw [htaken]
        rfl
      · show (match hazardTaken body (s.served.s.settingsOf .b) with | none => _ | some new => _) = _
        rw [htaken]
        rfl
    let v : State := { s with hazards := { u.hazards with holdTime := if hold.toNat = 0 then u.hazards.holdTime else hold.toNat } }
    have hleft : (s.served.setHazard h new hold.toNat).s = ({ v with port := [] } : State).hunt := by
      rw [hset]
      subst hrest
      cases h <;> rfl
    have hread (b : Bus) : u.hazardRec b = s.hazardRec b := (hsame.read b).trans (by cases h <;> rfl)
    have hcalm' : Calm (s.served.setHazard h new hold.toNat).s := by
      rw [hleft]
      exact ⟨fun b => (congrArg HazardRecord.exit (hread b)).trans (hcalm.exits b), hcalm.heads⟩
    rw [Ctx.settle_calm_quiet hcalm' (by rw [hset]; rfl) (by rw [hset]; rfl)] at hserve
    have hacks := requestFrame_acks (t := v) (lengthOk := lengthIs 6) (a := .hazard (v.hazardView h)) hr 0x22#8 rfl hserve hleft
      (by rw [hset]; rfl) (by rw [hleft]; rfl) hr.running
    have hhold : (hold.toNat = 0) = (hold = 0#8) := propext (byte_eq_iff_toNat (b := 0#8))
    refine ⟨_, congrArg Host.Outcome.next hacks, ?_, ?_, ?_, hread, ?_, rfl, rfl, rfl⟩
    all_goals subst hrest
    · cases h <;> rfl
    · cases h <;> rfl
    · show (if hold.toNat = 0 then _ else _) = _
      simp only [hhold]
      cases h <;> rfl
    · cases h <;> rfl
  · refine congrArg Host.Outcome.next ?_
    subst hs'
    let c : Ctx := s.served.upd fun s => s.setHazardRec b { s.hazardRec b with a := { (s.hazardRec b).a with clearTaken := true } }
    have htaken : s.served.clearCondition (.a b) = c := by
      unfold Ctx.clearCondition
      exact (if_pos ⟨heffect, hmode⟩).trans (if_neg hinput)
    have hserve := ownerHazardClear_one (c := s.served) b
    have hexits := State.exits_setHazardRec (s := s.served.s) (b := b)
      (r := { s.hazardRec b with a := { (s.hazardRec b).a with clearTaken := true } }) (hcalm.exits b) hcalm.exits
    rw [htaken, Ctx.settle_calm_quiet ⟨hexits, hcalm.heads⟩ rfl rfl] at hserve
    exact requestFrame_acks hr 0x23#8 rfl hserve rfl rfl rfl hr.running
  · refine congrArg Host.Outcome.next ?_
    subst hs'
    let e : OutItem := .early (.hazard ⟨.cleared, .a, some b, false, 0#6, none, none, s.link.time⟩)
    let c : Ctx := (s.served.put e).upd fun s => s.setHazardRec b { s.hazardRec b with a := ⟨.gone, false, false⟩ }
    have hends : (s.served.put e).endCondition (.a b) = c := by
      have hhit : ((concerned (.a b)).filter fun b' => inSet ((s.served.put e).s.settingsOf (hazardOf (.a b))).enable b') = [] := by
        refine List.filter_eq_nil_iff.2 fun b' hb' => ?_
        rw [List.mem_singleton.1 hb', show inSet ((s.served.put e).s.settingsOf (hazardOf (.a b))).enable b = false from henable]
        decide
      unfold Ctx.endCondition
      rw [hhit]
      have hrecord : ({ (s.hazardRec b).a with inEffect := false, clearTaken := false } : Condition) = ⟨.gone, false, false⟩ := by
        rw [← hinput]
      exact congrArg (fun k => (s.served.put e).upd fun s => s.setHazardRec b { s.hazardRec b with a := k }) hrecord
    have hcleared : s.served.clearCondition (.a b) = c := by
      unfold Ctx.clearCondition
      exact (if_pos ⟨heffect, hmode⟩).trans ((if_pos hinput).trans hends)
    have hserve := ownerHazardClear_one (c := s.served) b
    rw [hcleared] at hserve
    exact requestFrame_tells (c := c) hr 0x23#8 rfl hserve (Ctx.settle_calm_quiet
      ⟨State.exits_setHazardRec (s := s.served.s) (hcalm.exits b) hcalm.exits, hcalm.heads⟩ rfl rfl) rfl rfl rfl
  · refine congrArg Host.Outcome.next ?_
    have hleft : s.served.clearCondition (.a b) = s.served := by
      unfold Ctx.clearCondition
      exact if_neg fun h => by rw [show (s.served.s.condition (.a b)).inEffect = false from heffect] at h; cases h.1
    have hserve := ownerHazardClear_one (c := s.served) b
    rw [hleft, Ctx.settle_calm_quiet ⟨hcalm.exits, hcalm.heads⟩ rfl rfl] at hserve
    exact requestFrame_acks hr 0x23#8 rfl hserve rfl rfl rfl hr.running

end Sys2Proof.Machine
end

section
/-! PROOF. The ticket table (R172, R173, R179): the law of the table with that of parents and members, kept together by every
operation of the Ticket Unit, and so by every step. -/

namespace Sys2Proof.Machine

/-! ## The law of the table -/

/-- A ROLLED ticket names this parent. -/
def Ticket.childOf (n : Nat) (t : Ticket) : Bool := decide (t.state = .rolled) && decide (t.parent = some n)

/-- R172, R173 and R179 of a table of tickets. -/
structure TableLaw (ts : List Ticket) : Prop where
  places : ts.length ≤ 128
  ascending : ts.Pairwise fun t u => t.number < u.number
  numbers : ∀ t ∈ ts, 1 ≤ t.number ∧ t.number ≤ 65535
  lines : ∀ t ∈ ts, ∀ u ∈ ts, ∀ l, t.kind = .line → u.kind = .line → t.line = some l → u.line = some l →
    t.live = true → u.live = true → t = u
  cables : ∀ t ∈ ts, ∀ u ∈ ts, t.kind = .cable → u.kind = .cable → t.cable = u.cable → t.live = true → u.live = true → t = u
  cableNeverRolled : ∀ t ∈ ts, t.kind = .cable → t.state ≠ .rolled
  parents : ∀ t ∈ ts, t.state = .rolled → ∃ p ∈ ts, t.parent = some p.number ∧ Ticket.activeCable t.cable p = true
  members : ∀ p ∈ ts, p.kind = .cable → p.members = ts.countP (Ticket.childOf p.number)

/-- At most one element passes a test exactly where any two that pass are the same. -/
theorem length_filter_le_one {α : Type} {l : List α} (hl : l.Nodup) {p : α → Bool} :
    (l.filter p).length ≤ 1 ↔ ∀ x ∈ l, ∀ y ∈ l, p x = true → p y = true → x = y := by
  constructor
  · intro h x hx y hy px py
    have hx' : x ∈ l.filter p := List.mem_filter.2 ⟨hx, px⟩
    have hy' : y ∈ l.filter p := List.mem_filter.2 ⟨hy, py⟩
    match hf : l.filter p, hx', hy' with
    | [z], hx', hy' => exact (List.mem_singleton.1 hx').trans (List.mem_singleton.1 hy').symm
    | _ :: _ :: _, _, _ => rw [hf] at h; simp at h
  · intro h
    match hf : l.filter p with
    | [] => simp
    | [z] => simp
    | x :: y :: r =>
      have hnodup : (x :: y :: r).Nodup := hf ▸ hl.filter p
      have hx := List.mem_filter.1 (show x ∈ l.filter p by simp [hf])
      have hy := List.mem_filter.1 (show y ∈ l.filter p by simp [hf])
      have := h x hx.1 y hy.1 hx.2 hy.2
      subst this
      simp at hnodup

section
variable {ts : List Ticket}

theorem TableLaw.nodup (h : TableLaw ts) : ts.Nodup := h.ascending.imp fun hlt heq => by subst heq; exact Nat.lt_irrefl _ hlt

/-- A number names one ticket. -/
theorem TableLaw.unique (h : TableLaw ts) {t u : Ticket} (ht : t ∈ ts) (hu : u ∈ ts) (hn : t.number = u.number) : t = u := by
  have hnodup : (ts.map (·.number)).Nodup := (List.pairwise_map.2 h.ascending).imp Nat.ne_of_lt
  exact List.inj_on_of_nodup_map hnodup ht hu hn

/-- The law of tickets and the law of parents are the law of the table with the range of the next number. -/
theorem tableLaw_iff {s : State} : TicketLaw s ∧ ParentLaw s ↔
    TableLaw s.tickets.table ∧ 1 ≤ s.tickets.next ∧ s.tickets.next ≤ 65535 := by
  constructor
  · rintro ⟨h, k⟩
    have hnodup : s.tickets.table.Nodup := List.Nodup.of_map _ h.distinct
    refine ⟨⟨h.places, List.pairwise_map.1 h.ascending, h.numbers, fun t ht u hu l tk uk tl ul tv uv => ?_,
      fun t ht u hu tk uk hc tv uv => ?_, h.cableNeverRolled, k.parents, fun p hp hk => ?_⟩, h.next⟩
    · exact (length_filter_le_one hnodup).1 (h.oneForALine l) t ht u hu (by simp [tk, tl, tv]) (by simp [uk, ul, uv])
    · exact (length_filter_le_one hnodup).1 (h.oneForACable t.cable) t ht u hu (by simp [tk, tv]) (by simp [uk, hc, uv])
    · rw [k.members p hp hk, List.countP_eq_length_filter]
      rfl
  · rintro ⟨h, hnext⟩
    refine ⟨⟨h.places, ?_, List.pairwise_map.2 h.ascending, h.numbers, hnext, fun l => ?_, fun c => ?_, h.cableNeverRolled⟩,
      h.parents, fun p hp hk => ?_⟩
    · exact (List.pairwise_map.2 h.ascending).imp Nat.ne_of_lt
    · refine (length_filter_le_one h.nodup).2 fun t ht u hu pt pu => ?_
      simp only [Bool.and_eq_true, beq_iff_eq] at pt pu
      exact h.lines t ht u hu l pt.1.1 pu.1.1 pt.1.2 pu.1.2 pt.2 pu.2
    · refine (length_filter_le_one h.nodup).2 fun t ht u hu pt pu => ?_
      simp only [Bool.and_eq_true, beq_iff_eq] at pt pu
      exact h.cables t ht u hu pt.1.1 pu.1.1 (pt.1.2.trans pu.1.2.symm) pt.2 pu.2
    · rw [h.members p hp hk, List.countP_eq_length_filter]
      rfl

/-! ## A change of every ticket -/

/-- What a ticket is about: a change of a ticket leaves it. -/
structure Ticket.SameSubject (t u : Ticket) : Prop where
  number : u.number = t.number
  kind : u.kind = t.kind
  line : u.line = t.line
  cable : u.cable = t.cable

theorem Ticket.SameSubject.refl (t : Ticket) : t.SameSubject t := ⟨rfl, rfl, rfl, rfl⟩

/-- A change of every ticket keeps the law where no CLOSED ticket is revived, no cable ticket is ROLLED, and parents and members agree
after it. -/
theorem TableLaw.map (h : TableLaw ts) {f : Ticket → Ticket} (same : ∀ t ∈ ts, t.SameSubject (f t))
    (live : ∀ t ∈ ts, (f t).live = true → t.live = true) (rolled : ∀ t ∈ ts, t.kind = .cable → (f t).state ≠ .rolled)
    (parents : ∀ t ∈ ts, (f t).state = .rolled → ∃ p ∈ ts, (f t).parent = some p.number ∧ Ticket.activeCable t.cable (f p) = true)
    (members : ∀ p ∈ ts, p.kind = .cable → (f p).members = ts.countP fun t => (f t).childOf p.number) : TableLaw (ts.map f) where
  places := by rw [List.length_map]; exact h.places
  ascending := by
    refine List.pairwise_map.2 (h.ascending.imp_of_mem fun ht hu hlt => ?_)
    rw [(same _ ht).number, (same _ hu).number]
    exact hlt
  numbers := by
    refine List.forall_mem_map.2 fun t ht => ?_
    rw [(same t ht).number]
    exact h.numbers t ht
  lines := by
    refine List.forall_mem_map.2 fun t ht => List.forall_mem_map.2 fun u hu l tk uk tl ul tv uv => ?_
    have st := same t ht
    have su := same u hu
    exact congrArg f (h.lines t ht u hu l (st.kind ▸ tk) (su.kind ▸ uk) (st.line ▸ tl) (su.line ▸ ul) (live t ht tv) (live u hu uv))
  cables := by
    refine List.forall_mem_map.2 fun t ht => List.forall_mem_map.2 fun u hu tk uk hc tv uv => ?_
    have st := same t ht
    have su := same u hu
    rw [st.cable, su.cable] at hc
    exact congrArg f (h.cables t ht u hu (st.kind ▸ tk) (su.kind ▸ uk) hc (live t ht tv) (live u hu uv))
  cableNeverRolled := List.forall_mem_map.2 fun t ht hk => rolled t ht ((same t ht).kind ▸ hk)
  parents := by
    refine List.forall_mem_map.2 fun t ht hr => ?_
    obtain ⟨p, hp, hparent, hactive⟩ := parents t ht hr
    refine ⟨f p, List.mem_map_of_mem hp, ?_, ?_⟩
    · rw [(same p hp).number]; exact hparent
    · rw [(same t ht).cable]; exact hactive
  members := by
    refine List.forall_mem_map.2 fun p hp hk => ?_
    rw [members p hp ((same p hp).kind ▸ hk), (same p hp).number, List.countP_map]
    rfl

/-- A change that touches neither the state nor the family of a ticket, but to take an OPEN one to DISPATCHED, say. -/
structure Ticket.Quiet (t u : Ticket) : Prop extends t.SameSubject u where
  live : u.live = true → t.live = true
  rolled : u.state = .rolled ↔ t.state = .rolled
  parent : t.state = .rolled → u.parent = t.parent
  active : t.kind = .cable → (t.state = .opened ∨ t.state = .dispatched) → u.state = .opened ∨ u.state = .dispatched
  members : t.kind = .cable → u.members = t.members

theorem Ticket.Quiet.refl (t : Ticket) : t.Quiet t := ⟨.refl t, id, .rfl, fun _ => rfl, fun _ h => h, fun _ => rfl⟩

theorem Ticket.activeCable_iff {c : Nat} {t : Ticket} :
    Ticket.activeCable c t = true ↔ t.kind = .cable ∧ t.cable = c ∧ (t.state = .opened ∨ t.state = .dispatched) := by
  simp [Ticket.activeCable, and_assoc]

theorem Ticket.childOf_iff {n : Nat} {t : Ticket} : t.childOf n = true ↔ t.state = .rolled ∧ t.parent = some n := by
  simp [Ticket.childOf]

theorem Ticket.Quiet.activeCable {t u : Ticket} (q : t.Quiet u) {c : Nat} (h : Ticket.activeCable c t = true) :
    Ticket.activeCable c u = true := by
  obtain ⟨hk, hc, hs⟩ := Ticket.activeCable_iff.1 h
  exact Ticket.activeCable_iff.2 ⟨q.kind.trans hk, q.cable.trans hc, q.active hk hs⟩

theorem Ticket.Quiet.childOf {t u : Ticket} (q : t.Quiet u) (n : Nat) : u.childOf n = t.childOf n := by
  rw [Bool.eq_iff_iff, Ticket.childOf_iff, Ticket.childOf_iff, q.rolled]
  exact and_congr_right fun hr => by rw [q.parent hr]

theorem TableLaw.quiet (h : TableLaw ts) {f : Ticket → Ticket} (q : ∀ t ∈ ts, t.Quiet (f t)) : TableLaw (ts.map f) := by
  refine h.map (fun t ht => (q t ht).toSameSubject) (fun t ht => (q t ht).live)
    (fun t ht hk hr => h.cableNeverRolled t ht hk ((q t ht).rolled.1 hr)) (fun t ht hr => ?_) fun p hp hk => ?_
  · have hrolled := (q t ht).rolled.1 hr
    obtain ⟨p, hp, hparent, hactive⟩ := h.parents t ht hrolled
    exact ⟨p, hp, ((q t ht).parent hrolled).trans hparent, (q p hp).activeCable hactive⟩
  · rw [(q p hp).members hk, h.members p hp hk]
    exact List.countP_congr fun t ht => by rw [(q t ht).childOf]

/-- A quiet change of the ticket that a number names. -/
theorem TableLaw.updQuiet (h : TableLaw ts) {n : Nat} {f : Ticket → Ticket} (q : ∀ t ∈ ts, t.number = n → t.Quiet (f t)) :
    TableLaw (ts.map fun t => if t.number = n then f t else t) := by
  refine h.quiet fun t ht => ?_
  split
  next hn => exact q t ht hn
  · exact .refl t

/-! ## Counting children -/

/-- Two tests that agree but on one element, which only the second passes. -/
theorem countP_one_more {α : Type} [DecidableEq α] {l : List α} (hl : l.Nodup) {x : α} (hx : x ∈ l) {p q : α → Bool}
    (hp : p x = false) (hq : q x = true) (agree : ∀ y ∈ l, y ≠ x → p y = q y) : l.countP q = l.countP p + 1 := by
  have hperm := List.perm_cons_erase hx
  have herase : (l.erase x).countP q = (l.erase x).countP p := List.countP_congr fun y hy => by
    rw [agree y (List.mem_of_mem_erase hy) ((List.Nodup.mem_erase_iff hl).1 hy).1]
  rw [hperm.countP_eq q, hperm.countP_eq p, List.countP_cons_of_pos hq, List.countP_cons_of_neg (by simp [hp]), herase]

/-- A ticket that is no parent of the law has no children. -/
theorem TableLaw.childless (h : TableLaw ts) {n : Nat} (hn : ∀ p ∈ ts, p.number = n → ¬(p.state = .opened ∨ p.state = .dispatched))
    {t : Ticket} (ht : t ∈ ts) : t.childOf n = false := by
  rw [Bool.eq_false_iff]
  intro hchild
  obtain ⟨hr, hparent⟩ := Ticket.childOf_iff.1 hchild
  obtain ⟨p, hp, hparent', hactive⟩ := h.parents t ht hr
  exact hn p hp (Option.some.inj (hparent'.symm.trans hparent)) (Ticket.activeCable_iff.1 hactive).2.2

end

/-! ## A free number (R173) -/

/-- Where the search finds no free number, every number it tried names a ticket. -/
theorem freeNumber_used {ts : List Ticket} {fuel n : Nat} (hn : 1 ≤ n ∧ n ≤ 65535)
    (h : ∃ t ∈ ts, t.number = freeNumber ts fuel n) {i : Nat} (hi : i < fuel) : ∃ t ∈ ts, t.number = (n - 1 + i) % 65535 + 1 := by
  induction fuel generalizing n i with
  | zero => omega
  | succ fuel ih =>
    unfold freeNumber at h
    split at h
    next hany =>
      cases i with
      | zero =>
        obtain ⟨t, ht, hnum⟩ := List.any_eq_true.1 hany
        have := beq_iff_eq.1 hnum
        exact ⟨t, ht, by omega⟩
      | succ i =>
        obtain ⟨t, ht, hnum⟩ := ih (by split <;> omega) h (Nat.lt_of_succ_lt_succ hi)
        refine ⟨t, ht, ?_⟩
        split at hnum <;> omega
    next hany =>
      obtain ⟨t, ht, hnum⟩ := h
      exact absurd (List.any_eq_true.2 ⟨t, ht, by simp [hnum]⟩) hany

theorem freeNumber_range {ts : List Ticket} {fuel n : Nat} (hn : 1 ≤ n ∧ n ≤ 65535) :
    1 ≤ freeNumber ts fuel n ∧ freeNumber ts fuel n ≤ 65535 := by
  induction fuel generalizing n with
  | zero => exact hn
  | succ fuel ih =>
    unfold freeNumber
    split
    · exact ih (by split <;> omega)
    · exact hn

/-- With more tries than tickets the search finds a free number. -/
theorem freeNumber_free {ts : List Ticket} {fuel n : Nat} (hn : 1 ≤ n ∧ n ≤ 65535) (hfuel : ts.length < fuel) (hmax : fuel ≤ 65535)
    {t : Ticket} (ht : t ∈ ts) : t.number ≠ freeNumber ts fuel n := by
  intro heq
  have hsub : (List.range fuel).map (fun i => (n - 1 + i) % 65535 + 1) ⊆ ts.map (·.number) := by
    intro m hm
    obtain ⟨i, hi, rfl⟩ := List.mem_map.1 hm
    obtain ⟨u, hu, hnum⟩ := freeNumber_used hn ⟨t, ht, heq⟩ (List.mem_range.1 hi)
    exact List.mem_map.2 ⟨u, hu, hnum⟩
  have hnodup : ((List.range fuel).map fun i => (n - 1 + i) % 65535 + 1).Nodup := by
    refine List.Nodup.map_on (fun i hi j hj h => ?_) List.nodup_range
    have := List.mem_range.1 hi
    have := List.mem_range.1 hj
    omega
  have := (List.subperm_of_subset hnodup hsub).length_le
  simp at this
  omega

/-! ## A new ticket, and one that leaves (R173, R174) -/

section
variable {ts : List Ticket}

theorem insertTicket_perm (t : Ticket) (ts : List Ticket) : (insertTicket t ts).Perm (t :: ts) := by
  induction ts with
  | nil => exact .refl _
  | cons u us ih =>
    unfold insertTicket
    split
    · exact .refl _
    · exact (ih.cons u).trans (.swap t u us)

theorem mem_insertTicket {t u : Ticket} : u ∈ insertTicket t ts ↔ u = t ∨ u ∈ ts := by
  rw [(insertTicket_perm t ts).mem_iff, List.mem_cons]

theorem insertTicket_ascending {t : Ticket} (h : ts.Pairwise fun t u => t.number < u.number) (hn : ∀ u ∈ ts, u.number ≠ t.number) :
    (insertTicket t ts).Pairwise fun t u => t.number < u.number := by
  induction ts with
  | nil => simp [insertTicket]
  | cons u us ih =>
    have hcons := List.pairwise_cons.1 h
    have hu := hn u (by simp)
    unfold insertTicket
    split
    next hlt =>
      refine List.pairwise_cons.2 ⟨fun v hv => ?_, h⟩
      rcases List.mem_cons.1 hv with rfl | hv
      · exact hlt
      · exact Nat.lt_trans hlt (hcons.1 v hv)
    next hlt =>
      refine List.pairwise_cons.2 ⟨fun v hv => ?_, ih hcons.2 fun v hv => hn v (by simp [hv])⟩
      rcases mem_insertTicket.1 hv with rfl | hv
      · omega
      · exact hcons.1 v hv

/-- A new ticket joins the table: OPEN, with no members, the only one of its line or of its cable. -/
theorem TableLaw.insert (h : TableLaw ts) {t : Ticket} (room : ts.length < 128) (range : 1 ≤ t.number ∧ t.number ≤ 65535)
    (free : ∀ u ∈ ts, u.number ≠ t.number) (opened : t.state = .opened) (members : t.members = 0)
    (line : t.kind = .line → ∀ u ∈ ts, ∀ l, u.kind = .line → t.line = some l → u.line = some l → u.live = false)
    (cable : t.kind = .cable → ∀ u ∈ ts, u.kind = .cable → u.cable = t.cable → u.live = false) : TableLaw (insertTicket t ts) where
  places := by rw [(insertTicket_perm t ts).length_eq, List.length_cons]; exact room
  ascending := insertTicket_ascending h.ascending free
  numbers u hu := by
    rcases mem_insertTicket.1 hu with rfl | hu
    · exact range
    · exact h.numbers u hu
  lines u hu v hv l uk vk ul vl ulive vlive := by
    rcases mem_insertTicket.1 hu with rfl | hu' <;> rcases mem_insertTicket.1 hv with rfl | hv'
    · rfl
    · exact absurd vlive (by simp [line uk v hv' l vk ul vl])
    · exact absurd ulive (by simp [line vk u hu' l uk vl ul])
    · exact h.lines u hu' v hv' l uk vk ul vl ulive vlive
  cables u hu v hv uk vk hc ulive vlive := by
    rcases mem_insertTicket.1 hu with rfl | hu' <;> rcases mem_insertTicket.1 hv with rfl | hv'
    · rfl
    · exact absurd vlive (by simp [cable uk v hv' vk hc.symm])
    · exact absurd ulive (by simp [cable vk u hu' uk hc])
    · exact h.cables u hu' v hv' uk vk hc ulive vlive
  cableNeverRolled u hu := by
    rcases mem_insertTicket.1 hu with rfl | hu
    · intro _ hr; rw [opened] at hr; cases hr
    · exact h.cableNeverRolled u hu
  parents u hu hr := by
    rcases mem_insertTicket.1 hu with rfl | hu
    · rw [opened] at hr; cases hr
    · obtain ⟨p, hp, hparent⟩ := h.parents u hu hr
      exact ⟨p, mem_insertTicket.2 (.inr hp), hparent⟩
  members p hp hk := by
    have hnew (n : Nat) : t.childOf n = false := by simp [Ticket.childOf, opened]
    rw [(insertTicket_perm t ts).countP_eq, List.countP_cons_of_neg (by simp [hnew])]
    rcases mem_insertTicket.1 hp with rfl | hp
    · rw [members, eq_comm, List.countP_eq_zero]
      intro u hu
      rw [h.childless (n := p.number) (fun q hq hn => absurd hn (free q hq)) hu]
      decide
    · exact h.members p hp hk

/-- A CLOSED ticket leaves the table. -/
theorem TableLaw.evict (h : TableLaw ts) {v : Ticket} (hv : v ∈ ts) (closed : v.state = .closed) :
    TableLaw (ts.filter fun t => t.number != v.number) := by
  have hout (t : Ticket) (ht : t ∈ ts) : t.number != v.number → t ∈ ts.filter fun t => t.number != v.number :=
    fun hn => List.mem_filter.2 ⟨ht, hn⟩
  have hsub {t : Ticket} (ht : t ∈ ts.filter fun t => t.number != v.number) : t ∈ ts := (List.mem_filter.1 ht).1
  have hsame (t : Ticket) (ht : t ∈ ts) (hs : t.state ≠ .closed) : (t.number != v.number) = true := by
    refine bne_iff_ne.2 fun hn => hs ?_
    rw [h.unique ht hv hn]
    exact closed
  exact {
    places := (List.length_filter_le _ _).trans h.places
    ascending := h.ascending.filter _
    numbers := fun t ht => h.numbers t (hsub ht)
    lines := fun t ht u hu => h.lines t (hsub ht) u (hsub hu)
    cables := fun t ht u hu => h.cables t (hsub ht) u (hsub hu)
    cableNeverRolled := fun t ht => h.cableNeverRolled t (hsub ht)
    parents := fun t ht hr => by
      obtain ⟨p, hp, hparent, hactive⟩ := h.parents t (hsub ht) hr
      refine ⟨p, hout p hp (hsame p hp fun hc => ?_), hparent, hactive⟩
      have := (Ticket.activeCable_iff.1 hactive).2.2
      simp [hc] at this
    members := fun p hp hk => by
      rw [h.members p (hsub hp) hk, List.countP_filter]
      refine List.countP_congr fun t ht => ?_
      rw [Bool.and_eq_true]
      refine ⟨fun hchild => ⟨hchild, hsame t ht ?_⟩, And.left⟩
      rw [(Ticket.childOf_iff.1 hchild).1]
      decide }

end

/-! ## Parents and members (R178, R179, R181) -/

section
variable {ts : List Ticket} {f : Ticket → Ticket} {x p : Ticket}

/-- What one ticket and a cable ticket change into when the ticket joins or leaves the other's family: all else stays. -/
structure FamilyChange (ts : List Ticket) (f : Ticket → Ticket) (x p : Ticket) : Prop where
  child : x ∈ ts
  parent : p ∈ ts
  line : x.kind = .line
  active : Ticket.activeCable x.cable p = true
  sameChild : x.SameSubject (f x)
  liveChild : x.live = true
  sameParent : p.SameSubject (f p)
  state : (f p).state = p.state
  rest : ∀ t ∈ ts, t ≠ x → t ≠ p → f t = t

namespace FamilyChange

theorem ne (c : FamilyChange ts f x p) : x ≠ p := by
  rintro rfl
  have := (Ticket.activeCable_iff.1 c.active).1
  rw [c.line] at this
  cases this

theorem notRolled (c : FamilyChange ts f x p) : p.state ≠ .rolled := by
  intro h
  have := (Ticket.activeCable_iff.1 c.active).2.2
  rw [h] at this
  simp at this

theorem parentNoChild (c : FamilyChange ts f x p) (n : Nat) : p.childOf n = false ∧ (f p).childOf n = false := by
  simp [Ticket.childOf, c.state, c.notRolled]

theorem sameSubject (c : FamilyChange ts f x p) {t : Ticket} (ht : t ∈ ts) : t.SameSubject (f t) := by
  by_cases hx : t = x
  · subst hx; exact c.sameChild
  · by_cases hp : t = p
    · subst hp; exact c.sameParent
    · rw [c.rest t ht hx hp]
      exact .refl t

/-- Every other ticket is a child of what it was a child of. -/
theorem childOf_other (c : FamilyChange ts f x p) (n : Nat) {t : Ticket} (ht : t ∈ ts) (hx : t ≠ x) :
    (f t).childOf n = t.childOf n := by
  by_cases hp : t = p
  · subst hp
    rw [(c.parentNoChild n).1, (c.parentNoChild n).2]
  · rw [c.rest t ht hx hp]

/-- The law after such a change, where the child is a child of its parent or of none and the parent's member count agrees. -/
theorem keeps (c : FamilyChange ts f x p) (h : TableLaw ts) (parent : (f x).state = .rolled → (f x).parent = some p.number)
    (others : ∀ n, n ≠ p.number → x.childOf n = (f x).childOf n)
    (members : (f p).members = ts.countP fun t => (f t).childOf p.number) : TableLaw (ts.map f) := by
  have active (c' : Nat) {q : Ticket} (hq : q ∈ ts) (ha : Ticket.activeCable c' q = true) : Ticket.activeCable c' (f q) = true := by
    obtain ⟨hk, hc, hs⟩ := Ticket.activeCable_iff.1 ha
    by_cases hx : q = x
    · subst hx; rw [c.line] at hk; cases hk
    · by_cases hp : q = p
      · subst hp
        exact Ticket.activeCable_iff.2 ⟨c.sameParent.kind.trans hk, c.sameParent.cable.trans hc, by rw [c.state]; exact hs⟩
      · rw [c.rest q hq hx hp]
        exact ha
  refine h.map (fun t ht => c.sameSubject ht) (fun t ht hl => ?_) (fun t ht hk hr => ?_) (fun t ht hr => ?_) fun q hq hk => ?_
  · by_cases hx : t = x
    · subst hx; exact c.liveChild
    · by_cases hp : t = p
      · subst hp
        rw [Ticket.live, c.state] at hl
        exact hl
      · rwa [c.rest t ht hx hp] at hl
  · by_cases hx : t = x
    · subst hx; rw [c.line] at hk; cases hk
    · by_cases hp : t = p
      · subst hp
        exact c.notRolled (c.state ▸ hr)
      · rw [c.rest t ht hx hp] at hr
        exact h.cableNeverRolled t ht hk hr
  · by_cases hx : t = x
    · subst hx
      exact ⟨p, c.parent, parent hr, active _ c.parent c.active⟩
    · by_cases hp : t = p
      · subst hp
        exact absurd (c.state ▸ hr) c.notRolled
      · rw [c.rest t ht hx hp] at hr ⊢
        obtain ⟨q, hq, hparent, hactive⟩ := h.parents t ht hr
        exact ⟨q, hq, hparent, active _ hq hactive⟩
  · by_cases hp : q = p
    · subst hp; exact members
    · have hx : q ≠ x := fun hx => by subst hx; rw [c.line] at hk; cases hk
      rw [c.rest q hq hx hp, h.members q hq hk]
      refine List.countP_congr fun t ht => ?_
      by_cases htx : t = x
      · subst htx
        rw [others _ fun hn => hp (h.unique hq c.parent hn)]
      · rw [c.childOf_other _ ht htx]

/-- An OPEN line ticket rolls under an active cable ticket of its cable (R178). -/
theorem joins (c : FamilyChange ts f x p) (h : TableLaw ts) (opened : x.state = .opened) (state : (f x).state = .rolled)
    (parent : (f x).parent = some p.number) (members : (f p).members = p.members + 1) : TableLaw (ts.map f) := by
  have hx (n : Nat) : x.childOf n = false := by simp [Ticket.childOf, opened]
  refine c.keeps h (fun _ => parent) (fun n hn => ?_) ?_
  · rw [hx]
    simp [Ticket.childOf, parent, Ne.symm hn]
  · rw [members, h.members p c.parent (Ticket.activeCable_iff.1 c.active).1]
    refine (countP_one_more h.nodup c.child (hx _) ?_ fun y hy hne => ?_).symm
    · simp [Ticket.childOf, state, parent]
    · exact (c.childOf_other _ hy hne).symm

/-- A ROLLED ticket leaves its parent (R179). -/
theorem leaves (c : FamilyChange ts f x p) (h : TableLaw ts) (rolled : x.childOf p.number = true) (state : (f x).state ≠ .rolled)
    (members : (f p).members = p.members - 1) : TableLaw (ts.map f) := by
  have hfx (n : Nat) : (f x).childOf n = false := by simp [Ticket.childOf, state]
  refine c.keeps h (fun hr => absurd hr state) (fun n hn => ?_) ?_
  · rw [hfx]
    simp [Ticket.childOf, (Ticket.childOf_iff.1 rolled).2, Ne.symm hn]
  · have hone := countP_one_more (p := fun t => (f t).childOf p.number) h.nodup c.child (hfx _) rolled fun y hy hne =>
      c.childOf_other _ hy hne
    rw [members, h.members p c.parent (Ticket.activeCable_iff.1 c.active).1, hone]
    omega

end FamilyChange
end

section
variable {ts : List Ticket} {f : Ticket → Ticket} {p : Ticket}

/-- The OPEN line tickets of a cable roll under its cable ticket without members, which then counts them (R178). -/
theorem TableLaw.gather (h : TableLaw ts) (hp : p ∈ ts) (cable : p.kind = .cable) (opened : p.state = .opened) (empty : p.members = 0)
    (kids : ∀ t ∈ ts, Ticket.openOfCable p.cable t = true →
      t.SameSubject (f t) ∧ (f t).state = .rolled ∧ (f t).parent = some p.number)
    (same : p.SameSubject (f p)) (state : (f p).state = .opened)
    (members : (f p).members = ts.countP (Ticket.openOfCable p.cable))
    (rest : ∀ t ∈ ts, Ticket.openOfCable p.cable t = false → t ≠ p → f t = t) : TableLaw (ts.map f) := by
  have hline {t : Ticket} (ho : Ticket.openOfCable p.cable t = true) : t.kind = .line ∧ t.cable = p.cable ∧ t.state = .opened := by
    simpa [Ticket.openOfCable, and_assoc] using ho
  have hpo : Ticket.openOfCable p.cable p = false := by simp [Ticket.openOfCable, cable]
  have nochild : ∀ t ∈ ts, t.childOf p.number = false := by
    have hcount := h.members p hp cable
    rw [empty, eq_comm, List.countP_eq_zero] at hcount
    exact fun t ht => by simpa using hcount t ht
  have active (c : Nat) {q : Ticket} (hq : q ∈ ts) (ha : Ticket.activeCable c q = true) : Ticket.activeCable c (f q) = true := by
    obtain ⟨hk, hc, hs⟩ := Ticket.activeCable_iff.1 ha
    by_cases hqp : q = p
    · subst hqp
      exact Ticket.activeCable_iff.2 ⟨same.kind.trans hk, same.cable.trans hc, .inl state⟩
    · rw [rest q hq (by simp [Ticket.openOfCable, hk]) hqp]
      exact ha
  have child (n : Nat) {t : Ticket} (ht : t ∈ ts) :
      (f t).childOf n = if Ticket.openOfCable p.cable t then decide (n = p.number) else t.childOf n := by
    split
    next ho =>
      obtain ⟨-, hr, hparent⟩ := kids t ht ho
      simp [Ticket.childOf, hr, hparent, eq_comm]
    next ho =>
      by_cases htp : t = p
      · subst htp
        simp [Ticket.childOf, state, opened]
      · rw [rest t ht (by simpa using ho) htp]
  refine h.map (fun t ht => ?_) (fun t ht hl => ?_) (fun t ht hk => ?_) (fun t ht hr => ?_) fun q hq hk => ?_
  · by_cases ho : Ticket.openOfCable p.cable t = true
    · exact (kids t ht ho).1
    · by_cases htp : t = p
      · subst htp; exact same
      · rw [rest t ht (by simpa using ho) htp]
        exact .refl t
  · by_cases ho : Ticket.openOfCable p.cable t = true
    · simp [Ticket.live, (hline ho).2.2]
    · by_cases htp : t = p
      · subst htp; simp [Ticket.live, opened]
      · rwa [rest t ht (by simpa using ho) htp] at hl
  · have ho : Ticket.openOfCable p.cable t = false := by simp [Ticket.openOfCable, hk]
    by_cases htp : t = p
    · subst htp; rw [state]; decide
    · rw [rest t ht ho htp]
      exact h.cableNeverRolled t ht hk
  · by_cases ho : Ticket.openOfCable p.cable t = true
    · refine ⟨p, hp, (kids t ht ho).2.2, ?_⟩
      rw [(hline ho).2.1]
      exact active _ hp (Ticket.activeCable_iff.2 ⟨cable, rfl, .inl opened⟩)
    · by_cases htp : t = p
      · subst htp; rw [state] at hr; cases hr
      · rw [rest t ht (by simpa using ho) htp] at hr ⊢
        obtain ⟨q, hq, hparent, hactive⟩ := h.parents t ht hr
        exact ⟨q, hq, hparent, active _ hq hactive⟩
  · by_cases hqp : q = p
    · subst hqp
      rw [members]
      refine List.countP_congr fun t ht => ?_
      rw [child _ ht, nochild t ht]
      simp
    · have hn : q.number ≠ p.number := fun hn => hqp (h.unique hq hp hn)
      rw [rest q hq (by simp [Ticket.openOfCable, hk]) hqp, h.members q hq hk]
      refine List.countP_congr fun t ht => ?_
      rw [child _ ht]
      split
      next ho => simp [Ticket.childOf, (hline ho).2.2, hn]
      · rfl

/-- A cable ticket without members may change its state, but not to ROLLED and not from CLOSED (R179). -/
theorem TableLaw.clearEmpty (h : TableLaw ts) (hp : p ∈ ts) (cable : p.kind = .cable) (empty : p.members = 0)
    (same : p.SameSubject (f p)) (live : (f p).live = true → p.live = true) (state : (f p).state ≠ .rolled)
    (members : (f p).members = 0) (rest : ∀ t ∈ ts, t ≠ p → f t = t) : TableLaw (ts.map f) := by
  have nochild : ∀ t ∈ ts, t.childOf p.number = false := by
    have hcount := h.members p hp cable
    rw [empty, eq_comm, List.countP_eq_zero] at hcount
    exact fun t ht => by simpa using hcount t ht
  have child (n : Nat) {t : Ticket} (ht : t ∈ ts) : (f t).childOf n = t.childOf n := by
    by_cases htp : t = p
    · subst htp; simp [Ticket.childOf, state, h.cableNeverRolled t ht cable]
    · rw [rest t ht htp]
  refine h.map (fun t ht => ?_) (fun t ht hl => ?_) (fun t ht hk => ?_) (fun t ht hr => ?_) fun q hq hk => ?_
  · by_cases htp : t = p
    · subst htp; exact same
    · rw [rest t ht htp]
      exact .refl t
  · by_cases htp : t = p
    · subst htp; exact live hl
    · rwa [rest t ht htp] at hl
  · by_cases htp : t = p
    · subst htp; exact state
    · rw [rest t ht htp]
      exact h.cableNeverRolled t ht hk
  · by_cases htp : t = p
    · subst htp; exact absurd hr state
    · rw [rest t ht htp] at hr ⊢
      obtain ⟨q, hq, hparent, hactive⟩ := h.parents t ht hr
      have hqp : q ≠ p := by
        rintro rfl
        have := nochild t ht
        rw [Ticket.childOf_iff.2 ⟨hr, hparent⟩] at this
        cases this
      exact ⟨q, hq, hparent, by rw [rest q hq hqp]; exact hactive⟩
  · rw [List.countP_congr fun t ht => by rw [child q.number ht]]
    by_cases hqp : q = p
    · subst hqp
      rw [members, ← empty]
      exact h.members q hq hk
    · rw [rest q hq hqp]
      exact h.members q hq hk

/-- A cable ticket is CLOSED and its children return OPEN (R181). -/
theorem TableLaw.closeCable (h : TableLaw ts) (hp : p ∈ ts) (cable : p.kind = .cable) (same : p.SameSubject (f p))
    (closed : (f p).state = .closed) (members : (f p).members = 0)
    (kids : ∀ t ∈ ts, t.childOf p.number = true → t.SameSubject (f t) ∧ (f t).state = .opened)
    (rest : ∀ t ∈ ts, t.childOf p.number = false → t ≠ p → f t = t) : TableLaw (ts.map f) := by
  have child (n : Nat) {t : Ticket} (ht : t ∈ ts) : (f t).childOf n = (t.childOf n && !t.childOf p.number) := by
    by_cases hk : t.childOf p.number = true
    · rw [hk]
      simp [Ticket.childOf, (kids t ht hk).2]
    · rw [Bool.not_eq_true] at hk
      by_cases htp : t = p
      · subst htp; simp [Ticket.childOf, closed, h.cableNeverRolled t ht cable]
      · simp [rest t ht hk htp, hk]
  have notCable {t : Ticket} (ht : t ∈ ts) (hk : t.childOf p.number = true) : t.kind ≠ .cable := fun hc =>
    h.cableNeverRolled t ht hc (Ticket.childOf_iff.1 hk).1
  refine h.map (fun t ht => ?_) (fun t ht hl => ?_) (fun t ht hk => ?_) (fun t ht hr => ?_) fun q hq hk => ?_
  · by_cases hk : t.childOf p.number = true
    · exact (kids t ht hk).1
    · by_cases htp : t = p
      · subst htp; exact same
      · rw [rest t ht (by simpa using hk) htp]
        exact .refl t
  · by_cases hk : t.childOf p.number = true
    · simp [Ticket.live, (Ticket.childOf_iff.1 hk).1]
    · by_cases htp : t = p
      · subst htp; simp [Ticket.live, closed] at hl
      · rwa [rest t ht (by simpa using hk) htp] at hl
  · by_cases htp : t = p
    · subst htp; rw [closed]; decide
    · rw [rest t ht (Bool.eq_false_iff.2 fun hc => notCable ht hc hk) htp]
      exact h.cableNeverRolled t ht hk
  · by_cases hk : t.childOf p.number = true
    · rw [(kids t ht hk).2] at hr; cases hr
    · rw [Bool.not_eq_true] at hk
      by_cases htp : t = p
      · subst htp; rw [closed] at hr; cases hr
      · rw [rest t ht hk htp] at hr ⊢
        obtain ⟨q, hq, hparent, hactive⟩ := h.parents t ht hr
        have hqp : q ≠ p := by
          rintro rfl
          rw [Ticket.childOf_iff.2 ⟨hr, hparent⟩] at hk
          cases hk
        have hqc : q.childOf p.number = false := Bool.eq_false_iff.2 fun hc => notCable hq hc (Ticket.activeCable_iff.1 hactive).1
        exact ⟨q, hq, hparent, by rw [rest q hq hqc hqp]; exact hactive⟩
  · rw [List.countP_congr fun t ht => by rw [child q.number ht]]
    by_cases hqp : q = p
    · subst hqp
      rw [members, eq_comm, List.countP_eq_zero]
      simp
    · have hqc : q.childOf p.number = false := Bool.eq_false_iff.2 fun hc => notCable hq hc hk
      have hn : q.number ≠ p.number := fun hn => hqp (h.unique hq hp hn)
      rw [rest q hq hqc hqp, h.members q hq hk]
      refine List.countP_congr fun t ht => ?_
      rw [Bool.and_eq_true]
      refine ⟨fun hc => ⟨hc, ?_⟩, And.left⟩
      simp only [Ticket.childOf_iff] at hc
      simp [Ticket.childOf, hc.1, hc.2, hn]

end

/-! ## The operations of the Ticket Unit keep the law -/

/-- R172, R173 and R179 of a state. -/
structure State.TicketsOk (s : State) : Prop where
  table : TableLaw s.tickets.table
  next : 1 ≤ s.tickets.next ∧ s.tickets.next ≤ 65535

section
variable {s : State} {c : Ctx}

theorem State.TicketsOk.congr (h : s.TicketsOk) {t : State} (table : t.tickets.table = s.tickets.table)
    (next : t.tickets.next = s.tickets.next) : t.TicketsOk := ⟨table ▸ h.table, next ▸ h.next⟩

theorem State.lineTicket?_spec {line : Nat} {t : Ticket} (h : s.lineTicket? line = some t) :
    t ∈ s.tickets.table ∧ t.kind = .line ∧ t.line = some line ∧ t.live = true := by
  have := List.find?_some h
  simp only [Bool.and_eq_true, beq_iff_eq] at this
  exact ⟨List.mem_of_find?_eq_some h, this.1.1, this.1.2, this.2⟩

theorem State.activeCable?_spec {cable : Nat} {p : Ticket} (h : s.activeCable? cable = some p) :
    p ∈ s.tickets.table ∧ Ticket.activeCable cable p = true := ⟨List.mem_of_find?_eq_some h, List.find?_some h⟩

theorem State.clearedCable?_spec {cable : Nat} {p : Ticket} (h : s.clearedCable? cable = some p) :
    p ∈ s.tickets.table ∧ p.kind = .cable ∧ p.cable = cable ∧ p.state = .cleared := by
  have := List.find?_some h
  simp only [Bool.and_eq_true, beq_iff_eq] at this
  exact ⟨List.mem_of_find?_eq_some h, this.1.1, this.1.2, this.2⟩

/-- The ticket that a number names, by a ticket of the table. -/
theorem State.TicketsOk.ticket? (h : s.TicketsOk) {t : Ticket} (ht : t ∈ s.tickets.table) : s.ticket? t.number = some t := by
  cases hf : s.ticket? t.number with
  | none => exact absurd (List.find?_eq_none.1 hf t ht) (by simp)
  | some u => exact congrArg some (h.table.unique (State.ticket?_mem hf) ht (State.ticket?_number hf))

/-- A quiet change of one ticket. -/
theorem State.TicketsOk.updQuiet (h : s.TicketsOk) {t : Ticket} {f : Ticket → Ticket} (ht : t ∈ s.tickets.table) (q : t.Quiet (f t)) :
    (s.updTicket t.number f).TicketsOk :=
  ⟨h.table.updQuiet fun u hu hn => by rw [h.table.unique hu ht hn]; exact q, h.next⟩

/-- A change that is quiet on every ticket. -/
theorem State.TicketsOk.updAll (h : s.TicketsOk) {f : Ticket → Ticket} (n : Nat) (q : ∀ t : Ticket, t.Quiet (f t)) :
    (s.updTicket n f).TicketsOk := ⟨h.table.updQuiet fun t _ _ => q t, h.next⟩

theorem State.mem_updTicket {n : Nat} {f : Ticket → Ticket} {u : Ticket} :
    u ∈ (s.updTicket n f).tickets.table ↔ ∃ t ∈ s.tickets.table, (if t.number = n then f t else t) = u := List.mem_map

/-! ### Placing a ticket (R173, R174) -/

theorem victim_spec {ts : List Ticket} {v : Ticket} (h : victim ts = some v) : v ∈ ts ∧ v.state = .closed := by
  have hfold (l : List Ticket) (best : Option Ticket) (hbest : ∀ b, best = some b → b ∈ ts ∧ b.state = .closed)
      (hl : ∀ t ∈ l, t ∈ ts ∧ t.state = .closed) :
      ∀ v, l.foldl (fun best t => match best with | none => some t | some b => if evictsBefore t b then some t else best) best =
        some v → v ∈ ts ∧ v.state = .closed := by
    induction l generalizing best with
    | nil => exact hbest
    | cons t l ih =>
      refine ih _ (fun b hb => ?_) fun u hu => hl u (by simp [hu])
      have ht := hl t (by simp)
      cases best with
      | none => exact Option.some.inj hb ▸ ht
      | some b' =>
        dsimp only at hb
        split at hb
        · exact Option.some.inj hb ▸ ht
        · exact hbest b hb
  refine hfold _ none (fun b hb => by cases hb) (fun t ht => ?_) v h
  simpa using List.mem_filter.1 ht

/-- Room for one more ticket (R174). -/
theorem Ctx.makeRoom_ok {d : Ctx} (h : c.s.TicketsOk) (hd : c.makeRoom = some d) :
    d.s.TicketsOk ∧ d.s.tickets.table.length < 128 ∧ ∀ t ∈ d.s.tickets.table, t ∈ c.s.tickets.table := by
  unfold Ctx.makeRoom at hd
  split at hd
  next hroom =>
    cases hd
    exact ⟨h, hroom, fun _ ht => ht⟩
  next =>
    split at hd
    · cases hd
    next v hv =>
      cases hd
      obtain ⟨hmem, hclosed⟩ := victim_spec hv
      refine ⟨⟨h.table.evict hmem hclosed, h.next⟩, ?_, fun t ht => (List.mem_filter.1 ht).1⟩
      refine Nat.lt_of_lt_of_le ?_ h.table.places
      exact List.length_filter_lt_length_iff_exists.2 ⟨v, hmem, by simp⟩

theorem State.place_table (t : Ticket) :
    (s.place t).1.tickets.table = insertTicket { t with number := (s.place t).2 } s.tickets.table := rfl

/-- A new ticket, the only one of its line or cable, takes its place (R173). -/
theorem State.TicketsOk.place (h : s.TicketsOk) {t : Ticket} (room : s.tickets.table.length < 128) (opened : t.state = .opened)
    (members : t.members = 0)
    (line : t.kind = .line → ∀ u ∈ s.tickets.table, ∀ l, u.kind = .line → t.line = some l → u.line = some l → u.live = false)
    (cable : t.kind = .cable → ∀ u ∈ s.tickets.table, u.kind = .cable → u.cable = t.cable → u.live = false) :
    (s.place t).1.TicketsOk := by
  have hrange := freeNumber_range (ts := s.tickets.table) (fuel := Config.ticketPlaces + 1) h.next
  refine ⟨h.table.insert room hrange (fun u hu => ?_) opened members line cable, ?_⟩
  · exact freeNumber_free h.next (Nat.lt_succ_of_lt room) (by decide) hu
  · show 1 ≤ (if 65535 ≤ freeNumber _ _ _ then 1 else _ + 1) ∧ (if 65535 ≤ freeNumber _ _ _ then 1 else _ + 1) ≤ 65535
    split <;> omega

/-- The new ticket is the one of its number. -/
theorem State.TicketsOk.place_number (h : s.TicketsOk) {t : Ticket} (room : s.tickets.table.length < 128) {u : Ticket}
    (hu : u ∈ (s.place t).1.tickets.table) (hn : u.number = (s.place t).2) : u = { t with number := (s.place t).2 } := by
  rw [State.place_table] at hu
  rcases mem_insertTicket.1 hu with rfl | hu
  · rfl
  · exact absurd hn (freeNumber_free h.next (Nat.lt_succ_of_lt room) (by decide) hu)

end

section
variable {s : State} {c : Ctx}

/-! ### Roll-up (R178) -/

/-- A change of the ticket of one number and then of another's, ticket by ticket. -/
theorem State.updTicket_updTicket_table (n m : Nat) (f g : Ticket → Ticket) :
    ((s.updTicket n f).updTicket m g).tickets.table = s.tickets.table.map fun t =>
      if (if t.number = n then f t else t).number = m then g (if t.number = n then f t else t)
      else if t.number = n then f t else t := by
  simp only [State.updTicket, State.setTickets, List.map_map]
  rfl

/-- A cable ticket of the law that is OPEN without members gathers the OPEN line tickets of its cable (R178). -/
theorem State.TicketsOk.gather (h : s.TicketsOk) {p : Ticket} (hp : p ∈ s.tickets.table) (cable : p.kind = .cable)
    (opened : p.state = .opened) (empty : p.members = 0) : (s.gather p.cable p.number).TicketsOk := by
  have hkind {t : Ticket} (ho : Ticket.openOfCable p.cable t = true) : t.kind = .line := by
    simp only [Ticket.openOfCable, Bool.and_eq_true, beq_iff_eq] at ho
    exact ho.1.1
  have hpo : Ticket.openOfCable p.cable p = false := by simp [Ticket.openOfCable, cable]
  let f (t : Ticket) : Ticket :=
    if (if Ticket.openOfCable p.cable t then t.rollUnder s.link.time p.number else t).number = p.number then
      { (if Ticket.openOfCable p.cable t then t.rollUnder s.link.time p.number else t) with
        cls := membersClass (s.openOf p.cable), members := (s.openOf p.cable).length, lastChange := s.link.time }
    else if Ticket.openOfCable p.cable t then t.rollUnder s.link.time p.number else t
  have htable : (s.gather p.cable p.number).tickets.table = s.tickets.table.map f := by
    simp only [State.gather, State.updTicket, State.setTickets, List.map_map]
    rfl
  have hkid (t : Ticket) (ht : t ∈ s.tickets.table) (ho : Ticket.openOfCable p.cable t = true) :
      f t = t.rollUnder s.link.time p.number := by
    have hn : t.number ≠ p.number := fun hn => by
      have := hkind ho
      rw [h.table.unique ht hp hn, cable] at this
      cases this
    simp only [f, ho, if_true]
    exact if_neg hn
  have hrest (t : Ticket) (ht : t ∈ s.tickets.table) (ho : Ticket.openOfCable p.cable t = false) (hne : t ≠ p) : f t = t := by
    simp only [f, ho, Bool.false_eq_true, if_false]
    exact if_neg fun hn => hne (h.table.unique ht hp hn)
  have hparent : f p = { p with
      cls := membersClass (s.openOf p.cable), members := (s.openOf p.cable).length, lastChange := s.link.time } := by
    simp [f, hpo]
  refine ⟨htable ▸ h.table.gather hp cable opened empty (fun t ht ho => ?_) ?_ ?_ ?_ hrest, h.next⟩
  · rw [hkid t ht ho]
    exact ⟨⟨rfl, rfl, rfl, rfl⟩, rfl, rfl⟩
  · rw [hparent]
    exact ⟨rfl, rfl, rfl, rfl⟩
  · rw [hparent]
    exact opened
  · rw [hparent, List.countP_eq_length_filter]
    rfl

/-- The gathering keeps the law, where the cable has no active ticket (R178). -/
theorem Ctx.gatherCable_ok (h : c.s.TicketsOk) {child : Ticket} (none : c.s.activeCable? child.cable = none) :
    (c.gatherCable child).s.TicketsOk := by
  unfold Ctx.gatherCable
  split
  next p hp =>
    obtain ⟨hmem, hk, hc, hs⟩ := State.clearedCable?_spec hp
    have hempty : p.members = 0 := by
      rw [h.table.members p hmem hk, List.countP_eq_zero]
      intro t ht
      rw [h.table.childless (n := p.number) (fun q hq hn => by rw [h.table.unique hq hmem hn, hs]; simp) ht]
      decide
    let f (t : Ticket) : Ticket := { t with
      state := .opened, repeats := satInc 255 t.repeats, opened := c.s.link.time, lastSeen := c.s.link.time
      lastChange := c.s.link.time }
    have hreopened : (c.s.updTicket p.number f).TicketsOk := h.updQuiet hmem
      ⟨⟨rfl, rfl, rfl, rfl⟩, fun _ => by simp [Ticket.live, hs], by simp [f, hs], by simp [hs], fun _ _ => .inl rfl, fun _ => rfl⟩
    have hf : f p ∈ (c.s.updTicket p.number f).tickets.table := State.mem_updTicket.2 ⟨p, hmem, if_pos rfl⟩
    have hgather := hreopened.gather (p := f p) hf hk rfl hempty
    simp only [Ctx.tellAll_s, Ctx.tellTicket_s]
    rw [← hc]
    exact hgather
  next hcleared =>
    split
    · exact h
    next d hd =>
      obtain ⟨hok, hroom, hsub⟩ := Ctx.makeRoom_ok h hd
      let t : Ticket := newTicket c.s.link.time .cable .none child.cable child.cls child.origin
      have hcable (u : Ticket) (hu : u ∈ d.s.tickets.table) (hk : u.kind = .cable) (hc : u.cable = child.cable) : u.live = false := by
        have hactive := List.find?_eq_none.1 none u (hsub u hu)
        have hclear := List.find?_eq_none.1 hcleared u (hsub u hu)
        have hrolled := h.table.cableNeverRolled u (hsub u hu) hk
        cases hs : u.state <;> simp_all [Ticket.activeCable, Ticket.live]
      have hplace := hok.place (t := t) hroom rfl rfl (fun hk => by cases hk) fun _ u hu hk hc => hcable u hu hk hc
      have hnew : { t with number := (d.s.place t).2 } ∈ (d.s.place t).1.tickets.table := by
        rw [State.place_table]
        exact mem_insertTicket.2 (.inl rfl)
      have hgather := hplace.gather hnew rfl rfl rfl
      simp only [Ctx.tellAll_s, Ctx.tellTicket_s]
      exact hgather

/-- The roll-up check of an OPEN line ticket keeps the law (R178). -/
theorem Ctx.rollCheck_ok (h : c.s.TicketsOk) {x : Ticket} (hx : x ∈ c.s.tickets.table) (line : x.kind = .line)
    (opened : x.state = .opened) : (c.rollCheck x.number).s.TicketsOk := by
  unfold Ctx.rollCheck
  rw [h.ticket? hx]
  dsimp only
  split
  · exact h
  · split
    next p hp =>
      obtain ⟨hmem, hactive⟩ := State.activeCable?_spec hp
      have hk := (Ticket.activeCable_iff.1 hactive).1
      have hne : x.number ≠ p.number := fun hn => by
        have := h.table.unique hx hmem hn
        rw [this, hk] at line
        cases line
      let g (t : Ticket) : Ticket :=
        ({ t with members := t.members + 1, repeats := satInc 255 t.repeats, lastSeen := c.s.link.time }).raiseClass c.s.link.time x.cls
      let f (t : Ticket) : Ticket :=
        if (if t.number = x.number then t.rollUnder c.s.link.time p.number else t).number = p.number then
          g (if t.number = x.number then t.rollUnder c.s.link.time p.number else t)
        else if t.number = x.number then t.rollUnder c.s.link.time p.number else t
      have hfx : f x = x.rollUnder c.s.link.time p.number := by
        simp only [f, if_true]
        exact if_neg hne
      have hfp : f p = g p := by simp [f, Ne.symm hne]
      have hfamily : FamilyChange c.s.tickets.table f x p :=
        { child := hx, parent := hmem, line := line, active := hactive
          sameChild := by rw [hfx]; exact ⟨rfl, rfl, rfl, rfl⟩
          liveChild := by simp [Ticket.live, opened]
          sameParent := by rw [hfp]; exact ⟨rfl, rfl, rfl, rfl⟩
          state := by rw [hfp]; rfl
          rest := fun t ht htx htp => by
            have h1 : t.number ≠ x.number := fun hn => htx (h.table.unique ht hx hn)
            have h2 : t.number ≠ p.number := fun hn => htp (h.table.unique ht hmem hn)
            simp [f, h1, h2] }
      rw [Ctx.tellTicket_s]
      refine ⟨?_, h.next⟩
      show TableLaw ((c.s.updTicket _ _).updTicket _ _).tickets.table
      rw [State.updTicket_updTicket_table]
      exact hfamily.joins h.table opened (by rw [hfx]; rfl) (by rw [hfx]; rfl) (by rw [hfp]; rfl)
    next hnone =>
      split
      · exact Ctx.gatherCable_ok h hnone
      · exact h

/-- The raise of a line ticket on a line without a non-closed one keeps the law (R173 to R178). -/
theorem Ctx.raiseLine_ok (h : c.s.TicketsOk) {line : Nat} (none : c.s.lineTicket? line = none) (cls : TicketClass) (origin : TicketOrigin)
    {mark : Ticket → Ticket} (same : ∀ t, t.SameSubject (mark t) ∧ (mark t).state = t.state ∧ (mark t).members = t.members) :
    (c.raiseLine line cls origin mark).1.s.TicketsOk := by
  unfold Ctx.raiseLine
  dsimp only
  split
  · exact h
  next d hd =>
    obtain ⟨hok, hroom, hsub⟩ := Ctx.makeRoom_ok h hd
    let t : Ticket := newTicket d.s.link.time .line (some line) (c.s.dirEntry line).cable cls origin
    obtain ⟨hsame, hstate, hmembers⟩ := same t
    have hkind : (mark t).kind = .line := hsame.kind
    have hplace := hok.place (t := mark t) hroom (hstate.trans rfl) (hmembers.trans rfl) (fun _ u hu l hk hl hul => by
      have hnone := List.find?_eq_none.1 none u (hsub u hu)
      have hline : l = line := Option.some.inj (hl.symm.trans hsame.line)
      subst hline
      simpa [hk, hul] using hnone) fun hk => by rw [hkind] at hk; cases hk
    have hnew : { mark t with number := (d.s.place (mark t)).2 } ∈ (d.s.place (mark t)).1.tickets.table := by
      rw [State.place_table]
      exact mem_insertTicket.2 (.inl rfl)
    let e : Ctx := { d with s := (d.s.place (mark t)).1.setOpenTicket line (some (d.s.place (mark t)).2) }
    have he : (e.tellTicket .raised (d.s.place (mark t)).2).s.TicketsOk := by
      rw [Ctx.tellTicket_s]
      exact hplace.congr rfl rfl
    refine Ctx.rollCheck_ok he (x := { mark t with number := (d.s.place (mark t)).2 }) ?_ hkind (hstate.trans rfl)
    rw [Ctx.tellTicket_s]
    exact hnew

end

section
variable {s : State} {c : Ctx}

/-! ### The action table (R175 to R177) -/

/-- Every field that the law reads is as it was. -/
theorem Ticket.Quiet.of_same {t u : Ticket} (same : t.SameSubject u) (state : u.state = t.state) (parent : u.parent = t.parent)
    (members : u.members = t.members) : t.Quiet u :=
  { same with
    live := fun h => by rw [Ticket.live, state] at h; exact h
    rolled := by rw [state]
    parent := fun _ => parent
    active := fun _ h => by rw [state]; exact h
    members := fun _ => members }

/-- A CLEARED line ticket is reopened. -/
theorem Ticket.Quiet.of_reopened {t u : Ticket} (same : t.SameSubject u) (line : t.kind = .line) (cleared : t.state = .cleared)
    (opened : u.state = .opened) : t.Quiet u :=
  { same with
    live := fun _ => by simp [Ticket.live, cleared]
    rolled := by simp [opened, cleared]
    parent := fun h => by rw [cleared] at h; cases h
    active := fun h => by rw [line] at h; cases h
    members := fun h => by rw [line] at h; cases h }

/-- A reopened line ticket, checked for its roll-up, keeps the law (R175, R177, R178). -/
theorem Ctx.reopened_ok (h : c.s.TicketsOk) {t : Ticket} (ht : t ∈ c.s.tickets.table) (line : t.kind = .line)
    (cleared : t.state = .cleared) {f : Ticket → Ticket} (same : t.SameSubject (f t)) (opened : (f t).state = .opened) :
    (((c.upd fun s => s.updTicket t.number f).tellTicket .reopened t.number).rollCheck t.number).s.TicketsOk := by
  have hok : ((c.upd fun s => s.updTicket t.number f).tellTicket .reopened t.number).s.TicketsOk := by
    rw [Ctx.tellTicket_s]
    exact h.updQuiet ht (.of_reopened same line cleared opened)
  have hmem : f t ∈ ((c.upd fun s => s.updTicket t.number f).tellTicket .reopened t.number).s.tickets.table := by
    rw [Ctx.tellTicket_s]
    exact State.mem_updTicket.2 ⟨t, ht, if_pos rfl⟩
  rw [← same.number]
  rw [← same.number] at hok hmem
  exact Ctx.rollCheck_ok hok hmem (same.kind.trans line) opened

theorem Ctx.faultOn_ok (h : c.s.TicketsOk) {t : Ticket} (ht : t ∈ c.s.tickets.table) (line : t.kind = .line) (v : HandOver)
    (cls : TicketClass) : (c.faultOn v cls t).1.s.TicketsOk := by
  unfold Ctx.faultOn
  dsimp only
  split
  case h_1 => exact h.updQuiet ht (.of_same ⟨rfl, rfl, rfl, rfl⟩ rfl rfl rfl)
  case h_2 =>
    have hfirst : (c.s.updTicket t.number fun t =>
        ((if t.cls.unproven then (t.repeated c.s.link.time).setClass c.s.link.time cls
          else t.repeated c.s.link.time)).withEvidence v).TicketsOk := by
      refine h.updQuiet ht ?_
      split <;> exact .of_same ⟨rfl, rfl, rfl, rfl⟩ rfl rfl rfl
    split
    · exact hfirst
    next p hp =>
      refine hfirst.updAll p fun u => ?_
      split <;> exact .of_same ⟨rfl, rfl, rfl, rfl⟩ rfl rfl rfl
  case h_3 =>
    refine h.updQuiet ht ?_
    split <;> exact .of_same ⟨rfl, rfl, rfl, rfl⟩ rfl rfl rfl
  case h_4 hs => exact Ctx.reopened_ok h ht line hs ⟨rfl, rfl, rfl, rfl⟩ rfl
  case h_5 => exact h

/-- A ROLLED line ticket that is CLEARED leaves its parent, which is CLEARED with its last member (R175, R179). -/
theorem Ctx.leaveParent_ok (h : c.s.TicketsOk) {t : Ticket} (ht : t ∈ c.s.tickets.table) (line : t.kind = .line)
    (rolled : t.state = .rolled) {f : Ticket → Ticket} (same : t.SameSubject (f t)) (cleared : (f t).state = .cleared) :
    (((c.upd fun s => s.updTicket t.number f).tellTicket .cleared t.number).leaveParent t.parent).s.TicketsOk := by
  obtain ⟨p, hp, hparent, hactive⟩ := h.table.parents t ht rolled
  have hk := (Ticket.activeCable_iff.1 hactive).1
  have hne : t.number ≠ p.number := fun hn => by
    rw [h.table.unique ht hp hn, hk] at line
    cases line
  let g (t : Ticket) : Ticket := { t with members := t.members - 1 }
  let e : Ticket → Ticket := fun u =>
    if (if u.number = t.number then f u else u).number = p.number then g (if u.number = t.number then f u else u)
    else if u.number = t.number then f u else u
  have hfx : e t = f t := by
    simp only [e, if_true]
    exact if_neg (same.number ▸ hne)
  have hfp : e p = g p := by simp [e, Ne.symm hne]
  have hfamily : FamilyChange c.s.tickets.table e t p :=
    { child := ht, parent := hp, line := line, active := hactive
      sameChild := by rw [hfx]; exact same
      liveChild := by simp [Ticket.live, rolled]
      sameParent := by rw [hfp]; exact ⟨rfl, rfl, rfl, rfl⟩
      state := by rw [hfp]
      rest := fun u hu hut hup => by
        have h1 : u.number ≠ t.number := fun hn => hut (h.table.unique hu ht hn)
        have h2 : u.number ≠ p.number := fun hn => hup (h.table.unique hu hp hn)
        simp [e, h1, h2] }
  let d : Ctx := ((c.upd fun s => s.updTicket t.number f).tellTicket .cleared t.number).upd fun s => s.updTicket p.number g
  have htable : d.s.tickets.table = c.s.tickets.table.map e := by
    rw [← State.updTicket_updTicket_table]
    exact congrArg (fun s : State => (s.updTicket p.number g).tickets.table) (Ctx.tellTicket_s _ _)
  have hnext : d.s.tickets.next = c.s.tickets.next :=
    (congrArg (fun s : State => (s.updTicket p.number g).tickets.next)
      (Ctx.tellTicket_s (c := c.upd fun s => s.updTicket t.number f) .cleared t.number)).trans rfl
  have hok : d.s.TicketsOk := by
    refine ⟨htable ▸ hfamily.leaves h.table (Ticket.childOf_iff.2 ⟨rolled, hparent⟩) ?_ (by rw [hfp]), hnext ▸ h.next⟩
    rw [hfx, cleared]
    decide
  have hgp : g p ∈ d.s.tickets.table := by
    rw [htable, ← hfp]
    exact List.mem_map_of_mem hp
  rw [hparent]
  unfold Ctx.leaveParent
  dsimp only
  rw [show (((c.upd fun s => s.updTicket t.number f).tellTicket .cleared t.number).upd fun s =>
    s.updTicket p.number fun t => { t with members := t.members - 1 }) = d from rfl,
    show d.s.ticket? p.number = some (g p) from hok.ticket? hgp]
  dsimp only
  split
  next hempty =>
    rw [Ctx.tellTicket_s]
    let time := ((c.upd fun s => s.updTicket t.number f).tellTicket .cleared t.number).s.link.time
    let q : Ticket → Ticket := fun u => if u.number = (g p).number then { u with state := .cleared, lastChange := time } else u
    have hq : q (g p) = { g p with state := .cleared, lastChange := time } := if_pos rfl
    refine ⟨hok.table.clearEmpty (f := q) hgp hk hempty ?_ ?_ ?_ ?_ fun u hu hne => ?_, hok.next⟩
    · rw [hq]; exact ⟨rfl, rfl, rfl, rfl⟩
    · intro _
      have := (Ticket.activeCable_iff.1 hactive).2.2
      rcases this with hs | hs <;> simp [Ticket.live, g, hs]
    · rw [hq]; exact fun hr => by cases hr
    · rw [hq]; exact hempty
    · exact if_neg fun hn => hne (hok.table.unique hu hgp hn)
  · exact hok

theorem Ctx.okOn_ok (h : c.s.TicketsOk) {t : Ticket} (ht : t ∈ c.s.tickets.table) (line : t.kind = .line) :
    (c.okOn t).1.s.TicketsOk := by
  unfold Ctx.okOn
  dsimp only
  split
  case h_1 hs =>
    split
    · rw [Ctx.tellTicket_s]
      exact h.updQuiet ht (.of_same ⟨rfl, rfl, rfl, rfl⟩ rfl rfl rfl)
    · rw [Ctx.tellTicket_s]
      refine h.updQuiet ht ⟨⟨rfl, rfl, rfl, rfl⟩, fun _ => by simp [Ticket.live, hs], by simp [Ticket.setState, hs], fun hr => ?_,
        fun hk => ?_, fun _ => rfl⟩
      · rw [hs] at hr; cases hr
      · rw [line] at hk; cases hk
  case h_2 hs => exact Ctx.leaveParent_ok h ht line hs ⟨rfl, rfl, rfl, rfl⟩ rfl
  case h_3 =>
    rw [Ctx.tellTicket_s]
    exact h.updQuiet ht (.of_same ⟨rfl, rfl, rfl, rfl⟩ rfl rfl rfl)
  case h_4 => exact h
  case h_5 => exact h

theorem Ctx.belowLimitOn_ok (h : c.s.TicketsOk) {t : Ticket} (ht : t ∈ c.s.tickets.table) : (c.belowLimitOn t).1.s.TicketsOk := by
  unfold Ctx.belowLimitOn
  dsimp only
  split
  case h_1 => exact h
  case h_2 => exact h
  case h_3 => exact h.updQuiet ht (.of_same ⟨rfl, rfl, rfl, rfl⟩ rfl rfl rfl)

theorem State.TicketsOk.setVerifyDue (h : s.TicketsOk) (line : Nat) (due : Bool) : (s.setVerifyDue line due).TicketsOk := by
  unfold State.setVerifyDue
  split
  next t ht => exact h.updQuiet (State.lineTicket?_spec ht).1 (.of_same ⟨rfl, rfl, rfl, rfl⟩ rfl rfl rfl)
  · exact h

theorem Ctx.actOnVerdict_ok (h : c.s.TicketsOk) (o : HandOver) (v : HandedVerdict) : (c.actOnVerdict o v).1.s.TicketsOk := by
  unfold Ctx.actOnVerdict
  split
  next hnone =>
    split
    next cls =>
      have hraise := Ctx.raiseLine_ok h hnone cls o.origin (mark := fun t => { t with evidence := o.evidence, distance := o.distance })
        fun t => ⟨⟨rfl, rfl, rfl, rfl⟩, rfl, rfl⟩
      dsimp only
      split <;> exact hraise
    · exact h
  next t ht =>
    obtain ⟨hmem, hline, -, -⟩ := State.lineTicket?_spec ht
    cases v with
    | fault cls => exact Ctx.faultOn_ok h hmem hline o cls
    | belowLimit => exact Ctx.belowLimitOn_ok h hmem
    | ok => exact Ctx.okOn_ok h hmem hline

/-- The hand-over of a verdict or a mark keeps the law (R175, R176). -/
theorem Ctx.handVerdict_ok (h : c.s.TicketsOk) (o : HandOver) (v : HandedVerdict) : (c.handVerdict o v).1.s.TicketsOk := by
  have hact := Ctx.actOnVerdict_ok h o v
  unfold Ctx.handVerdict
  dsimp only
  split
  · exact (hact.setVerifyDue o.line false).congr rfl rfl
  · exact hact.congr rfl rfl

/-- A complaint keeps the law (R177). -/
theorem Ctx.complain_ok (h : c.s.TicketsOk) (line code : Nat) : (c.complain line code).1.s.TicketsOk := by
  unfold Ctx.complain
  dsimp only
  split
  next hnone =>
    have hraise := Ctx.raiseLine_ok h hnone .unverified .report (mark := fun t => { t with complaint := true, code := some code })
      fun t => ⟨⟨rfl, rfl, rfl, rfl⟩, rfl, rfl⟩
    split <;> exact hraise
  next t ht =>
    obtain ⟨hmem, hline, -, -⟩ := State.lineTicket?_spec ht
    split
    next hcleared => exact Ctx.reopened_ok h hmem hline hcleared ⟨rfl, rfl, rfl, rfl⟩ rfl
    · exact h.updQuiet hmem (.of_same ⟨rfl, rfl, rfl, rfl⟩ rfl rfl rfl)

/-! ### Closing (R181) -/

/-- A close keeps the law (R181). -/
theorem State.TicketsOk.close (h : s.TicketsOk) {t : Ticket} (ht : t ∈ s.tickets.table) (state : t.state ≠ .rolled) :
    (s.closeTicket t).TicketsOk := by
  unfold State.closeTicket
  dsimp only
  split
  next hk =>
    have hclosed : (s.updTicket t.number (Ticket.setState s.link.time .closed)).TicketsOk := h.updQuiet ht
      ⟨⟨rfl, rfl, rfl, rfl⟩, fun hl => absurd hl (by simp [Ticket.live, Ticket.setState]), by simp [Ticket.setState, state],
        fun hr => absurd hr state, fun hc => absurd (hk.symm.trans hc) (by decide), fun _ => rfl⟩
    split
    · exact hclosed.congr rfl rfl
    · exact hclosed
  next hk =>
    let g (u : Ticket) : Ticket :=
      if u.state = .rolled ∧ u.parent = some t.number then
        { u with state := .opened, verifyDue := true, parent := none, lastChange := s.link.time }
      else u
    let f (u : Ticket) : Ticket :=
      if (g u).number = t.number then { (g u).setState s.link.time .closed with members := 0 } else g u
    have htable : ((s.returnChildren t.number).updTicket t.number fun t =>
        { t.setState s.link.time .closed with members := 0 }).tickets.table = s.tickets.table.map f := by
      simp only [State.returnChildren, State.updTicket, State.setTickets, List.map_map]
      rfl
    have hg (u : Ticket) (hc : u.childOf t.number = false) : g u = u :=
      if_neg fun hc' => by rw [Ticket.childOf_iff.2 hc'] at hc; cases hc
    have htc : t.childOf t.number = false := by simp [Ticket.childOf, state]
    have hft : f t = { t.setState s.link.time .closed with members := 0 } := by
      simp [f, hg t htc]
    have hkid (u : Ticket) (hu : u ∈ s.tickets.table) (hc : u.childOf t.number = true) :
        f u = { u with state := .opened, verifyDue := true, parent := none, lastChange := s.link.time } := by
      have hn : u.number ≠ t.number := fun hn => by
        rw [h.table.unique hu ht hn, htc] at hc
        cases hc
      simp [f, g, Ticket.childOf_iff.1 hc, hn]
    refine ⟨htable ▸ h.table.closeCable ht hk ?_ ?_ ?_ (fun u hu hc => ?_) fun u hu hc hne => ?_, h.next⟩
    · rw [hft]; exact ⟨rfl, rfl, rfl, rfl⟩
    · rw [hft]; rfl
    · rw [hft]
    · rw [hkid u hu hc]
      exact ⟨⟨rfl, rfl, rfl, rfl⟩, rfl⟩
    · have hn : u.number ≠ t.number := fun hn => hne (h.table.unique hu ht hn)
      simp [f, hg u hc, hn]

end

/-! ## Every move keeps the law -/

section
variable {F : Prop} {s t : State}

theorem State.TicketsOk.empty (table : t.tickets.table = []) (next : t.tickets.next = 1) : t.TicketsOk where
  table := by
    rw [table]
    exact ⟨by simp, .nil, by simp, by simp, by simp, by simp, by simp, by simp⟩
  next := by rw [next]; decide

theorem TicketMove.keepsTickets (m : TicketMove s t) (h : s.TicketsOk) : t.TicketsOk := by
  cases m with
  | lines => exact h.congr rfl rfl
  | verdict c same o v => exact Ctx.handVerdict_ok (same ▸ h) o v
  | complain c same line code => exact Ctx.complain_ok (same ▸ h) line code
  | verifyLine line due => exact h.setVerifyDue line due
  | dispatch x found opened =>
    exact h.updQuiet (State.ticket?_mem found) ⟨⟨rfl, rfl, rfl, rfl⟩, fun _ => by simp [Ticket.live, opened],
      by simp [Ticket.setState, opened], fun hr => by simp [opened] at hr, fun _ _ => .inr rfl, fun _ => rfl⟩
  | verify n => exact h.updAll n fun t => .of_same ⟨rfl, rfl, rfl, rfl⟩ rfl rfl rfl
  | close x found state => exact h.close (State.ticket?_mem found) state
  | erase => exact .empty rfl rfl

theorem JobMove.keepsTickets (m : JobMove F s t) (h : s.TicketsOk) : t.TicketsOk := by
  cases m with
  | remove j o id =>
    unfold State.without
    dsimp only
    split
    · refine State.TicketsOk.setVerifyDue ?_ j.line true
      exact h.congr rfl rfl
    · exact h.congr rfl rfl
  | _ => exact h.congr rfl rfl

theorem ResetMove.keepsTickets (m : ResetMove s t) (h : s.TicketsOk) : t.TicketsOk := by
  cases m with
  | checkMarker =>
    unfold State.checkMarker
    split
    · exact h
    · dsimp only
      split
      · exact .empty rfl rfl
      · exact h.congr rfl rfl
  | dropped d line g => cases g <;> exact h.congr rfl rfl
  | _ => exact h.congr rfl rfl

theorem Move.keepsTickets (m : Move F s t) (h : s.TicketsOk) : t.TicketsOk := by
  cases m with
  | bus m => exact h.congr (by rw [m.tickets]) (by rw [m.tickets])
  | job m => exact m.keepsTickets h
  | ticket m => exact m.keepsTickets h
  | setting m =>
    obtain ⟨-, -, -, -, -, htable, hnext, -⟩ := m.rest
    exact h.congr htable hnext
  | reset m => exact m.keepsTickets h
  | _ => exact h.congr rfl rfl

/-- Every step keeps the law of tickets with that of parents (R172, R173, R179). -/
theorem step_keepsTickets (h : step s = .next t) (tickets : TicketLaw s) (parents : ParentLaw s) : TicketLaw t ∧ ParentLaw t := by
  obtain ⟨htable, hnext⟩ := tableLaw_iff.1 ⟨tickets, parents⟩
  have hok : t.TicketsOk := step_keeps (P := State.TicketsOk) h ⟨htable, hnext⟩ (fun _ _ m => m.keepsTickets)
    (fun _ h => h.congr rfl rfl) fun _ _ h => h.congr rfl rfl
  exact tableLaw_iff.2 ⟨hok.table, hok.next⟩

end

/-- Settles O6: the table's law with that of parents is kept by every operation of the Ticket Unit. -/
theorem everyStepKeepsTheTicketLaw : Obligations.EveryStepKeepsTheTicketLaw :=
  fun _ _ tickets parents h => (step_keepsTickets h tickets parents).1

/-- Settles O7: parents and member counts agree after every operation of the Ticket Unit. -/
theorem everyStepKeepsTheParentLaw : Obligations.EveryStepKeepsTheParentLaw :=
  fun _ _ tickets parents h => (step_keepsTickets h tickets parents).2

end Sys2Proof.Machine
end

section
/-! PROOF. Jobs that enter the queue: a walk that passes over every job, complaints, the pace timer (R97 to R99, R122 to R126, R177). -/

namespace Sys2Proof.Machine

/-! ## A walk that starts nothing (R99, R114) -/

/-- A QUEUED job is passed over by a walk. -/
structure Ctx.PassesOver (c : Ctx) (j : Job) : Prop where
  equipped : (c.s.dirEntry j.line).cls ≠ 0
  waits : j.takeover.isSome = true ∨
    c.s.startBus? j.line = none ∧ (j.priority = .urgent → j.claim = none → c.s.preemptVictim j.line = none)

theorem Ctx.walkList_passes {c : Ctx} {l : List Job} (h : ∀ j ∈ l, c.PassesOver j) : c.walkList l = none := by
  induction l with
  | nil => rfl
  | cons j l ih =>
    have hrest := ih fun k hk => h k (List.mem_cons_of_mem _ hk)
    obtain ⟨hequipped, hwaits⟩ := h j List.mem_cons_self
    unfold Ctx.walkList
    refine (if_neg hequipped).trans ?_
    by_cases hmark : j.takeover.isSome = true
    · exact (if_pos hmark).trans hrest
    · obtain ⟨hbus, hvictim⟩ := hwaits.resolve_left hmark
      refine (if_neg hmark).trans ?_
      simp only [hbus]
      split
      next hurgent =>
        rw [hvictim hurgent.1 hurgent.2]
        exact hrest
      · exact hrest

theorem Ctx.walk_passes {c : Ctx} (h : ∀ j ∈ c.s.sched.jobs, j.state = .queued → c.PassesOver j) : c.walkList c.s.queue = none :=
  Ctx.walkList_passes fun j hj => h j (State.queue_mem hj).1 (State.queue_mem hj).2

/-- No bus of the route is allocatable: no job of the line can start (R99). -/
theorem State.startBus?_none {s : State} {line : Nat} (h : s.groupHeld (groupOf line) = true ∨
    ∀ b, inSet (s.route (groupOf line)).allowed b = true → s.allocatable b = false) : s.startBus? line = none := by
  unfold State.startBus?
  split
  · rfl
  next hfree =>
    have hall := h.resolve_left hfree
    refine List.find?_eq_none.2 fun b _ hb => ?_
    simp only [State.startable, Bool.and_eq_true] at hb
    rw [hall b hb.2] at hb
    simp at hb

/-! ## The entry of a job (R92, R97) -/

theorem Ctx.enqueue_first {c : Ctx} (hout : c.out = []) (q : JobRequest) :
    c.enqueue q = { c with s := c.s.enqueue q, out := [.jobState c.s.nextId .none false], walkDue := true } := by
  unfold Ctx.enqueue
  dsimp only
  rw [Ctx.jobChanged_first (by exact hout)]
  rfl

/-- The job that has entered. -/
theorem State.job?_enqueue {s : State} (hlen : s.sched.jobs.length ≤ 16) (q : JobRequest) :
    (s.enqueue q).job? s.nextId = some (q.job s.nextId s.sched.nextQueue s.link.time) := by
  obtain ⟨k, -, hfree, -⟩ := State.nextId_spec hlen
  have hnone : s.sched.jobs.find? (fun j => j.id == s.nextId) = none :=
    List.find?_eq_none.2 fun j hj hid => hfree (List.mem_map.2 ⟨j, hj, beq_iff_eq.1 hid⟩)
  show List.find? _ (s.sched.jobs ++ [_]) = _
  rw [List.find?_append, hnone]
  simp [JobRequest.job]

theorem Calm.enqueue {s : State} (h : Calm s) (q : JobRequest) : Calm (s.enqueue q) := by
  refine ⟨h.exits, fun j hj => ?_⟩
  rcases List.mem_append.1 hj with hj | hj
  · exact h.heads j hj
  · rw [List.mem_singleton.1 hj]
    exact fun hs => by cases hs

/-- In a settled state a job that no bus can start enters the queue, and nothing follows. -/
theorem Ctx.enqueue_rests {c : Ctx} {t : State} (h : Settled t) {q : JobRequest} (hs : c.s = t.enqueue q)
    (equipped : (t.dirEntry q.line).cls ≠ 0) (waits : t.startBus? q.line = none) (normal : q.priority ≠ .urgent) :
    c.settle settleFuel = { c with walkDue := false, issueDue := false } := by
  refine Ctx.settle_calm_rest (hs ▸ h.toCalm.enqueue q) (fun _ => ?_) fun _ => State.mayIssue_stopped (hs ▸ h.sweep)
  refine Ctx.walk_passes fun j hj hq => ?_
  have hnew : j = q.job t.nextId t.sched.nextQueue t.link.time := by
    rw [hs] at hj
    rcases List.mem_append.1 hj with hj | hj
    · exact absurd hq (h.queue j hj)
    · exact List.mem_singleton.1 hj
  subst hnew
  constructor
  · rw [hs]; exact equipped
  · right
    rw [hs]
    exact ⟨waits, fun hu => absurd hu normal⟩

/-! ## Complaints (R177) -/

section Complaints
variable {s : State} {x y : Ticket} {line : Nat}

theorem State.updTicket_updTicket {n : Nat} (hy : y.number = n) (g : Ticket → Ticket) :
    (s.updTicket n fun _ => y).updTicket n g = s.updTicket n fun _ => g y := by
  refine congrArg s.setTickets ?_
  show (List.map _ (s.tickets.table.map _)) = _
  rw [List.map_map]
  refine List.map_congr_left fun t _ => ?_
  by_cases h : t.number = n
  · simp [h, hy]
  · simp [h]

/-- The line's ticket after a change that leaves it the line's. -/
theorem State.lineTicket?_updTicket (hx : s.lineTicket? line = some x) (hone : ∀ t ∈ s.tickets.table, t.number = x.number → t = x)
    (hkind : y.kind = x.kind) (hline : y.line = x.line) (hlive : y.live = x.live) :
    (s.updTicket x.number fun _ => y).lineTicket? line = some y := by
  obtain ⟨hmem, hk, hl, hv⟩ := State.lineTicket?_spec hx
  unfold State.lineTicket? at hx ⊢
  show List.find? _ (s.tickets.table.map _) = _
  rw [List.find?_map]
  have hsame : s.tickets.table.find? ((fun t => t.kind == .line && t.line == some line && t.live) ∘
      fun t => if t.number = x.number then y else t) = some x := by
    rw [← hx]
    refine List.find?_congr fun t ht => ?_
    by_cases h : t.number = x.number
    · rw [hone t ht h]
      simp [hkind, hline, hlive]
    · simp [h]
  rw [hsame]
  simp

/-- The scheduler takes no routine job for the line (R98). -/
theorem State.takesRoutine_false {src : JobSource} (h : 16 ≤ s.sched.jobs.length ∨
    2 ≤ (s.sched.jobs.filter fun k => k.source == src).length ∨ (∃ k ∈ s.sched.jobs, k.line = line) ∨
      (s.route (line / 64)).enabled = false) : s.takesRoutine src line = false := by
  unfold State.takesRoutine
  rcases h with h | h | ⟨k, hk, hline⟩ | h
  · simp [Config.jobPlaces, Nat.not_lt.2 h]
  · simp [State.countOf, Nat.not_lt.2 h]
  · have hbusy : s.lineBusy line = true := List.any_eq_true.2 ⟨k, hk, by simp [hline]⟩
    simp [hbusy]
  · simp [groupOf, h]

/-- The scheduler takes a routine job for the line (R98). -/
theorem State.takesRoutine_true {src : JobSource} (supply : s.pins.supplyGood = true) (place : s.sched.jobs.length < 16)
    (count : (s.sched.jobs.filter fun k => k.source == src).length < 2) (free : ∀ k ∈ s.sched.jobs, k.line ≠ line)
    (enabled : (s.route (line / 64)).enabled = true) : s.takesRoutine src line = true := by
  have hbusy : s.lineBusy line = false := by simpa [State.lineBusy] using free
  simp [State.takesRoutine, supply, Config.jobPlaces, place, State.countOf, count, hbusy, groupOf, enabled]

theorem State.ticket?_only (hx : x ∈ s.tickets.table) (hone : ∀ t ∈ s.tickets.table, t.number = x.number → t = x) :
    s.ticket? x.number = some x := by
  cases hf : s.ticket? x.number with
  | none => exact absurd (List.find?_eq_none.1 hf x hx) (by simp)
  | some u => exact congrArg some (hone u (State.ticket?_mem hf) (State.ticket?_number hf))

/-- Verify-due of the one ticket of a number, after a change of it. -/
theorem State.dueOf_updTicket (hx : x ∈ s.tickets.table) (hone : ∀ t ∈ s.tickets.table, t.number = x.number → t = x)
    (hy : y.number = x.number) : (s.updTicket x.number fun _ => y).dueOf x.number = y.verifyDue := by
  unfold State.dueOf
  rw [State.ticket?_updTicket fun _ _ => hy, State.ticket?_only hx hone]
  rfl

/-- A complaint on an OPEN ticket repeats it (R177). -/
theorem Ctx.complain_repeats {c : Ctx} (hx : c.s.lineTicket? line = some x) (opened : x.state = .opened)
    (hone : ∀ t ∈ c.s.tickets.table, t.number = x.number → t = x) (code : Nat) :
    c.complain line code = (c.upd fun s => s.updTicket x.number fun _ =>
      { x with repeats := min 255 (x.repeats + 1), lastSeen := c.s.link.time, complaint := true, code := some code },
      .repeated, x.number) := by
  have hticket := State.updTicket_only hone fun t : Ticket =>
    { t.repeated c.s.link.time with complaint := true, code := some code }
  unfold Ctx.complain
  simp only [hx]
  rw [if_neg (by rw [opened]; decide)]
  exact congrArg (fun s => (({ c with s := s } : Ctx), TicketAction.repeated, x.number)) hticket

/-- A line and a complaint's code, laid out (R177). -/
theorem ownerTicketReport_laidOut {c : Ctx} {code : Nat} (hline : line ≤ 4095) (hcode : code ≤ 15) :
    ownerTicketReport (word line ++ [byteOf code]) c =
      if (c.complain line code).1.s.takesRoutine .auto line then
        .done (((c.complain line code).1.enqueue (JobRequest.routine .auto line false)).settle settleFuel) fun s =>
          .complaint line (c.complain line code).2.1 (c.complain line code).2.2 (c.complain line code).1.s.nextId
            (s.dueOf (c.complain line code).2.2)
      else
        .done (((c.complain line code).1.upd fun s => s.setVerifyDue line true).settle settleFuel) fun s =>
          .complaint line (c.complain line code).2.1 (c.complain line code).2.2 0 (s.dueOf (c.complain line code).2.2) := by
  have hword : wordAt (word line ++ [byteOf code]) 0 = line := wordAt_word (by omega) _
  have hbyte : byteAt (word line ++ [byteOf code]) 2 = code := by
    show (byteOf code).toNat = code
    exact byteOf_toNat (by omega)
  unfold ownerTicketReport
  rw [hword, hbyte, if_neg (by omega), if_neg (by omega)]

/-- A number above all others is free. -/
theorem freeNumber_above {ts : List Ticket} {fuel n : Nat} (h : ∀ t ∈ ts, t.number < n) : freeNumber ts (fuel + 1) n = n := by
  unfold freeNumber
  refine if_neg fun hany => ?_
  obtain ⟨t, ht, hn⟩ := List.any_eq_true.1 hany
  exact absurd (beq_iff_eq.1 hn) (Nat.ne_of_lt (h t ht))

theorem insertTicket_above {ts : List Ticket} {t : Ticket} (h : ∀ u ∈ ts, u.number < t.number) : insertTicket t ts = ts ++ [t] := by
  induction ts with
  | nil => rfl
  | cons u us ih =>
    unfold insertTicket
    rw [if_neg (Nat.lt_asymm (h u (by simp))), ih fun v hv => h v (by simp [hv])]
    rfl

/-- The table after the raise of the ticket with the highest number, whose line's record names it (R161, R173). -/
def State.raisedLast (s : State) (line n : Nat) (y : Ticket) : State :=
  { s with tickets := { s.tickets with table := s.tickets.table ++ [y], next := if n = 65535 then 1 else n + 1 } }.setLineStatus line
    { s.lineStatus line with ticket := some n }

theorem State.raisedLast_updTicket {n : Nat} (below : ∀ t ∈ s.tickets.table, t.number < n) (hy : y.number = n) (f : Ticket → Ticket) :
    (s.raisedLast line n y).updTicket n f = s.raisedLast line n (f y) := by
  refine congrArg (s.raisedLast line n y).setTickets ?_
  show (s.tickets.table ++ [y]).map _ = s.tickets.table ++ [f y]
  rw [List.map_append]
  congr 1
  · refine (List.map_congr_left fun t ht => ?_).trans (List.map_id _)
    exact if_neg (Nat.ne_of_lt (below t ht))
  · simp [hy]

/-- A raise with room in the table, on a line without a cable: the ticket stands last (R173, R177). -/
theorem Ctx.raiseLine_last {c : Ctx} {n : Nat} {cls : TicketClass} {origin : TicketOrigin} {mark : Ticket → Ticket}
    (cable : (c.s.dirEntry line).cable = 0) (room : c.s.tickets.table.length < 128) (next : c.s.tickets.next = n) (hhi : n ≤ 65535)
    (below : ∀ t ∈ c.s.tickets.table, t.number < n)
    (hy : { mark (newTicket c.s.link.time .line (some line) 0 cls origin) with number := n } = y) (hcable : y.cable = 0) :
    c.raiseLine line cls origin mark =
      (({ c with s := c.s.raisedLast line n y } : Ctx).put (.early (ticketEvent c.s .raised y)), some n) := by
  let t : Ticket := mark (newTicket c.s.link.time .line (some line) 0 cls origin)
  have hnumber : y.number = n := by rw [← hy]
  have hplace : c.s.place t = ({ c.s with tickets := { c.s.tickets with
      table := c.s.tickets.table ++ [y], next := if n = 65535 then 1 else n + 1 } }, n) := by
    have hfree : freeNumber c.s.tickets.table (Config.ticketPlaces + 1) c.s.tickets.next = n := by
      rw [next]; exact freeNumber_above below
    have hwrap : (if 65535 ≤ n then 1 else n + 1) = if n = 65535 then 1 else n + 1 := by split <;> split <;> omega
    unfold State.place
    simp only [hfree, hwrap]
    rw [show ({ t with number := n } : Ticket) = y from hy, insertTicket_above (t := y) (by rw [hnumber]; exact below)]
  have hfound : (c.s.raisedLast line n y).ticket? n = some y := by
    have hnone : c.s.tickets.table.find? (fun t => t.number == n) = none :=
      List.find?_eq_none.2 fun u hu hn => absurd (beq_iff_eq.1 hn) (Nat.ne_of_lt (below u hu))
    show List.find? _ (c.s.tickets.table ++ [y]) = _
    rw [List.find?_append, hnone]
    simp [hnumber]
  have htell : ({ c with s := c.s.raisedLast line n y } : Ctx).tellTicket .raised n =
      ({ c with s := c.s.raisedLast line n y } : Ctx).put (.early (ticketEvent c.s .raised y)) := by
    unfold Ctx.tellTicket
    simp only [hfound]
    rfl
  have hcheck (d : Ctx) (hd : d.s = c.s.raisedLast line n y) : d.rollCheck n = d := by
    unfold Ctx.rollCheck
    rw [hd, hfound]
    exact if_pos hcable
  unfold Ctx.raiseLine Ctx.makeRoom
  simp only [cable, show c.s.tickets.table.length < Config.ticketPlaces from room, if_true]
  rw [hplace]
  refine Prod.ext ?_ rfl
  refine (congrArg (fun d : Ctx => d.rollCheck n) htell).trans (hcheck _ rfl)

end Complaints

/-- Settles O41: a complaint repeats the OPEN ticket, with or without an AUTO job, or raises an UNVERIFIED one. -/
theorem complaintRepeatsOrRaisesATicket : Obligations.ComplaintRepeatsOrRaisesATicket := by
  refine ⟨fun s tag line code n x due s' hr hline hcode hx hn opened hone hs' => ⟨fun hdue hcalm hfull => ?_,
    fun hdue hset hlen hauto hfree henabled hcls hbuses => ?_⟩, fun s tag line code n x hr hcalm hline hcode hnone hcable hroom hnext
      hlo hhi hbelow hfull hx => ?_⟩ <;> refine congrArg Host.Outcome.next ?_
  · subst hn hs' hdue
    let y : Ticket := { x with
      repeats := min 255 (x.repeats + 1), lastSeen := s.link.time, complaint := true, code := some code }
    let c : Ctx := s.served.upd fun s => s.updTicket x.number fun _ => { y with verifyDue := true }
    have hcomplain := Ctx.complain_repeats (c := s.served) hx opened hone code
    have hserve : ownerTicketReport (word line ++ [byteOf code]) s.served = .done (c.settle settleFuel) fun s =>
        .complaint line .repeated x.number 0 (s.dueOf x.number) := by
      have hroutine : (s.served.complain line code).1.s.takesRoutine .auto line = false := by
        rw [hcomplain]
        exact State.takesRoutine_false (s := s.served.s.updTicket x.number fun _ => y) hfull
      rw [ownerTicketReport_laidOut hline hcode, hroutine, hcomplain]
      have hticket : (s.served.s.updTicket x.number fun _ => y).lineTicket? line = some y :=
        State.lineTicket?_updTicket (s := s.served.s) hx hone rfl rfl rfl
      have hverify : (s.served.s.updTicket x.number fun _ => y).setVerifyDue line true = c.s := by
        unfold State.setVerifyDue
        rw [hticket]
        exact State.updTicket_updTicket (s := s.served.s) rfl _
      exact congrArg (fun u => Served.done (({ s.served with s := u } : Ctx).settle settleFuel) _) hverify
    rw [Ctx.settle_calm_quiet (c := c) ⟨hcalm.exits, hcalm.heads⟩ rfl rfl] at hserve
    refine requestFrame_acks hr 0x44#8 rfl hserve rfl rfl ?_ hr.running
    exact congrArg (AckBody.complaint line .repeated x.number 0)
      (State.dueOf_updTicket (s := s.served.s) (y := { y with verifyDue := true }) (State.lineTicket?_spec hx).1 hone rfl)
  · subst hn hs' hdue
    let y : Ticket := { x with
      repeats := min 255 (x.repeats + 1), lastSeen := s.link.time, complaint := true, code := some code }
    let t : State := s.served.s.updTicket x.number fun _ => y
    let q : JobRequest := JobRequest.routine .auto line false
    let c : Ctx := { s.served with s := t.enqueue q, out := [.jobState s.nextId .none false], walkDue := true }
    have hcomplain := Ctx.complain_repeats (c := s.served) hx opened hone code
    have hserve : ownerTicketReport (word line ++ [byteOf code]) s.served = .done (c.settle settleFuel) fun s' =>
        .complaint line .repeated x.number s.nextId (s'.dueOf x.number) := by
      have hroutine : (s.served.complain line code).1.s.takesRoutine .auto line = true := by
        rw [hcomplain]
        exact State.takesRoutine_true (s := t) hr.supply hlen hauto hfree henabled
      rw [ownerTicketReport_laidOut hline hcode, hroutine, hcomplain]
      exact congrArg (fun c : Ctx => Served.done (c.settle settleFuel) _) (Ctx.enqueue_first (c := s.served.upd fun _ => t) rfl q)
    have hsettled : Settled t := hset.congr rfl rfl rfl
    rw [Ctx.enqueue_rests hsettled (q := q) (c := c) rfl hcls (State.startBus?_none (.inr hbuses))
      (fun h => by cases h)] at hserve
    have hjob := State.job?_enqueue (s := t) (Nat.le_of_lt hlen) q
    refine requestFrame_telling (rs := _) hr 0x44#8 rfl hserve rfl ?_ ?_
    · exact congrArg (AckBody.complaint line .repeated x.number s.nextId)
        (State.dueOf_updTicket (s := s.served.s) (y := y) (State.lineTicket?_spec hx).1 hone rfl)
    · exact (report_jobState hjob).trans rfl
  · let y : Ticket := { x with verifyDue := false }
    let t (z : Ticket) : State := s.served.s.raisedLast line n z
    let c : Ctx := ({ s.served with s := t x } : Ctx).put (.early (ticketEvent s.served.s .raised y))
    have hfound (z : Ticket) (hz : z.number = n) : (t z).ticket? n = some z := by
      have hnone' : s.tickets.table.find? (fun t => t.number == n) = none :=
        List.find?_eq_none.2 fun u hu hn => absurd (beq_iff_eq.1 hn) (Nat.ne_of_lt (hbelow u hu))
      show List.find? _ (s.tickets.table ++ [z]) = _
      rw [List.find?_append, hnone']
      simp [hz]
    have hcomplain : s.served.complain line code =
        (({ s.served with s := t y } : Ctx).put (.early (ticketEvent s.served.s .raised y)), .raised, n) := by
      have hraise := Ctx.raiseLine_last (c := s.served) (line := line) (y := y) (cls := .unverified) (origin := .report)
        (mark := fun t => { t with complaint := true, code := some code }) hcable hroom hnext hhi hbelow (by subst hx; rfl)
        (by subst hx; rfl)
      have haction : (t y).raisedAction n = .raised := by
        unfold State.raisedAction
        rw [hfound y (by subst hx; rfl)]
        exact if_neg fun h => by subst hx; cases h
      unfold Ctx.complain
      simp only [show s.served.s.lineTicket? line = none from hnone, hraise]
      exact congrArg (fun a => (_, a, n)) haction
    have hserve : ownerTicketReport (word line ++ [byteOf code]) s.served = .done (c.settle settleFuel) fun s =>
        .complaint line .raised n 0 (s.dueOf n) := by
      have hroutine : (s.served.complain line code).1.s.takesRoutine .auto line = false := by
        rw [hcomplain]
        exact State.takesRoutine_false (s := t y) hfull
      rw [ownerTicketReport_laidOut hline hcode, hroutine, hcomplain]
      have hverify : (t y).setVerifyDue line true = t x := by
        have hline : (t y).lineTicket? line = some y := by
          unfold State.lineTicket? at hnone ⊢
          show List.find? _ (s.tickets.table ++ [y]) = _
          rw [List.find?_append, hnone]
          subst hx
          simp [y, Ticket.live]
        unfold State.setVerifyDue
        rw [hline]
        subst hx
        exact State.raisedLast_updTicket (s := s.served.s) hbelow rfl _
      exact congrArg (fun u => Served.done
        ((({ s.served with s := u } : Ctx).put (.early (ticketEvent s.served.s .raised y))).settle settleFuel) _) hverify
    rw [Ctx.settle_calm_quiet (c := c) ⟨hcalm.exits, hcalm.heads⟩ rfl rfl] at hserve
    refine requestFrame_telling (rs := _) hr 0x44#8 rfl hserve rfl ?_ ?_
    · simp only [State.dueOf, show c.s.ticket? n = some x from hfound x (by subst hx; rfl)]
      subst hx
      rfl
    · show [_] = _
      have hend : (t x).ticket? n = some x := hfound x (by subst hx; rfl)
      have hnumber : y.number = n := by subst hx; rfl
      simp only [Report.atEnd, TicketEvent.atEnd, ticketEvent, reduceCtorEq, or_self, if_false, hnumber]
      rw [show c.s.ticket? n = some x from hend]
      subst hx
      rfl

/-! ## The pace timer and the cursor (R122 to R126) -/

section Pace
variable {s : State} {line : Nat}

/-- No ticket is verify-due: the first tier chooses nothing (R124). -/
theorem State.tierOne_none (h : ∀ t ∈ s.tickets.table, t.verifyDue = false) : s.tierOne = none := by
  have hnone : s.tickets.table.find? s.verifyCandidate = none :=
    List.find?_eq_none.2 fun t ht => by simp [State.verifyCandidate, h t ht]
  rw [State.tierOne, hnone]
  rfl

/-- The sweep's record after the issue of the line at the cursor (R122, R123, R126). -/
def Sweep.issued (w : Sweep) (now : Moment) (line id : Nat) : Sweep :=
  { w with timer := .running (now + w.pace * 800), cursor := line + 1, notes := w.notes ++ [⟨id, line, 0, false⟩]
           stats := { w.stats with skipped := min 65535 w.stats.skipped } }

/-- The issue of a sweep job without attempts, for a line without a ticket (R123, R124). -/
theorem Ctx.issueJob_first {c : Ctx} (free : c.s.lineTicket? line = none) (running : c.s.sweep.state = .running) (hout : c.out = []) :
    c.issueJob line 0 false = { c with
      s := (c.s.setSweep { c.s.sweep with
        timer := .running (c.s.now + c.s.sweep.pace * 800), notes := c.s.sweep.notes ++ [⟨c.s.nextId, line, 0, false⟩] }).enqueue
          (JobRequest.routine .sweep line false)
      out := [.jobState c.s.nextId .none false], walkDue := true } := by
  have hpace (t : State) (ht : t.sweep.state = .running) : t.startPace =
      t.setSweep { t.sweep with timer := .running (t.now + t.sweep.pace * Config.paceUnit) } := if_pos ht
  unfold Ctx.issueJob
  dsimp only
  rw [free, Ctx.enqueue_first hout]
  let v : State := (c.s.enqueue (JobRequest.routine .sweep line false)).setSweep
    { c.s.sweep with notes := c.s.sweep.notes ++ [⟨c.s.nextId, line, 0, false⟩] }
  exact congrArg (fun t : State => ({ c with
    s := t, out := [.jobState c.s.nextId .none false], walkDue := true } : Ctx)) (hpace v running)

/-- An attempt that issues the eligible line at the cursor (R123, R124, R126). -/
theorem Ctx.issueAttempt_cursor {c : Ctx} (may : c.s.mayIssue = true) (due : ∀ t ∈ c.s.tickets.table, t.verifyDue = false)
    (revisit : c.s.sweep.revisit = []) (cursor : c.s.sweep.cursor = line) (hline : line < 4095) (eligible : c.s.eligible line = true)
    (free : c.s.lineTicket? line = none) (running : c.s.sweep.state = .running) (hout : c.out = []) :
    c.issueAttempt = { c with
      s := (c.s.setSweep (c.s.sweep.issued c.s.now line c.s.nextId)).enqueue (JobRequest.routine .sweep line false)
      out := [.jobState c.s.nextId .none false], walkDue := true } := by
  have hwalk : c.s.cursorWalk (4096 - c.s.sweep.cursor) c.s.sweep.cursor 0 = (0, some line) := by
    rw [cursor, show 4096 - line = (4095 - line) + 1 by omega, State.cursorWalk, if_pos eligible]
  have hrevisits : c.s.sweep.revisits line = false := by simp [Sweep.revisits, revisit]
  have htwo : c.tierTwo c.s.sweep.revisit = (c, none) := by rw [revisit]; rfl
  unfold Ctx.issueAttempt
  rw [if_pos may, State.tierOne_none due]
  dsimp only
  rw [htwo]
  show c.tierThree = _
  unfold Ctx.tierThree
  simp only [hwalk, hrevisits, hline, if_true]
  let d : Ctx := c.upd fun s => s.setSweep { s.sweep with
    cursor := line + 1, stats := { s.sweep.stats with skipped := min 65535 s.sweep.stats.skipped } }
  exact Ctx.issueJob_first (c := d) free running hout

end Pace

/-- Settles O35: the pace timer expires, and in a running sweep the attempt issues the line at the cursor. -/
theorem paceTimerIssuesTheCursorLine : Obligations.PaceTimerIssuesTheCursorLine := by
  intro s m n line htimer hn
  subst hn
  let w : Sweep := { s.sweep with timer := .expired }
  let c : Ctx := (Ctx.of s).upd fun s => (s.reach m).setSweep w
  have hends : (Ctx.of s).paceEnds = if s.sweep.state = .running then c.issue else c := by
    unfold Ctx.paceEnds
    simp only [show (Ctx.of s).s.sweep.timer = .running m from htimer]
    rfl
  refine ⟨fun hstopped hcalm => ?_, fun hrun hexits hjobs hsupply hconc hlen hcursor hline hrevisit htickets hmask henabled hcls
    hservice hbuses => ?_⟩ <;> refine congrArg Host.Outcome.next ?_
  · rw [if_neg hstopped] at hends
    exact settled_tells hends (Ctx.settle_calm_quiet ⟨hcalm.exits, hcalm.heads⟩ rfl rfl) rfl rfl
  · rw [if_pos hrun] at hends
    let q : JobRequest := JobRequest.routine .sweep line false
    let v : State := c.s.setSweep (w.issued (max s.now m) line s.nextId)
    let d : Ctx := { c with s := v.enqueue q, out := [.jobState s.nextId .none false], walkDue := true }
    have hcalm : Calm c.s := ⟨hexits, fun j hj => (hjobs j hj).1⟩
    have hcount : s.countOf .sweep = 0 := by
      rw [State.countOf, List.length_eq_zero_iff, List.filter_eq_nil_iff]
      exact fun j hj => by simp [(hjobs j hj).2.2.1]
    have hmay : c.s.mayIssue = true := by
      have : c.s.countOf .sweep = 0 := hcount
      have hplace : c.s.sched.jobs.length < 16 := hlen
      have hone : 0 < c.s.sweep.concurrency := hconc
      simp [State.mayIssue, this, Config.jobPlaces, show c.s.sweep.state = .running from hrun,
        show c.s.sweep.timer = .expired from rfl, show c.s.pins.supplyGood = true from hsupply, hplace, hone]
    have heligible : c.s.eligible line = true := by
      have hbusy : c.s.lineBusy line = false := List.any_eq_false.2 fun j hj => by simpa using (hjobs j hj).2.2.2
      have hdispatched : c.s.dispatchedLine line = false := List.any_eq_false.2 fun t ht => by simp [(htickets t ht).2.2]
      simp [State.eligible, hbusy, hdispatched, groupOf, show c.s.sweep.mask = s.sweep.mask from rfl,
        show c.s.route (line / 64) = s.route (line / 64) from rfl, show c.s.dirEntry line = s.dirEntry line from rfl, hmask, henabled,
        hcls, hservice]
    have hfree : c.s.lineTicket? line = none := List.find?_eq_none.2 fun t ht => by simp [(htickets t ht).2.2]
    have hattempt : c.issueAttempt = d := Ctx.issueAttempt_cursor hmay (fun t ht => (htickets t ht).1) hrevisit hcursor hline heligible
      hfree hrun rfl
    have hstep : c.issue.settleStep = some d := by
      unfold Ctx.settleStep
      simp only [show c.issue.s.dueExit? = none from hcalm.dueExit, show c.issue.s.nextHandout? = none from hcalm.nextHandout]
      exact congrArg some hattempt
    have hpasses : ∀ j ∈ d.s.sched.jobs, j.state = .queued → d.PassesOver j := by
      intro j hj hq
      have hnew : j = q.job s.nextId s.sched.nextQueue s.link.time := by
        rcases List.mem_append.1 hj with hj | hj
        · exact absurd hq (hjobs j hj).2.1
        · exact List.mem_singleton.1 hj
      subst hnew
      exact ⟨hcls, .inr ⟨State.startBus?_none (.inr hbuses), fun h => by cases h⟩⟩
    have hcalm' : Calm d.s := Calm.enqueue (s := v) ⟨hexits, fun j hj => (hjobs j hj).1⟩ q
    have hsettle : c.issue.settle settleFuel = { d with walkDue := false, issueDue := false } := by
      show c.issue.settle (399 + 1) = _
      rw [Ctx.settle_of_some hstep]
      exact Ctx.settle_restFrom 397 hcalm'.dueExit hcalm'.nextHandout (fun _ => Ctx.walk_passes hpasses) fun h => by cases h
    have hjob := State.job?_enqueue (s := v) (Nat.le_of_lt hlen) q
    have hevent : (Ctx.of s).paceEnds.settle settleFuel = { d with walkDue := false, issueDue := false } := by rw [hends, hsettle]
    refine event_telling (f := fun c => c.paceEnds.settle settleFuel) ?_ ?_
    · rw [hevent]
      rfl
    · rw [hevent]
      exact (report_jobState hjob).trans rfl

end Sys2Proof.Machine
end

section
/-! PROOF. The end of a recipe: the line's record, the head that comes free, the job that is held or released (R103, R161, R170). -/

namespace Sys2Proof.Machine

/-! ## What a hand-over to the Ticket Unit leaves of the line records (R161, R170) -/

/-- A line's record but for the two fields of the Ticket Unit (R161). -/
def LineStatus.formed (r : LineStatus) : LineStatus := { r with ticket := none, unticketed := false }

def State.formed (s : State) (line : Nat) : LineStatus := (s.lineStatus line).formed

/-- What no operation of the Ticket Unit touches beside the state's other parts: the two marks of the event, and of each line's record
the verdict and what belongs to it. -/
def Ctx.beside (c : Ctx) : Bool × Bool × (Nat → LineStatus) := (c.walkDue, c.issueDue, c.s.formed)

section Beside
variable {c d : Ctx} {s : State}

@[simp] theorem State.setTickets_formed (ts : List Ticket) : (s.setTickets ts).formed = s.formed := rfl
@[simp] theorem State.updTicket_formed (n : Nat) (f : Ticket → Ticket) : (s.updTicket n f).formed = s.formed := rfl
@[simp] theorem State.place_formed (t : Ticket) : (s.place t).1.formed = s.formed := rfl
@[simp] theorem State.gather_formed (k n : Nat) : (s.gather k n).formed = s.formed := rfl
theorem State.setLineStatus_formed {l : Nat} {r : LineStatus} (h : r.formed = (s.lineStatus l).formed) :
    (s.setLineStatus l r).formed = s.formed := by
  funext l'
  unfold State.formed
  rw [State.setLineStatus_lineStatus]
  split
  next hl => rw [hl, h]
  · rfl
@[simp] theorem State.setOpenTicket_formed (l : Nat) (n : Option Nat) : (s.setOpenTicket l n).formed = s.formed :=
  State.setLineStatus_formed rfl
@[simp] theorem State.setUnticketed_formed (l : Nat) (u : Bool) : (s.setUnticketed l u).formed = s.formed :=
  State.setLineStatus_formed rfl
@[simp] theorem State.setVerifyDue_formed (l : Nat) (d : Bool) : (s.setVerifyDue l d).formed = s.formed := by
  unfold State.setVerifyDue; split <;> rfl

@[simp] theorem Ctx.put_beside (i : OutItem) : (c.put i).beside = c.beside := rfl
@[simp] theorem Ctx.upd_beside (f : State → State) : (c.upd f).beside = (c.walkDue, c.issueDue, (f c.s).formed) := rfl
@[simp] theorem Ctx.beside_fold : (c.walkDue, c.issueDue, c.s.formed) = c.beside := rfl
@[simp] theorem Ctx.mk_beside (s : State) (o : List OutItem) (w i : Bool) : (⟨s, o, w, i⟩ : Ctx).beside = (w, i, s.formed) := rfl
@[simp] theorem Ctx.tellTicket_beside (e : TicketEventKind) (n : Nat) : (c.tellTicket e n).beside = c.beside := by
  unfold Ctx.tellTicket; split <;> rfl
@[simp] theorem Ctx.tellAll_beside (e : TicketEventKind) (ks : List Nat) :
    (ks.foldl (fun c k => c.tellTicket e k) c).beside = c.beside := by
  induction ks generalizing c with
  | nil => rfl
  | cons k ks ih => simp [ih]
@[simp] theorem Ctx.tellFull_beside (k : TicketKind) (l : Option Nat) (b : Nat) (x : TicketClass) :
    (c.tellFull k l b x).beside = c.beside := rfl
theorem Ctx.makeRoom_beside (h : c.makeRoom = some d) : d.beside = c.beside := by
  unfold Ctx.makeRoom at h
  split at h
  · cases h; rfl
  · split at h
    · cases h
    · cases h; rfl
@[simp] theorem Ctx.gatherCable_beside (x : Ticket) : (c.gatherCable x).beside = c.beside := by
  unfold Ctx.gatherCable
  split
  · simp
  · split
    · simp
    next h => simp [← Ctx.makeRoom_beside h]
@[simp] theorem Ctx.rollCheck_beside (n : Nat) : (c.rollCheck n).beside = c.beside := by
  unfold Ctx.rollCheck; dsimp only; (repeat' split) <;> simp
@[simp] theorem Ctx.raiseLine_beside (l : Nat) (x : TicketClass) (o : TicketOrigin) (m : Ticket → Ticket) :
    (c.raiseLine l x o m).1.beside = c.beside := by
  unfold Ctx.raiseLine
  split
  · simp
  next h => simp [← Ctx.makeRoom_beside h]
@[simp] theorem Ctx.leaveParent_beside (p : Option Nat) : (c.leaveParent p).beside = c.beside := by
  unfold Ctx.leaveParent; dsimp only; (repeat' split) <;> simp
@[simp] theorem Ctx.faultOn_beside (h : HandOver) (x : TicketClass) (k : Ticket) : (c.faultOn h x k).1.beside = c.beside := by
  unfold Ctx.faultOn; dsimp only; (repeat' split) <;> simp
@[simp] theorem Ctx.okOn_beside (k : Ticket) : (c.okOn k).1.beside = c.beside := by
  unfold Ctx.okOn; dsimp only; (repeat' split) <;> simp
@[simp] theorem Ctx.belowLimitOn_beside (k : Ticket) : (c.belowLimitOn k).1.beside = c.beside := by
  unfold Ctx.belowLimitOn; dsimp only; split <;> simp
@[simp] theorem Ctx.actOnVerdict_beside (h : HandOver) (v : HandedVerdict) : (c.actOnVerdict h v).1.beside = c.beside := by
  unfold Ctx.actOnVerdict; dsimp only; (repeat' split) <;> simp
@[simp] theorem Ctx.handVerdict_beside (h : HandOver) (v : HandedVerdict) : (c.handVerdict h v).1.beside = c.beside := by
  unfold Ctx.handVerdict; dsimp only; split <;> simp

end Beside

/-! ## The verdict of a recipe (R167, R168, R170) -/

/-- What the end of a recipe hands on and writes (R170). -/
theorem Ctx.formVerdict_spec (c : Ctx) (j : Job) (p : Profile) {f : Findings}
    (hf : f = findingsOf p (c.s.standingFindings j.line) j.results) :
    ((c.formVerdict j p).1.s.lineStatus j.line).formed = { (c.s.lineStatus j.line).formed with
      verdict := some (verdictOf f), findings := f, streak := streakAfter (c.s.lineStatus j.line).streak (verdictOf f)
      testTime := c.s.link.time, pass := c.s.sweep.pass } ∧
    (c.formVerdict j p).2.verdict = verdictOf f ∧ (c.formVerdict j p).2.findings = f ∧
    (c.formVerdict j p).1.walkDue = c.walkDue ∧ (c.formVerdict j p).1.issueDue = c.issueDue ∧
    (c.formVerdict j p).1.s.offTickets = c.s.offTickets := by
  subst hf
  unfold Ctx.formVerdict
  extract_lets st f v rec0 streak evidence distance d r
  have hbeside : r.1.beside = d.beside := Ctx.handVerdict_beside _ _
  have hline : d.s.lineStatus j.line = { rec0 with
      verdict := some v, findings := f, streak := streak, testTime := c.s.link.time, pass := c.s.sweep.pass } :=
    State.setLineStatus_lineStatus_same _ _ _
  refine ⟨?_, rfl, rfl, congrArg (·.1) hbeside, congrArg (·.2.1) hbeside, Ctx.handVerdict_offTickets _ _⟩
  refine (congrFun (congrArg (·.2.2) hbeside) j.line).trans ?_
  exact congrArg LineStatus.formed hline

/-! ## The head comes free and the job goes on (R103, R110) -/

section RecipeEnd
variable {s : State} {b : Bus} {h : Head} {id : Nat} {j : Job}

/-- The state in which the job has given its head back, its bus in HOLD. -/
def State.givesHead (s : State) (id : Nat) (b : Bus) (h : Head) : State :=
  (((s.setHeadSel b none).setBusRec b { s.busRec b with head := none, func := .hold }).setHeadRec h
    { HeadRecord.initial with standing := (s.headRec h).standing }).updJob id fun j => { j with head := none }

/-- The attached head of a MEASURING job is freed (R103). -/
theorem Ctx.freeJobHead_measuring {c : Ctx} (hj : c.s.job? id = some j) (head : j.head = some ⟨h, false⟩) (bus : j.bus = some b)
    (bushead : (c.s.busRec b).head = some h) (func : (c.s.busRec b).func = .measure) (attached : (c.s.headRec h).state = .attached) :
    c.freeJobHead id = c.upd fun s => s.givesHead id b h := by
  have hdetach := State.detachHead_measuring bushead func
  have hfree : (c.s.detachHead b).freeHead h = (c.s.detachHead b).setHeadRec h
      { HeadRecord.initial with standing := (c.s.headRec h).standing } := by
    rw [hdetach]
    exact if_pos (.inl attached)
  unfold Ctx.freeJobHead
  simp only [hj, head, bus]
  refine congrArg (fun t : State => ({ c with s := t.updJob id fun j => { j with head := none } } : Ctx)) ?_
  rw [hfree, hdetach]

theorem Ctx.handOut_calm {c : Ctx} (hc : Calm c.s) (n : Nat) : c.handOut n = c := by
  cases n with
  | zero => rfl
  | succ n => simp only [Ctx.handOut, hc.nextHandout]

/-- The record of a job after the last step of its recipe. -/
def Job.afterLast (x : StepResult) (j : Job) : Job := { j with results := j.results ++ [x], step := j.step + 1 }

/-- A recipe's last step passes over none. -/
theorem Job.skip_last {x : StepResult} (last : j.recipe.length = j.step + 1) : (j.afterLast x).skip = j.afterLast x := by
  have hskipped : skippedSteps (j.afterLast x) = [] := by
    unfold skippedSteps
    rw [show (j.afterLast x).recipe.drop (j.afterLast x).step = [] from List.drop_eq_nil_of_le (Nat.le_of_eq last)]
    exact ite_self _
  unfold Job.skip
  rw [hskipped]
  show ({ j.afterLast x with results := (j.afterLast x).results ++ [], step := _ } : Job) = _
  rw [List.append_nil]
  rfl

/-- The state in which the last pair has completed the last step. -/
def State.afterLast (s : State) (id : Nat) (h : Head) (x : StepResult) : State :=
  (s.updJob id (Job.afterLast x)).setHeadRec h { s.headRec h with missing := 0, step := none, outstanding := false }

/-- The last pair of the last step ends the recipe (R103, R144). -/
theorem pairArrives_last {v i : BitVec 16} {st : StepInHand} (attached : (s.headRec h).state = .attached)
    (step : (s.headRec h).step = some st) (out : (s.headRec h).outstanding = true) (discard : st.snapshot.discard ≤ st.discards)
    (kind : st.kind = .fv ∨ st.kind = .cap) (pairs : st.snapshot.samples = st.acc.count + 1) (hj : s.job? st.job = some j)
    (hone : ∀ k ∈ s.sched.jobs, k.id = st.job → k = j) (last : j.recipe.length = j.step + 1) {x : StepResult}
    (hx : x = computeResult { st with acc := st.acc.add v i }) :
    (Ctx.of s).pairArrives h v i = ((Ctx.of s).upd fun s => s.afterLast st.job h x).recipeEnd st.job := by
  subst hx
  let x : StepResult := computeResult { st with acc := st.acc.add v i }
  let c : Ctx := (Ctx.of s).upd fun s => s.afterLast st.job h x
  have hfound : c.s.job? st.job = some (j.afterLast x) := State.job?_changed (s := s) hj fun _ => rfl
  have hleft : (((Ctx.of s).s.setHeadRec h (s.headRec h).answered).dropStep h).updJob st.job
      (fun k => (k.afterLast x).skip) = c.s := by
    have hread : ((Ctx.of s).s.setHeadRec h (s.headRec h).answered).headRec h = (s.headRec h).answered := by
      rw [State.setHeadRec_headRec, if_pos rfl]
    have hjobs : (s.updJob st.job fun k => (k.afterLast x).skip) = s.updJob st.job (Job.afterLast x) := by
      rw [State.updJob_only hone (fun k => (k.afterLast x).skip), Job.skip_last last, ← State.updJob_only hone]
    rw [State.dropStep, hread, State.setHeadRec_setHeadRec]
    exact congrArg (fun t : State => ({ t with port := [] } : State).setHeadRec h
      { s.headRec h with missing := 0, step := none, outstanding := false }) hjobs
  rw [pairArrives_answers attached step out, takePair_completes discard kind pairs]
  unfold Ctx.completeStep
  refine (congrArg (fun t : State => match t.job? st.job with
    | none => ({ Ctx.of s with s := t } : Ctx)
    | some j => if j.step < j.recipe.length then ({ Ctx.of s with s := t } : Ctx).startStep st.job h
        else ({ Ctx.of s with s := t } : Ctx).recipeEnd st.job) hleft).trans ?_
  simp only [hfound]
  exact if_neg (by
    show ¬j.step + 1 < j.recipe.length
    omega)

/-- A job without a head asks for the release of its CONNECTED bus, whatever the event has raised. -/
theorem Ctx.askRelease_path {c : Ctx} {line : Nat} {o : JobOutcome} {note : JobNote} (hj : c.s.job? id = some j)
    (state : j.state ≠ .measuring) (head : j.head = none) (bus : j.bus = some b) (owner : (c.s.busRec b).owner = some id)
    (access : (c.s.busRec b).access = .connected) (hline : (c.s.busRec b).line = some line) (speech : (c.s.busRec b).speech = none)
    (bushead : (c.s.busRec b).head = none) :
    c.askRelease id o note = (c.jobChanged id note).upd fun s =>
      (((s.updJob id (Job.released o)).setRelays line { s.relaysOf line with testPath := false }).setBusRec b
        { s.busRec b with
          access := .releasing, func := .none, interval := some (s.restoreTaken line), reserveMark := false }).setWatchRec b
        { s.watchRec b with timer := none, guard := none } := by
  have hrel := State.releaseBus_connected (s := c.s.updJob id (Job.released o)) access hline speech bushead false
  rw [Ctx.askRelease_holds hj state head bus owner ?_]
  · exact congrArg (fun s => ({ c.jobChanged id note with s := s } : Ctx)) hrel
  · rw [hrel]
    simp

end RecipeEnd

/-- Settles O59: the verdict writes the line's record; the last pair frees the head and holds or releases the job. -/
theorem recipeEndWritesTheLineRecord : Obligations.RecipeEndWritesTheLineRecord := by
  refine ⟨fun c j p f l hf hl => ?_, ?_⟩
  · obtain ⟨hline, hverdict, hfindings, -, -, -⟩ := c.formVerdict_spec j p hf
    rw [← hl] at hline
    have hstreak : l.streak = streakAfter (c.s.lineStatus j.line).streak (verdictOf f) := congrArg LineStatus.streak hline
    refine ⟨congrArg LineStatus.verdict hline, congrArg LineStatus.findings hline, congrArg LineStatus.testTime hline,
      congrArg LineStatus.pass hline, fun hm => ?_, fun hm => ?_, hverdict, hfindings⟩
    · rw [hstreak, streakAfter, if_pos hm]
    · rw [hstreak, streakAfter, if_neg hm]
  · intro s h v i r st j b line x f hcalm hr hattached hstep hout hdiscard hkind hlast hj hone hstate hhead hlen hb haccess howner
      hline hbushead hfunc hspeech hx hf
    subst hr
    let c : Ctx := (Ctx.of s).upd fun s => s.afterLast st.job h x
    let d : Ctx := c.upd fun s => s.givesHead st.job b h
    let j1 : Job := { j.afterLast x with head := none }
    have hlast := pairArrives_last hattached hstep hout hdiscard hkind hlast hj hone hlen hx
    have hc1 : c.s.job? st.job = some (j.afterLast x) := State.job?_changed (s := s) hj fun _ => rfl
    have hhead1 : c.s.headRec h = { s.headRec h with missing := 0, step := none, outstanding := false } :=
      State.setHeadRec_headRec_same (s := (Ctx.of s).s.updJob st.job (Job.afterLast x)) h _
    have hfree : c.freeJobHead st.job = d := Ctx.freeJobHead_measuring hc1 hhead hb hbushead hfunc (by rw [hhead1]; exact hattached)
    have hd1 : d.s.job? st.job = some j1 := State.job?_changed (s := c.s) hc1 fun _ => rfl
    have hcalm1 : Calm (s.updJob st.job (Job.afterLast x)) := hcalm.updJob fun k hk _ => hcalm.heads k hk
    have hcalmd : Calm d.s := by
      have hcalm2 := hcalm1.updJob (id := st.job) (f := fun j => { j with head := none }) fun k hk _ => hcalm1.heads k hk
      exact hcalm2.congr rfl rfl
    obtain ⟨hrecord, hverdict, hfindings, hwalk, hissue, hrest⟩ := d.formVerdict_spec j1 j1.limits (f := f) hf
    generalize hr : d.formVerdict j1 j1.limits = r at hrecord hverdict hfindings hwalk hissue hrest
    have hsched : r.1.s.sched = d.s.sched := (congrArg State.sched hrest : r.1.s.offTickets.sched = _)
    have haccess' : r.1.s.access = d.s.access := (congrArg State.access hrest : r.1.s.offTickets.access = _)
    have hengine : r.1.s.engine = d.s.engine := (congrArg State.engine hrest : r.1.s.offTickets.engine = _)
    have hhazards : r.1.s.hazards = d.s.hazards := (congrArg State.hazards hrest : r.1.s.offTickets.hazards = _)
    have hnow : r.1.s.now = s.now := (congrArg State.now hrest : r.1.s.offTickets.now = _)
    have hends : (Ctx.of s).pairArrives h v i =
        if j.keep then (r.1.upd fun s => s.updJob st.job fun j => { j with verdict := some r.2 }).enterHolding st.job .held .none true
        else (r.1.upd fun s => s.updJob st.job fun j => { j with due := some r.2, state := .releasing }).askRelease st.job .complete := by
      rw [hlast]
      unfold Ctx.recipeEnd
      rw [hfree, Ctx.handOut_calm hcalmd]
      simp only [hd1]
      rw [hr]
      rfl
    have hfound : r.1.s.job? st.job = some j1 := by
      unfold State.job?
      rw [hsched]
      exact hd1
    have hheadd : d.s.headRec h = { HeadRecord.initial with standing := (c.s.headRec h).standing } :=
      State.setHeadRec_headRec_same (s := (c.s.setHeadSel b none).setBusRec b _) h _
    have hbusd : r.1.s.busRec b = { s.busRec b with head := none, func := .hold } := by
      unfold State.busRec
      rw [haccess']
      exact State.setBusRec_busRec_same (s := c.s.setHeadSel b none) b _
    have hcalmr : Calm r.1.s := hcalmd.congr hhazards hsched
    have hline' : (r.1.s.lineStatus j.line).verdict = some (verdictOf f) := congrArg LineStatus.verdict hrecord
    have finish (e : Ctx) (he : (Ctx.of s).pairArrives h v i = e) (hcalme : Calm e.s) (hwalke : e.walkDue = false)
        (hissuee : e.issueDue = false) (hlines : e.s.lines = r.1.s.lines) (heng : e.s.engine = r.1.s.engine) :
        ∃ t, exec (.samplePair h v i) s = .next t ∧ (∀ id, t.job? id = e.s.job? id) ∧ (∀ b, t.busRec b = e.s.busRec b) ∧
          (t.lineStatus j.line).verdict = some (verdictOf f) ∧ (t.headRec h).state = .idle ∧ (t.headRec h).step = none := by
      let e' : Ctx := { e with walkDue := false, issueDue := false }
      have hsettled : settled (fun c => c.pairArrives h v i) s = e'.finish := by
        show (((Ctx.of s).pairArrives h v i).settle settleFuel).finish = e'.finish
        rw [he, Ctx.settle_calm_quiet hcalme hwalke hissuee]
      refine ⟨e'.finish, congrArg Host.Outcome.next hsettled, fun id => ?_, fun b => ?_, ?_, ?_, ?_⟩
      · unfold State.job?
        rw [Ctx.finish_sched]
      · unfold State.busRec
        rw [Ctx.finish_access]
      · unfold State.lineStatus
        rw [Ctx.finish_lines, hlines]
        exact hline'
      all_goals
        unfold State.headRec
        rw [Ctx.finish_engine, heng, hengine]
      · exact congrArg HeadRecord.state hheadd
      · exact congrArg HeadRecord.step hheadd
    cases hkeep : j.keep with
    | true =>
      rw [if_pos hkeep] at hends
      let u : State := r.1.s.updJob st.job fun j => { j with verdict := some r.2 }
      let hold (j : Job) : Job := { j with state := .held, holdLimit := u.holdDeadline j, hazardHold := none }
      let k : Job := hold { j1 with verdict := some r.2 }
      have hjob : (u.updJob st.job hold).job? st.job = some k :=
        State.job?_changed (s := u) (State.job?_changed (s := r.1.s) hfound fun _ => rfl) fun _ => rfl
      have hcalmu : Calm u := hcalmr.updJob fun k hk _ => hcalmr.heads k hk
      obtain ⟨t, ht, hjobt, hbust, hlinet, hheadt, hstept⟩ := finish _ hends
        (hcalmu.updJob (id := st.job) (f := hold) fun _ _ _ => by simp [hold]) hwalk hissue rfl rfl
      have hbus : t.busRec b = { s.busRec b with head := none, func := .hold } := (hbust b).trans hbusd
      refine ⟨t, k, r.2, ht, (hjobt _).trans hjob, rfl, rfl, rfl, hverdict, hfindings, hlinet, hheadt, hstept, by rw [hbus],
        fun _ => ⟨rfl, rfl, by rw [hbus]; exact haccess, by rw [hbus], fun p hp => ?_⟩, fun h => by cases h⟩
      have hlimit : r.1.s.holdLimitOf p = s.holdLimitOf p :=
        (congrArg (fun x : Sched => Table.get 10 x.holdLimits p) hsched).trans rfl
      show u.holdDeadline _ = _
      unfold State.holdDeadline
      rw [show ({ j1 with verdict := some r.2 } : Job).source = .desk p from hp]
      show some (r.1.s.now + r.1.s.holdLimitOf p * 480000) = _
      rw [hnow, hlimit]
    | false =>
      rw [if_neg (by rw [hkeep]; decide)] at hends
      let u : State := r.1.s.updJob st.job fun j => { j with due := some r.2, state := .releasing }
      let k : Job := { j1 with due := some r.2, state := .releasing }
      have hk : u.job? st.job = some k := State.job?_changed (s := r.1.s) hfound fun _ => rfl
      have hbusu : u.busRec b = { s.busRec b with head := none, func := .hold } := hbusd
      have hask := Ctx.askRelease_path (c := r.1.upd fun s => s.updJob st.job fun j => { j with due := some r.2, state := .releasing })
        (o := .complete) (note := .none) hk (fun h => by cases h) rfl hb ((congrArg BusRecord.owner hbusu).trans howner)
        ((congrArg BusRecord.access hbusu).trans haccess) ((congrArg BusRecord.line hbusu).trans hline)
        ((congrArg BusRecord.speech hbusu).trans hspeech) (congrArg BusRecord.head hbusu)
      have hcalmu : Calm u := hcalmr.updJob fun _ _ _ => by simp
      have hcalmv : Calm (u.updJob st.job (Job.released .complete)) := hcalmu.updJob fun _ _ _ => by simp [Job.released]
      obtain ⟨t, ht, hjobt, hbust, hlinet, hheadt, hstept⟩ := finish _ (hends.trans hask) (hcalmv.congr rfl rfl)
        (by rw [Ctx.upd_walkDue, Ctx.jobChanged_walkDue, Ctx.upd_walkDue, hwalk]; rfl)
        (by rw [Ctx.upd_issueDue, Ctx.jobChanged_issueDue, Ctx.upd_issueDue, hissue]; rfl)
        (by simp only [Ctx.upd_s, Ctx.jobChanged_s, State.setWatchRec_lines, State.setBusRec_lines, State.setRelays_lines]; rfl)
        (by simp only [Ctx.upd_s, Ctx.jobChanged_s, State.setWatchRec_engine, State.setBusRec_engine, State.setRelays_engine]; rfl)
      have hjobv : (u.updJob st.job (Job.released .complete)).job? st.job = some (Job.released .complete k) :=
        State.job?_changed (s := u) (f := Job.released .complete) hk fun _ => rfl
      have hjob : t.job? st.job = some (Job.released .complete k) := (hjobt _).trans hjobv
      have hbus := (hbust b).trans (State.setBusRec_busRec_same (s := (u.updJob st.job (Job.released .complete)).setRelays line _) b _)
      exact ⟨t, Job.released .complete k, r.2, ht, hjob, rfl, rfl, rfl, hverdict, hfindings, hlinet, hheadt, hstept,
        (by rw [hbus]; exact congrArg BusRecord.head hbusu), (fun h => by cases h), fun _ => ⟨rfl, rfl, rfl, by rw [hbus]⟩⟩

end Sys2Proof.Machine
end

section
/-! PROOF. ROUTE-SET (R31, R32): the queue in its order (R99), and the removal of the QUEUED jobs of a group (R94, R130). -/

namespace Sys2Proof.Machine

/-! ## The queue in its order (R99) -/

/-- `j` stands ahead of `k` in the queue (R99). -/
def Job.Ahead (j k : Job) : Prop := j.priority.rank < k.priority.rank ∨ (j.priority = k.priority ∧ j.queueOrder < k.queueOrder)

theorem aheadBy_iff {j k : Job} : aheadBy Job.queueOrder j k = true ↔ j.Ahead k := by simp [aheadBy, Job.Ahead]

theorem Job.Ahead.trans {i j k : Job} (h : i.Ahead j) (h' : j.Ahead k) : i.Ahead k := by
  rcases h with h | ⟨hp, ho⟩ <;> rcases h' with h' | ⟨hp', ho'⟩
  · exact .inl (h.trans h')
  · exact .inl (hp' ▸ h)
  · exact .inl (hp ▸ h')
  · exact .inr ⟨hp.trans hp', ho.trans ho'⟩

theorem Job.Ahead.asymm {j k : Job} (h : j.Ahead k) : ¬k.Ahead j := by
  rcases h with h | ⟨hp, ho⟩ <;> rintro (h' | ⟨hp', ho'⟩)
  · omega
  · rw [hp'] at h; omega
  · rw [hp] at h'; omega
  · omega

theorem insertJob_perm (j : Job) (l : List Job) : (insertJob j l).Perm (j :: l) := by
  induction l with
  | nil => exact .refl _
  | cons k l ih =>
    unfold insertJob
    split
    · exact .refl _
    · exact (ih.cons k).trans (.swap j k l)

/-- A job that stands before or behind each of a list in order enters it in order. -/
theorem insertJob_ordered {j : Job} {l : List Job} (h : l.Pairwise Job.Ahead) (hj : ∀ k ∈ l, j.Ahead k ∨ k.Ahead j) :
    (insertJob j l).Pairwise Job.Ahead := by
  induction l with
  | nil => exact List.pairwise_singleton _ _
  | cons k l ih =>
    obtain ⟨hk, hl⟩ := List.pairwise_cons.1 h
    unfold insertJob
    split
    next hahead =>
      have hjk : j.Ahead k := aheadBy_iff.1 hahead
      refine List.pairwise_cons.2 ⟨fun i hi => ?_, h⟩
      rcases List.mem_cons.1 hi with rfl | hi
      · exact hjk
      · exact hjk.trans (hk i hi)
    next hbehind =>
      have hkj : k.Ahead j := (hj k List.mem_cons_self).resolve_left fun h => hbehind (aheadBy_iff.2 h)
      refine List.pairwise_cons.2 ⟨fun i hi => ?_, ih hl fun i hi => hj i (List.mem_cons_of_mem _ hi)⟩
      rcases List.mem_cons.1 ((insertJob_perm j l).mem_iff.1 hi) with rfl | hi
      · exact hkj
      · exact hk i hi

theorem foldr_insertJob_perm (l : List Job) : (l.foldr insertJob []).Perm l := by
  induction l with
  | nil => exact .refl _
  | cons j l ih => exact (insertJob_perm j _).trans (ih.cons j)

theorem foldr_insertJob_ordered {l : List Job} (h : l.Pairwise fun j k => j.Ahead k ∨ k.Ahead j) :
    (l.foldr insertJob []).Pairwise Job.Ahead := by
  induction l with
  | nil => exact .nil
  | cons j l ih =>
    obtain ⟨hj, hl⟩ := List.pairwise_cons.1 h
    exact insertJob_ordered (ih hl) fun k hk => hj k ((foldr_insertJob_perm l).mem_iff.1 hk)

/-- The queue is the one list of the QUEUED jobs that stands in queue order. -/
theorem State.queue_eq {s : State} {q : List Job} (hq : q.Perm (s.sched.jobs.filter fun j => j.state == .queued))
    (order : q.Pairwise Job.Ahead) : s.queue = q := by
  have hcomparable : (s.sched.jobs.filter fun j => j.state == .queued).Pairwise fun j k => j.Ahead k ∨ k.Ahead j :=
    hq.pairwise (order.imp .inl) fun h => h.symm
  exact ((foldr_insertJob_perm _).trans hq.symm).eq_of_pairwise (fun j k _ _ h h' => absurd h' h.asymm)
    (foldr_insertJob_ordered hcomparable) order

/-! ## The removal of QUEUED jobs (R94, R130) -/

/-- The ticket of the line of a removed AUTO job becomes verify-due. -/
def Ticket.afterGone (q : List Job) (x : Ticket) : Ticket :=
  if x.kind = .line ∧ x.state ≠ .closed ∧ (∃ j ∈ q, j.source = .auto ∧ x.line = some j.line) then { x with verifyDue := true } else x

/-- The state without these jobs: their issue notes are gone, and the line tickets of the AUTO ones are verify-due. -/
def State.afterGone (s : State) (q : List Job) : State :=
  { s with
    sched := { s.sched with jobs := s.sched.jobs.filter fun k => q.all fun j => k.id != j.id }
    sweep := { s.sweep with notes := s.sweep.notes.filter fun n => q.all fun j => j.source != .sweep || n.job != j.id }
    tickets := { s.tickets with table := s.tickets.table.map (Ticket.afterGone q) } }

/-- R173 of the line tickets: a number names one ticket, and a line has one that is not CLOSED. -/
structure State.LineTicketsApart (s : State) : Prop where
  lines : ∀ x ∈ s.tickets.table, ∀ y ∈ s.tickets.table, ∀ l, x.kind = .line → y.kind = .line → x.line = some l → y.line = some l →
    x.state ≠ .closed → y.state ≠ .closed → x.number = y.number
  numbers : ∀ x ∈ s.tickets.table, ∀ y ∈ s.tickets.table, x.number = y.number → x = y

section
variable {s : State} {c : Ctx}

theorem Ticket.afterGone_self {q : List Job} {x : Ticket} (h : ¬(x.kind = .line ∧ x.state ≠ .closed ∧
    (∃ j ∈ q, j.source = .auto ∧ x.line = some j.line))) : x.afterGone q = x := if_neg h

/-- What a ticket is about is left. -/
theorem Ticket.afterGone_same (q : List Job) (x : Ticket) :
    (x.afterGone q).number = x.number ∧ (x.afterGone q).kind = x.kind ∧ (x.afterGone q).line = x.line ∧
      (x.afterGone q).state = x.state := by
  unfold Ticket.afterGone
  split <;> exact ⟨rfl, rfl, rfl, rfl⟩

theorem Ticket.afterGone_cons (j : Job) (q : List Job) (x : Ticket) : (x.afterGone [j]).afterGone q = x.afterGone (j :: q) := by
  by_cases hlive : x.kind = .line ∧ x.state ≠ .closed
  · by_cases hj : j.source = .auto ∧ x.line = some j.line
    · have h1 : x.afterGone [j] = { x with verifyDue := true } := if_pos ⟨hlive.1, hlive.2, j, List.mem_singleton_self j, hj⟩
      have h2 : x.afterGone (j :: q) = { x with verifyDue := true } := if_pos ⟨hlive.1, hlive.2, j, List.mem_cons_self, hj⟩
      rw [h1, h2]
      unfold Ticket.afterGone
      split <;> rfl
    · have h1 : x.afterGone [j] = x := Ticket.afterGone_self fun ⟨_, _, k, hk, h⟩ => hj (List.mem_singleton.1 hk ▸ h)
      rw [h1]
      unfold Ticket.afterGone
      simp [hj]
  · have h1 : x.afterGone [j] = x := Ticket.afterGone_self fun h => hlive ⟨h.1, h.2.1⟩
    rw [h1, Ticket.afterGone_self fun h => hlive ⟨h.1, h.2.1⟩, Ticket.afterGone_self fun h => hlive ⟨h.1, h.2.1⟩]

theorem State.afterGone_nil : s.afterGone [] = s := by
  have htickets : s.tickets.table.map (Ticket.afterGone []) = s.tickets.table :=
    (List.map_congr_left fun x _ => Ticket.afterGone_self (by simp)).trans (List.map_id _)
  simp [State.afterGone, htickets]

theorem State.afterGone_cons (j : Job) (q : List Job) : (s.afterGone [j]).afterGone q = s.afterGone (j :: q) := by
  have htickets : (s.tickets.table.map (Ticket.afterGone [j])).map (Ticket.afterGone q) =
      s.tickets.table.map (Ticket.afterGone (j :: q)) := by
    rw [List.map_map]
    exact List.map_congr_left fun x _ => Ticket.afterGone_cons j q x
  have hjobs : (s.sched.jobs.filter fun k => [j].all fun i => k.id != i.id).filter (fun k => q.all fun i => k.id != i.id) =
      s.sched.jobs.filter fun k => (j :: q).all fun i => k.id != i.id := by
    simp [List.filter_filter, Bool.and_comm]
  have hnotes : (s.sweep.notes.filter fun n => [j].all fun i => i.source != .sweep || n.job != i.id).filter
        (fun n => q.all fun i => i.source != .sweep || n.job != i.id) =
      s.sweep.notes.filter fun n => (j :: q).all fun i => i.source != .sweep || n.job != i.id := by
    simp [List.filter_filter, Bool.and_comm]
  simp only [State.afterGone, htickets, hjobs, hnotes]

theorem State.LineTicketsApart.afterGone (h : s.LineTicketsApart) (q : List Job) : (s.afterGone q).LineTicketsApart where
  lines := List.forall_mem_map.2 fun x hx => List.forall_mem_map.2 fun y hy l kx ky lx ly sx sy => by
    obtain ⟨nx, kx', lx', sx'⟩ := Ticket.afterGone_same q x
    obtain ⟨ny, ky', ly', sy'⟩ := Ticket.afterGone_same q y
    rw [nx, ny]
    exact h.lines x hx y hy l (kx' ▸ kx) (ky' ▸ ky) (lx' ▸ lx) (ly' ▸ ly) (sx' ▸ sx) (sy' ▸ sy)
  numbers := List.forall_mem_map.2 fun x hx => List.forall_mem_map.2 fun y hy hn => by
    rw [(Ticket.afterGone_same q x).1, (Ticket.afterGone_same q y).1] at hn
    rw [h.numbers x hx y hy hn]

/-- The law of tickets keeps the line tickets apart. -/
theorem TicketLaw.linesApart (h : TicketLaw s) : s.LineTicketsApart where
  lines := fun x hx y hy l kx ky lx ly sx sy =>
    congrArg _ ((length_filter_le_one (List.Nodup.of_map _ h.distinct)).1 (h.oneForALine l) x hx y hy
      (by simp [kx, lx, Ticket.live, sx]) (by simp [ky, ly, Ticket.live, sy]))
  numbers := fun x hx y hy hn => List.inj_on_of_nodup_map h.distinct hx hy hn

/-- The line's one ticket that is not CLOSED becomes verify-due. -/
theorem State.LineTicketsApart.setVerifyDue (h : s.LineTicketsApart) {j : Job} (hj : j.source = .auto) :
    s.setVerifyDue j.line true = s.setTickets (s.tickets.table.map (Ticket.afterGone [j])) := by
  unfold State.setVerifyDue
  split
  next x hx =>
    obtain ⟨hmem, hkind, hline, hlive⟩ := State.lineTicket?_spec hx
    have hopen : x.state ≠ .closed := by simpa [Ticket.live] using hlive
    refine congrArg s.setTickets (List.map_congr_left fun y hy => ?_)
    by_cases hn : y.number = x.number
    · obtain rfl := h.numbers y hy x hmem hn
      rw [if_pos rfl]
      exact (if_pos ⟨hkind, hopen, j, List.mem_singleton_self j, hj, hline⟩).symm
    · rw [if_neg hn]
      refine (Ticket.afterGone_self ?_).symm
      rintro ⟨ky, sy, k, hk, -, ly⟩
      rw [List.mem_singleton.1 hk] at ly
      exact hn (h.lines y hy x hmem j.line ky hkind ly hline sy hopen)
  next hnone =>
    have hno := List.find?_eq_none.1 hnone
    refine congrArg s.setTickets ((List.map_congr_left fun y hy => Ticket.afterGone_self ?_).trans (List.map_id _)).symm
    rintro ⟨ky, sy, k, hk, -, ly⟩
    rw [List.mem_singleton.1 hk] at ly
    have hline : y.kind = .line ∧ y.line = some j.line ∧ y.state ≠ .closed := ⟨ky, ly, sy⟩
    exact hno y hy (by simp [hline, Ticket.live])

/-- A job without a head, which no mark or claim names, leaves the table of a disabled group. -/
theorem Ctx.removeJob_disabled {j : Job} (hj : c.s.job? j.id = some j) (hhead : j.head = none)
    (hmarks : ∀ k ∈ c.s.sched.jobs, k.takeover ≠ some j.id ∧ k.claim ≠ some j.id) (apart : c.s.LineTicketsApart) :
    c.removeJob j.id .groupDisabled = { c with
      s := c.s.afterGone [j]
      out := c.out.filter (fun i => !i.isStateOf j.id) ++ [.late (jobResultReport c.s j .groupDisabled)]
      issueDue := true } := by
  have hfree : c.freeJobHead j.id = c := by
    unfold Ctx.freeJobHead
    simp only [hj, hhead]
  have hjobs : (c.s.sched.jobs.filter fun k => k.id != j.id) = c.s.sched.jobs.filter fun k => [j].all fun j => k.id != j.id := by simp
  have hsweep : c.s.sweep.jobRemoved j .groupDisabled = { c.s.sweep with
      notes := c.s.sweep.notes.filter fun n => [j].all fun j => j.source != .sweep || n.job != j.id } := by
    by_cases h : j.source = .sweep
    · simp [Sweep.jobRemoved, h]
    · have hother : (j.source != .sweep) = true := by simpa using h
      simp [Sweep.jobRemoved, h, hother]
  have hstate : (if j.source = .auto ∧ asksVerify .groupDisabled
        then ((c.s.setJobs (c.s.sched.jobs.filter fun k => k.id != j.id)).setSweep (c.s.sweep.jobRemoved j .groupDisabled)).setVerifyDue
          j.line true
        else (c.s.setJobs (c.s.sched.jobs.filter fun k => k.id != j.id)).setSweep (c.s.sweep.jobRemoved j .groupDisabled)) =
      c.s.afterGone [j] := by
    rw [hjobs, hsweep]
    split
    next h =>
      refine (State.LineTicketsApart.setVerifyDue (j := j) ?_ h.1).trans rfl
      exact ⟨apart.lines, apart.numbers⟩
    next h =>
      have hauto : j.source ≠ .auto := fun hs => h ⟨hs, rfl⟩
      have htickets : c.s.tickets.table.map (Ticket.afterGone [j]) = c.s.tickets.table :=
        (List.map_congr_left fun x _ => Ticket.afterGone_self (by simp [hauto])).trans (List.map_id _)
      simp only [State.afterGone, htickets]
      rfl
  unfold Ctx.removeJob
  simp only [hj, hfree, Option.getD_some, dropMarks_unnamed hmarks, Ctx.issue, Ctx.upd, Ctx.put, Ctx.jobGone]
  rw [← hstate]
  rfl

/-- These jobs leave the table one after the other. -/
theorem Ctx.removeJobs_disabled {q : List Job} (hq : ∀ j ∈ q, j ∈ c.s.sched.jobs ∧ j.head = none) (one : (q.map (·.id)).Nodup)
    (distinct : (c.s.sched.jobs.map (·.id)).Nodup)
    (hmarks : ∀ k ∈ c.s.sched.jobs, ∀ j ∈ q, k.takeover ≠ some j.id ∧ k.claim ≠ some j.id) (apart : c.s.LineTicketsApart)
    (hout : ∀ i ∈ c.out, ∀ id, i.isStateOf id = false) :
    q.foldl (fun c j => c.removeJob j.id .groupDisabled) c = { c with
      s := c.s.afterGone q
      out := c.out ++ q.map fun j => .late (jobResultReport c.s j .groupDisabled)
      issueDue := c.issueDue || !q.isEmpty } := by
  induction q generalizing c with
  | nil => simp [State.afterGone_nil]
  | cons j q ih =>
    obtain ⟨hj, hhead⟩ := hq j List.mem_cons_self
    obtain ⟨hnew, hone⟩ := List.nodup_cons.1 one
    rw [List.foldl_cons, Ctx.removeJob_disabled (State.job?_of_mem distinct hj) hhead (fun k hk => hmarks k hk j List.mem_cons_self) apart]
    have hkeep : (c.out.filter fun i => !i.isStateOf j.id) = c.out := List.filter_eq_self.2 fun i hi => by simp [hout i hi]
    rw [hkeep, ih]
    · have htime : (c.s.afterGone [j]).link.time = c.s.link.time := rfl
      simp [State.afterGone_cons, jobResultReport, htime]
    · intro k hk
      obtain ⟨hmem, hnone⟩ := hq k (List.mem_cons_of_mem _ hk)
      have hne : k.id ≠ j.id := fun h => hnew (List.mem_map.2 ⟨k, hk, h⟩)
      exact ⟨List.mem_filter.2 ⟨hmem, by simpa using hne⟩, hnone⟩
    · exact hone
    · exact (List.filter_sublist.map _).nodup distinct
    · exact fun k hk i hi => hmarks k (List.mem_of_mem_filter hk) i (List.mem_cons_of_mem _ hi)
    · exact apart.afterGone [j]
    · intro i hi id
      rcases List.mem_append.1 hi with hi | hi
      · exact hout i hi id
      · rw [List.mem_singleton.1 hi]; rfl

end

/-! ## ROUTE-SET (R31, R32) -/

/-- An empty queue holds no job of the group. -/
theorem Ctx.disableGroup_empty {c : Ctx} (h : c.s.queue = []) (g : Nat) : c.disableGroup g = c := by
  unfold Ctx.disableGroup
  rw [h]
  rfl

/-- Every QUEUED job is of the group, and each leaves the table. -/
theorem Ctx.disableGroup_all {c : Ctx} {g : Nat} {q : List Job} (hqueue : c.s.queue = q) (hgroup : ∀ j ∈ q, j.line / 64 = g) :
    c.disableGroup g = q.foldl (fun c j => c.removeJob j.id .groupDisabled) c := by
  unfold Ctx.disableGroup
  rw [hqueue, List.filter_eq_self.2 fun j hj => ?_]
  simpa [groupOf] using hgroup j hj

/-- Without its QUEUED jobs: the table of those that are not QUEUED. -/
theorem filter_notQueued {js q : List Job} (distinct : (js.map (·.id)).Nodup) (hq : ∀ j, j ∈ q ↔ j ∈ js ∧ j.state = .queued) :
    (js.filter fun k => q.all fun j => k.id != j.id) = js.filter fun k => k.state != .queued := by
  refine List.filter_congr fun k hk => Bool.eq_iff_iff.2 ?_
  simp only [List.all_eq_true, bne_iff_ne]
  constructor
  · exact fun h hqueued => h k ((hq k).2 ⟨hk, hqueued⟩) rfl
  · intro hstate j hj hid
    obtain ⟨hmem, hqueued⟩ := (hq j).1 hj
    rw [List.inj_on_of_nodup_map distinct hk hmem hid] at hstate
    exact hstate hqueued

/-- The route a laid-out ROUTE-SET leaves. -/
theorem routeTaken_laidOut (g : Byte) (old : Route) (en : Option Bool) (f : SetForm) (m : BusSet) (k r : Option IntervalName) :
    routeTaken [g, codeOr 2#8 flag en, f.code, maskByte m, codeOr 2#8 IntervalName.code k, codeOr 2#8 IntervalName.code r] old =
      some ⟨en.getD old.enabled, f.apply old.allowed m, k.getD old.connect, r.getD old.restore⟩ := by
  unfold routeTaken
  simp only [byteAt_cons_succ, byteAt_cons_zero, orSame_flag, orSame_intervalName, formOf_code, busSetOf_mask]

/-- Settles O22: the fields of the body are the route's; a change of a settled state ends with it; a disabling removes the queue in its
order, and nothing is left to start or issue. -/
theorem routeSetChangesTheRoute : Obligations.RouteSetChangesTheRoute := by
  intro s tag g en f m k r new hr hg hnew
  have hbyte : ∀ l, byteAt (byteOf g :: l) 0 = g := byteAt_byteOf (by omega)
  have hroute : routeTaken [byteOf g, codeOr 2#8 flag en, f.code, maskByte m, codeOr 2#8 IntervalName.code k,
      codeOr 2#8 IntervalName.code r] (s.route g) = some new := by
    rw [routeTaken_laidOut, hnew]
    cases f <;> rfl
  have howner : ownerRouteSet [byteOf g, codeOr 2#8 flag en, f.code, maskByte m, codeOr 2#8 IntervalName.code k,
        codeOr 2#8 IntervalName.code r] s.served =
      if new = s.route g then .done s.served fun _ => .routeTaken g new
      else .done (((if (s.route g).enabled ∧ new.enabled = false then (s.served.upd fun s => s.setRoute g new).disableGroup g
        else s.served.upd fun s => s.setRoute g new).walk).settle settleFuel) fun _ => .routeTaken g new := by
    unfold ownerRouteSet
    simp only [hbyte]
    refine (if_neg (by omega)).trans ?_
    have hserved : s.served.s.route g = s.route g := rfl
    simp only [hserved, hroute]
  refine ⟨fun hdiffer hset => congrArg Host.Outcome.next ?changed, fun hsame => congrArg Host.Outcome.next ?same,
    fun q henabled hdisabled hcalm hlaw hstopped hdistinct hperm horder hjobs hmarks => congrArg Host.Outcome.next ?disabled⟩
  case same =>
    exact requestFrame_acks hr 0x1C#8 rfl (howner.trans (if_pos hsame)) rfl rfl rfl hr.running
  case changed =>
    have hroutes : (if (s.route g).enabled ∧ new.enabled = false then (s.served.upd fun s => s.setRoute g new).disableGroup g
        else s.served.upd fun s => s.setRoute g new) = s.served.upd fun s => s.setRoute g new := by
      split
      · exact Ctx.disableGroup_empty (c := s.served.upd fun s => s.setRoute g new) hset.noQueue g
      · rfl
    have hdone := Ctx.settle_done (c := (s.served.upd fun s => s.setRoute g new).walk) (hset.congr rfl rfl rfl)
    rw [if_neg hdiffer, hroutes, hdone] at howner
    exact requestFrame_acks hr 0x1C#8 rfl howner rfl rfl rfl hr.running
  case disabled =>
    let c := s.served.upd fun s => s.setRoute g new
    let d : Ctx := { c with
      s := c.s.afterGone q
      out := q.map fun j => .late (jobResultReport c.s j .groupDisabled)
      issueDue := !q.isEmpty }
    have hmem : ∀ j, j ∈ q ↔ j ∈ s.sched.jobs ∧ j.state = .queued := fun j => by rw [hperm.mem_iff]; simp
    have hqueue : c.s.queue = q := State.queue_eq hperm horder
    have hone : (q.map (·.id)).Nodup := (hperm.map _).nodup_iff.2 ((List.filter_sublist.map _).nodup hdistinct)
    have hfold : c.disableGroup g = d := by
      rw [Ctx.disableGroup_all hqueue fun j hj => (hjobs j hj).1]
      exact Ctx.removeJobs_disabled (fun j hj => ⟨((hmem j).1 hj).1, (hjobs j hj).2⟩) hone hdistinct hmarks
        ⟨hlaw.linesApart.lines, hlaw.linesApart.numbers⟩ fun i hi => by cases hi
    have hleft : d.s.sched.jobs = s.sched.jobs.filter fun k => k.state != .queued := filter_notQueued hdistinct hmem
    have hrest : d.walk.settle settleFuel = { d.walk with walkDue := false, issueDue := false } := by
      refine Ctx.settle_calm_rest ⟨hcalm.exits, fun j hj => hcalm.heads j (List.mem_of_mem_filter hj)⟩
        (fun _ => Ctx.walk_passes fun j hj hqueued => ?_) fun _ => State.mayIssue_stopped hstopped
      have hj' : j ∈ s.sched.jobs.filter fun k => k.state != .queued := hleft ▸ hj
      simp [hqueued] at hj'
    have hdiffer : new ≠ s.route g := fun h => by rw [h, henabled] at hdisabled; cases hdisabled
    rw [if_neg hdiffer, if_pos ⟨henabled, hdisabled⟩, hfold] at howner
    refine requestFrame_tells hr 0x1C#8 rfl howner hrest ?_ rfl ?_
    · show c.s.afterGone q = _
      unfold State.afterGone
      rw [filter_notQueued (js := c.s.sched.jobs) hdistinct hmem]
      rfl
    · have htime : c.s.link.time = s.link.time := rfl
      simp [d, Ctx.walk, ordered, List.filter_map, Function.comp_def, OutItem.report, Report.atEnd, jobResultReport, htime]

end Sys2Proof.Machine
end

section
/-! PROOF. TEST (R96, R97, R100, R112, R114). -/

namespace Sys2Proof.Machine

/-! ## A laid-out TEST -/

/-- The body of a GUARDED TEST with no watch settings of its own. -/
def testBody (p line : Nat) (prio : Byte) (keep : Bool) (x y z : Byte) (r : List RecipeStep) : List Byte :=
  byteOf p :: (word line ++ [1#8, prio, flag keep, 0xFF#8, x, y, z] ++ recipeBytes r)

/-- What such a TEST asks for. -/
def deskRequest (p line : Nat) (priority : Priority) (keep : Bool) (r : List RecipeStep) : TestRequest :=
  ⟨p, line, .guarded, priority, keep, WatchSettings.ofDesk, r⟩

/-- The priority a TEST's byte names. -/
def testPriority (prio : Byte) : Priority := if prio = 1#8 then .urgent else .normal

section
variable {p line : Nat} {prio x y z : Byte} {keep : Bool} {r : List RecipeStep}

theorem testBody_prefix : testBody p line prio keep x y z r =
    (byteOf p :: (word line ++ [1#8, prio, flag keep, 0xFF#8, x, y, z])) ++ recipeBytes r := rfl

theorem testBody_length (hhigh : r.length ≤ 8) : lengthRecipe 10 (testBody p line prio keep x y z r) = true :=
  lengthRecipe_bytes (pre := byteOf p :: (word line ++ [1#8, prio, flag keep, 0xFF#8, x, y, z])) (by omega) rfl

/-- The body reads back (R9, R20). -/
theorem readTest_body (hp : 1 ≤ p ∧ p ≤ 4) (hline : line ≤ 4095) (hprio : prio = 0#8 ∨ prio = 1#8) (hhigh : r.length ≤ 8) :
    readTest (testBody p line prio keep x y z r) = .ok (deskRequest p line (testPriority prio) keep r) := by
  have hposition : byteAt (testBody p line prio keep x y z r) 0 = p := byteOf_toNat (by omega)
  have hnumber : wordAt (testBody p line prio keep x y z r) 1 = line :=
    wordAt_word (by omega) ([1#8, prio, flag keep, 0xFF#8, x, y, z] ++ recipeBytes r)
  have haccess : accessModeOf (byteAt (testBody p line prio keep x y z r) 3) = some .guarded := rfl
  have hpriority : priorityOf (byteAt (testBody p line prio keep x y z r) 4) = some (testPriority prio) := by
    rcases hprio with rfl | rfl <;> rfl
  have hkeep : yesNo (byteAt (testBody p line prio keep x y z r) 5) = some keep := flag_yesNo keep
  have hwatch : readTestWatch (testBody p line prio keep x y z r) = some WatchSettings.ofDesk := rfl
  have hrecipe : readRecipe 10 (testBody p line prio keep x y z r) = some r :=
    readRecipe_bytes (pre := byteOf p :: (word line ++ [1#8, prio, flag keep, 0xFF#8, x, y, z])) (by omega) rfl
  unfold readTest
  simp only [hposition, hnumber, haccess, hpriority, hkeep, hwatch, hrecipe]
  rw [if_neg (by omega), if_neg (by omega)]
  rfl

variable {s : State} {c : Ctx}

/-- None of the refusals of R96 items 1 to 5. -/
theorem State.testRefusal_none (equipped : (s.dirEntry line).cls ≠ 0) (enabled : (s.route (line / 64)).enabled = true)
    (hlow : 1 ≤ r.length) (hhigh : r.length ≤ 8) (hlegs : ∀ st ∈ r, st.kind = .lr ∨ st.kind = .cap → st.leg = .ab)
    (free : ∀ k ∈ s.sched.jobs, k.line = line → k.source.isDesk = false)
    (few : (s.sched.jobs.filter fun k => k.source == .desk p).length < 4) {priority : Priority} :
    s.testRefusal (deskRequest p line priority keep r) = none := by
  have hgroup : (s.route (groupOf line)).enabled ≠ false := by rw [show groupOf line = line / 64 from rfl, enabled]; simp
  have hline : s.sched.jobs.any (fun j => j.line == line && j.source.isDesk && j.state != .releasing) = false := by
    refine List.any_eq_false.2 fun k hk => ?_
    have := free k hk
    grind
  unfold State.testRefusal
  refine (if_neg equipped).trans ((if_neg hgroup).trans ?_)
  refine (if_neg (by simp [deskRequest, goodRecipe hlow hhigh hlegs])).trans ((if_neg (by simp [deskRequest, hline])).trans ?_)
  exact if_neg (Nat.not_le.2 few)

/-- A TEST that meets none of the refusals of R96 items 1 to 5, in a part that serves requests. -/
structure TestPasses (s : State) (tag : Byte) (p line : Nat) (prio : Byte) (r : List RecipeStep) : Prop where
  ready : Ready s tag
  position : 1 ≤ p ∧ p ≤ 4
  number : line ≤ 4095
  priority : prio = 0#8 ∨ prio = 1#8
  equipped : (s.dirEntry line).cls ≠ 0
  enabled : (s.route (line / 64)).enabled = true
  recipe : 1 ≤ r.length ∧ r.length ≤ 8
  legs : ∀ st ∈ r, st.kind = .lr ∨ st.kind = .cap → st.leg = .ab
  free : ∀ k ∈ s.sched.jobs, k.line = line → k.source.isDesk = false
  few : (s.sched.jobs.filter fun k => k.source == .desk p).length < 4

/-- A TEST that meets no refusal and finds a place is taken. -/
theorem TestPasses.takes {tag : Byte} (h : TestPasses s tag p line prio r) {other evict : Option Job}
    (hother : s.routineJob? line = other) (place : s.placeFor (testPriority prio) other = some evict) :
    ownerTest (testBody p line prio keep x y z r) s.served =
      s.served.takeTest (deskRequest p line (testPriority prio) keep r) other evict := by
  have hrefusal : s.served.s.testRefusal (deskRequest p line (testPriority prio) keep r) = none :=
    State.testRefusal_none h.equipped h.enabled h.recipe.1 h.recipe.2 h.legs h.free h.few
  have hplace : s.served.s.placeFor (deskRequest p line (testPriority prio) keep r).priority other = some evict := place
  have hother' : s.served.s.routineJob? (deskRequest p line (testPriority prio) keep r).line = other := hother
  unfold ownerTest
  rw [readTest_body h.position h.number h.priority h.recipe.2]
  simp only [hrefusal, hother', hplace]

/-- A TEST for a line with no job, in a table with a place. -/
theorem Ctx.takeTest_free (q : TestRequest) : c.takeTest q none none =
    .done ((c.enqueue (q.job none)).settle settleFuel) (testAck c.s.nextId 0 0 q.watch) := rfl

/-- The record of the job that such a TEST enters (R92). -/
theorem deskRequest_job (priority : Priority) (id order : Nat) (time : BitVec 32) :
    ((deskRequest p line priority keep r).job none).job id order time =
      { id := id, source := .desk p, line := line, recipe := r, access := .guarded, kept := .guarded, priority := priority
        keep := keep, watch := WatchSettings.ofDesk, snapshot := none, state := .queued, queueOrder := order, startMark := none
        bus := none, head := none, step := 0, results := [], losses := 0, queuedTime := time, waitOrder := 0, waitTime := 0#32
        holdLimit := none, hazardHold := none, suspendedFrom := none, outcome := none, takeover := none, claim := none
        verdict := none, due := none, verification := false } := by
  simp [JobRequest.job, TestRequest.job, deskRequest]

/-- A line with no job has no sweep or AUTO job. -/
theorem State.routineJob?_none (h : ∀ k ∈ s.sched.jobs, k.line ≠ line) : s.routineJob? line = none :=
  List.find?_eq_none.2 fun k hk => by simp [h k hk]

end

/-! ## The start on a bus (R42, R62, R64, R100) -/

section Starts
variable {s : State} {c : Ctx} {b : Bus} {line id : Nat} {w : WatchSettings}

/-- The first bus that passes a test is the lowest one. -/
theorem find?_allBuses {f : Bus → Bool} (hb : f b = true) (lower : ∀ b', b' < b → f b' = false) : allBuses.find? f = some b := by
  have hnumber : ∀ (n : Nat) (h : n < allBuses.length), allBuses[n].val = n := by decide
  have hlength : b.val < allBuses.length := b.isLt
  refine List.find?_eq_some_iff_getElem.2 ⟨hb, b.val, hlength, Fin.ext (hnumber b.val hlength), fun n hn => ?_⟩
  have hlow : f allBuses[n] = false := lower _ (by rw [Fin.lt_def, hnumber]; exact hn)
  simp [hlow]

/-- A bus that comes from IDLE into its guard window. -/
theorem WatchRecord.across_entersGuard {raw : Bool} {now : Moment} {r : WatchRecord} :
    r.across raw now .idle .guard = { r with timer := r.enteredTimer raw now } := by
  have hdiffer : sensePath .idle ≠ sensePath .guard := by decide
  unfold WatchRecord.across
  rw [if_neg (by decide), if_pos rfl, if_neg hdiffer, if_pos (by decide)]
  unfold WatchRecord.compare WatchRecord.enteredTimer
  dsimp only
  split <;> rfl

/-- A guarded take of an IDLE bus (R42, R64, R74). -/
theorem State.take_guarded (idle : (s.busRec b).access = .idle) : s.take .guarded b id line w =
    (((s.setGroupSel (groupOf line) (some b)).setRelays line { s.relaysOf line with bridge := true }).setBusRec b
      { BusRecord.initial with access := .guard, line := some line, owner := some id }).setWatchRec b
      { s.watchRec b with
        settings := w
        timer := ({ s.watchRec b with settings := w } : WatchRecord).enteredTimer (s.rawLoop b) s.now
        guard := some (s.now + s.watches.guardLength * 80) } := by
  let r : WatchRecord := { s.watchRec b with settings := w }
  let u : State := (((s.setGroupSel (groupOf line) (some b)).setRelays line { s.relaysOf line with bridge := true }).setBusRec b
    { BusRecord.initial with access := .guard, line := some line, owner := some id }).setWatchRec b r
  have hwatch : u.watchRec b = r := State.setWatchRec_watchRec_same ..
  have hput : s.take .guarded b id line w =
      (u.setWatchRec b ((u.watchRec b).across (s.rawLoop b) s.now (s.busRec b).access .guard)).startGuard b := rfl
  rw [hput, hwatch, idle, WatchRecord.across_entersGuard]
  unfold State.startGuard
  rw [State.setWatchRec_setWatchRec, State.setWatchRec_setWatchRec, State.setWatchRec_watchRec_same]
  rfl

/-- The record of a job that has started (R100). -/
def Job.started (mark : Nat) (b : Bus) (x : Snapshot) (j : Job) : Job :=
  { j with state := .accessing, startMark := some mark, bus := some b, snapshot := some x }

/-- The state in which a job has started, before it takes its line. -/
def State.starts (s : State) (id : Nat) (b : Bus) : State :=
  { s.updJob id fun k => k.started s.sched.nextStart b (s.snapshot k.line) with
    sched := { (s.updJob id fun k => k.started s.sched.nextStart b (s.snapshot k.line)).sched with nextStart := s.sched.nextStart + 1 } }

theorem State.job?_starts {j : Job} (hj : s.job? j.id = some j) :
    (s.starts j.id b).job? j.id = some (j.started s.sched.nextStart b (s.snapshot j.line)) :=
  State.job?_changed (s := s) hj fun _ => rfl

/-- A GUARDED job starts on an IDLE bus whose loop is absent: it stands in ACCESSING, its line in the guard window (R43, R65). -/
theorem Ctx.startJob_guarded {j : Job} (hj : c.s.job? j.id = some j) (form : j.access = .guarded)
    (idle : (c.s.busRec b).access = .idle) (absent : (c.s.watchRec b).loop = .absent) :
    c.startJob j b = { c with s := (c.s.starts j.id b).take .guarded b j.id j.line j.watch }.jobChanged j.id .none := by
  have hfound : ({ c with s := c.s.starts j.id b } : Ctx).s.job? j.id = _ := State.job?_starts hj
  have htake := State.take_guarded (s := c.s.starts j.id b) (id := j.id) (line := j.line) (w := j.watch) idle
  have hloop : (((c.s.starts j.id b).take .guarded b j.id j.line j.watch).watchRec b).loop = .absent := by
    rw [htake, State.setWatchRec_watchRec_same]
    exact absent
  have hstart : c.startJob j b = ({ c with s := c.s.starts j.id b } : Ctx).takeLine j.id j.access b .none := rfl
  rw [hstart, form]
  unfold Ctx.takeLine
  simp only [hfound]
  exact if_neg fun h => LoopState.noConfusion (hloop.symm.trans h.2)

/-- No bus stands in the line's group. -/
theorem State.groupHeld_free (free : ∀ b' l, (s.busRec b').line = some l → l / 64 ≠ line / 64) : s.groupHeld (groupOf line) = false := by
  refine List.any_eq_false.2 fun b' _ => ?_
  cases hl : (s.busRec b').line with
  | none => simp
  | some l => simpa [groupOf] using free b' l hl

/-- The lowest allocatable bus of the route, where no bus stands in the group (R99). -/
theorem State.startBus?_lowest (supply : s.pins.supplyGood = true) (free : ∀ b' l, (s.busRec b').line = some l → l / 64 ≠ line / 64)
    (allowed : inSet (s.route (line / 64)).allowed b = true) (allocatable : s.allocatable b = true)
    (lower : ∀ b' : Bus, b' < b → inSet (s.route (line / 64)).allowed b' = true → s.allocatable b' = false) :
    s.startBus? line = some b := by
  have hfree := State.groupHeld_free free
  unfold State.startBus?
  rw [hfree]
  refine find?_allBuses (by simp [State.startable, supply, allocatable, groupOf, allowed]) fun b' hlow => ?_
  have := lower b' hlow
  unfold State.startable
  grind [groupOf]

end Starts

/-- Where no other job is QUEUED the queue is the job that has entered. -/
theorem State.queue_enqueue {s : State} (h : ∀ j ∈ s.sched.jobs, j.state ≠ .queued) (q : JobRequest) :
    (s.enqueue q).queue = [q.job s.nextId s.sched.nextQueue s.link.time] := by
  have hnone : s.sched.jobs.filter (fun j => j.state == .queued) = [] := List.filter_eq_nil_iff.2 (by simpa using h)
  show List.foldr insertJob [] (List.filter _ (s.sched.jobs ++ [_])) = _
  rw [List.filter_append, hnone]
  rfl

/-- The change of a job that has just entered leaves the others. -/
theorem State.updJob_enqueue {s : State} (hlen : s.sched.jobs.length ≤ 16) (q : JobRequest) (f : Job → Job) :
    ((s.enqueue q).updJob s.nextId f).sched.jobs = s.sched.jobs ++ [f (q.job s.nextId s.sched.nextQueue s.link.time)] := by
  obtain ⟨-, -, hfree, -⟩ := State.nextId_spec hlen
  have hothers : s.sched.jobs.map (fun j => if j.id = s.nextId then f j else j) = s.sched.jobs :=
    (List.map_congr_left fun j hj => if_neg fun h => hfree (List.mem_map.2 ⟨j, hj, h⟩)).trans (List.map_id _)
  show List.map _ (s.sched.jobs ++ [_]) = _
  rw [List.map_append, hothers]
  exact congrArg (s.sched.jobs ++ [·]) (if_pos rfl)

/-- A job that has just entered starts. -/
theorem State.starts_enqueue {s : State} (hlen : s.sched.jobs.length ≤ 16) (q : JobRequest) (b : Bus) :
    (s.enqueue q).starts s.nextId b = { s with sched := { s.sched with
      jobs := s.sched.jobs ++ [(q.job s.nextId s.sched.nextQueue s.link.time).started s.sched.nextStart b (s.snapshot q.line)]
      lastId := s.nextId, nextQueue := s.sched.nextQueue + 1, nextStart := s.sched.nextStart + 1 } } := by
  have hjobs := State.updJob_enqueue hlen q fun k => k.started s.sched.nextStart b (s.snapshot k.line)
  have hstarts : (s.enqueue q).starts s.nextId b = { s with sched := { s.sched with
      jobs := ((s.enqueue q).updJob s.nextId fun k => k.started s.sched.nextStart b (s.snapshot k.line)).sched.jobs
      lastId := s.nextId, nextQueue := s.sched.nextQueue + 1, nextStart := s.sched.nextStart + 1 } } := rfl
  rw [hstarts, hjobs]
  rfl

theorem State.snapshot_equipped {s : State} {line : Nat} (h : (s.dirEntry line).cls ≠ 0) :
    s.snapshot line = ⟨(s.dirEntry line).cls, s.profile (s.dirEntry line).cls⟩ :=
  congrArg (Snapshot.mk _) (if_neg h)

/-- The debounce timer of the default watch settings, from an absent loop (R63). -/
theorem WatchRecord.enteredTimer_ofDesk {raw : Bool} {now : Moment} {w : WatchRecord} (settings : w.settings = WatchSettings.ofDesk)
    (absent : w.loop = .absent) : w.enteredTimer raw now = if raw then some ⟨16, .present, now + 16⟩ else none := by
  unfold WatchRecord.enteredTimer
  rw [settings, absent]
  cases raw <;> rfl

/-- A guarded take by a job with the default watch settings, of an IDLE bus whose loop is absent. -/
theorem State.take_ofDesk {s : State} {b : Bus} {id line : Nat} (idle : (s.busRec b).access = .idle)
    (absent : (s.watchRec b).loop = .absent) (x : Sched) : ({ s with sched := x } : State).take .guarded b id line WatchSettings.ofDesk =
      (((({ s with sched := x } : State).setGroupSel (line / 64) (some b)).setRelays line
        { s.relaysOf line with bridge := true }).setBusRec b
        { BusRecord.initial with access := .guard, line := some line, owner := some id }).setWatchRec b
        { settings := WatchSettings.ofDesk, pending := (s.watchRec b).pending, loop := .absent
          timer := if s.rawLoop b then some ⟨16, .present, s.now + 16⟩ else none
          guard := some (s.now + s.watches.guardLength * 80) } := by
  rw [State.take_guarded (s := { s with sched := x }) idle]
  refine congrArg (State.setWatchRec _ b) ?_
  rw [← WatchRecord.enteredTimer_ofDesk (raw := s.rawLoop b) (now := s.now)
    (w := { s.watchRec b with settings := WatchSettings.ofDesk }) rfl absent, ← absent]
  rfl

theorem testAck_found {t : State} {id takenOver evicted : Nat} {w : WatchSettings} {j : Job} (hj : t.job? id = some j) :
    testAck id takenOver evicted w t = .test id (some j.state) (j.takeover.getD 0) takenOver evicted w := by
  simp [testAck, hj]

theorem State.groupHeld_of {s : State} {b : Bus} {l g : Nat} (hb : (s.busRec b).line = some l) (hl : l / 64 = g) :
    s.groupHeld g = true :=
  List.any_eq_true.2 ⟨b, mem_allBuses b, by simp [hb, groupOf, hl]⟩

/-! ## A walk with one job to act on (R99) -/

theorem Ctx.settleStep_walks {c d : Ctx} (exit : c.s.dueExit? = none) (head : c.s.nextHandout? = none) (due : c.walkDue = true)
    (walk : c.walkList c.s.queue = some d) : c.settleStep = some d := by
  unfold Ctx.settleStep
  simp only [exit, head, due, walk]
  rfl

theorem Ctx.walkList_starts {c : Ctx} {j : Job} {b : Bus} {l : List Job} (equipped : (c.s.dirEntry j.line).cls ≠ 0)
    (unmarked : j.takeover = none) (bus : c.s.startBus? j.line = some b) : c.walkList (j :: l) = some (c.startJob j b) := by
  unfold Ctx.walkList
  rw [if_neg equipped, if_neg (by simp [unmarked])]
  simp only [bus]

/-! ## TEST on a line with no job (R97, R99, R100) -/

section
variable {s : State} {tag x y z : Byte} {p line : Nat} {keep : Bool} {r : List RecipeStep}

/-- No job names the line and the table has a place: the job enters. -/
theorem TestPasses.enters (h : TestPasses s tag p line 0#8 r) (free : ∀ k ∈ s.sched.jobs, k.line ≠ line)
    (place : s.sched.jobs.length < 16) : ownerTest (testBody p line 0#8 keep x y z r) s.served =
      .done ((s.served.enqueue ((deskRequest p line .normal keep r).job none)).settle settleFuel)
        (testAck s.nextId 0 0 WatchSettings.ofDesk) := by
  have hplace : s.placeFor (testPriority 0#8) none = some none := if_pos place
  rw [h.takes (State.routineJob?_none free) hplace, Ctx.takeTest_free]
  rfl

/-- No bus can start the job: it stays QUEUED. -/
theorem TestPasses.queues (h : TestPasses s tag p line 0#8 r) (hset : Settled s) (free : ∀ k ∈ s.sched.jobs, k.line ≠ line)
    (place : s.sched.jobs.length < 16) (waits : s.startBus? line = none) :
    exec (.test tag (testBody p line 0#8 keep x y z r)) s =
      .next ((s.enqueue ((deskRequest p line .normal keep r).job none)).acksTelling 0x28#8 tag
        (.test s.nextId (some .queued) 0 0 0 WatchSettings.ofDesk)
        [.jobState ⟨s.nextId, .desk p, line, .queued, none, none, 0, .none, 0, none, s.link.time⟩]) := by
  let q : JobRequest := (deskRequest p line .normal keep r).job none
  have henqueue := Ctx.enqueue_first (c := s.served) rfl q
  have hfound : (s.served.s.enqueue q).job? s.nextId = some (q.job s.nextId s.sched.nextQueue s.link.time) :=
    State.job?_enqueue (s := s.served.s) (Nat.le_of_lt place) q
  have hrest : (s.served.enqueue q).settle settleFuel = { s.served.enqueue q with walkDue := false, issueDue := false } :=
    Ctx.enqueue_rests (t := s.served.s) (q := q) (hset.congr rfl rfl rfl) (by rw [henqueue]) h.equipped waits fun hu => by cases hu
  refine congrArg Host.Outcome.next (requestFrame_tells h.ready 0x28#8 (testBody_length h.recipe.2) (h.enters free place) hrest ?_ ?_ ?_)
  · rw [henqueue]
    rfl
  · rw [henqueue]
    exact testAck_found hfound
  · rw [henqueue]
    refine (report_jobState hfound).trans ?_
    simp [jobStateReport, JobRequest.job]
    exact ⟨rfl, rfl, rfl⟩

/-- The group is free and a bus allocatable: the job starts on the lowest such bus. -/
theorem TestPasses.starts (h : TestPasses s tag p line 0#8 r) (hset : Settled s) (free : ∀ k ∈ s.sched.jobs, k.line ≠ line)
    (place : s.sched.jobs.length < 16) {b : Bus} (bus : s.startBus? line = some b) (absent : (s.watchRec b).loop = .absent) :
    exec (.test tag (testBody p line 0#8 keep x y z r)) s =
      .next ((((s.enqueue ((deskRequest p line .normal keep r).job none)).starts s.nextId b).take .guarded b s.nextId line
        WatchSettings.ofDesk).acksTelling 0x28#8 tag
        (.test s.nextId (some .accessing) 0 0 0 WatchSettings.ofDesk)
        [.jobState ⟨s.nextId, .desk p, line, .accessing, some b, none, 0, .none, 0, none, s.link.time⟩]) := by
  let q : JobRequest := (deskRequest p line .normal keep r).job none
  let j : Job := q.job s.nextId s.sched.nextQueue s.link.time
  let d : Ctx := s.served.enqueue q
  let t : State := (d.s.starts s.nextId b).take .guarded b s.nextId line WatchSettings.ofDesk
  let e : Ctx := { d with s := t, out := [.jobState s.nextId .none false] }
  have henqueue : d = { s.served with s := s.served.s.enqueue q, out := [.jobState s.nextId .none false], walkDue := true } :=
    Ctx.enqueue_first (c := s.served) rfl q
  have hd : d.s = s.served.s.enqueue q := by rw [henqueue]
  have hjob : d.s.job? s.nextId = some j := by rw [hd]; exact State.job?_enqueue (s := s.served.s) (Nat.le_of_lt place) q
  have hidle : (d.s.busRec b).access = .idle := by
    rw [hd]
    exact (State.allocatable_spec (State.startBus?_spec bus).2.1).1
  have hstart : d.startJob j b = e := by
    have h1 := Ctx.startJob_guarded (c := d) (j := j) (b := b) hjob rfl hidle (by rw [hd]; exact absent)
    have h2 : ({ d with s := t } : Ctx).jobChanged s.nextId .none = e := by
      simp [e, Ctx.jobChanged, henqueue, noteSoFar, OutItem.isStateOf]
    exact h1.trans h2
  have hjobs : t.sched.jobs = s.sched.jobs ++ [j.started s.sched.nextStart b (s.snapshot line)] := by
    have h1 : t.sched.jobs = (d.s.updJob s.nextId fun k => k.started d.s.sched.nextStart b (d.s.snapshot k.line)).sched.jobs := rfl
    rw [h1, hd]
    exact State.updJob_enqueue (s := s.served.s) (Nat.le_of_lt place) q _
  have hstates : ∀ k ∈ e.s.sched.jobs, k.state ≠ .queued ∧ k.state ≠ .waitHead := by
    intro k hk
    rw [show e.s.sched.jobs = _ from hjobs] at hk
    rcases List.mem_append.1 hk with hk | hk
    · exact ⟨hset.queue k hk, hset.heads k hk⟩
    · rw [List.mem_singleton.1 hk]
      exact ⟨JobState.noConfusion, JobState.noConfusion⟩
  have hrest : d.settle settleFuel = { e with walkDue := false, issueDue := false } := by
    have hdcalm : Calm d.s := by rw [hd]; exact Calm.enqueue (s := s.served.s) ⟨hset.exits, hset.heads⟩ q
    have hwalk : d.walkList d.s.queue = some e := by
      have hqueue : d.s.queue = [j] := by rw [hd]; exact State.queue_enqueue (s := s.served.s) hset.queue q
      rw [hqueue, ← hstart]
      exact Ctx.walkList_starts (by rw [hd]; exact h.equipped) rfl (by rw [hd]; exact bus)
    have hcalm : Calm e.s := ⟨by rw [show e.s.hazardRec = d.s.hazardRec from rfl]; exact hdcalm.exits, fun k hk => (hstates k hk).2⟩
    have hsettle : d.settle (399 + 1) = e.settle 399 :=
      Ctx.settle_of_some (Ctx.settleStep_walks hdcalm.dueExit hdcalm.nextHandout (by rw [henqueue]) hwalk) 399
    refine hsettle.trans (Ctx.settle_restFrom 397 hcalm.dueExit hcalm.nextHandout
      (fun _ => Ctx.walk_passes fun k hk hq => absurd hq (hstates k hk).1) fun _ => State.mayIssue_stopped ?_)
    rw [show e.s.sweep = d.s.sweep from rfl, hd]
    exact hset.sweep
  have howner : ownerTest (testBody p line 0#8 keep x y z r) s.served = .done { e with walkDue := false, issueDue := false }
      (testAck s.nextId 0 0 WatchSettings.ofDesk) := by
    rw [h.enters free place, hrest]
  have hfound : e.s.job? s.nextId = some (j.started d.s.sched.nextStart b (d.s.snapshot line)) :=
    State.job?_starts (s := d.s) (j := j) (b := b) hjob
  refine congrArg Host.Outcome.next (requestFrame_telling h.ready 0x28#8 (testBody_length h.recipe.2) howner ?_ ?_ ?_)
  · show (d.s.starts s.nextId b).take .guarded b s.nextId line WatchSettings.ofDesk = _
    rw [hd]
    rfl
  · exact testAck_found hfound
  · refine (report_jobState hfound).trans ?_
    have htime : e.s.link.time = s.link.time := by rw [show e.s.link = d.s.link from rfl, hd]; rfl
    simp [jobStateReport, Job.started, htime]
    exact ⟨rfl, rfl, rfl, rfl, rfl, rfl⟩

end

end Sys2Proof.Machine
end

section
/-! PROOF. TEST on the line of a routine job (R50, R74, R112). -/

namespace Sys2Proof.Machine

/-! ## A removal that hands nothing over (R94) -/

/-- A job without a head, which no mark or claim names, leaves the table; it is no sweep job, and asks for no verify-due. -/
theorem Ctx.removeJob_quietly {c : Ctx} {id : Nat} {j : Job} {o : JobOutcome} (hj : c.s.job? id = some j) (hhead : j.head = none)
    (hsweep : j.source ≠ .sweep) (hauto : j.source = .auto → asksVerify o = false)
    (hmarks : ∀ k ∈ c.s.sched.jobs, k.takeover ≠ some id ∧ k.claim ≠ some id) :
    c.removeJob id o = { c with
      s := c.s.setJobs (c.s.sched.jobs.filter fun k => k.id != id)
      out := c.out.filter (fun i => !i.isStateOf id) ++ [.late (jobResultReport c.s j o)]
      issueDue := true } := by
  have hfree : c.freeJobHead id = c := by
    unfold Ctx.freeJobHead
    simp only [hj, hhead]
  have hkept : c.s.sweep.jobRemoved j o = c.s.sweep := if_neg hsweep
  have hverify : ¬(j.source = .auto ∧ asksVerify o = true) := fun h => by simp [hauto h.1] at h
  unfold Ctx.removeJob
  simp only [hj, hfree, Option.getD_some]
  simp [dropMarks_unnamed hmarks, hverify, Ctx.issue, Ctx.upd, Ctx.put, Ctx.jobGone, State.setJobs, State.setSweep, hkept]

/-- The removal of another job. -/
theorem State.job?_removed {s : State} {id other : Nat} (h : other ≠ id) :
    (s.setJobs (s.sched.jobs.filter fun k => k.id != id)).job? other = s.job? other := by
  show List.find? _ (List.filter _ _) = _
  rw [List.find?_filter]
  refine congrArg (List.find? · s.sched.jobs) (funext fun k => Bool.eq_iff_iff.2 ?_)
  simp only [decide_eq_true_eq, bne_iff_ne, beq_iff_eq]
  exact ⟨fun hk => hk.2, fun hk => ⟨hk ▸ h, hk⟩⟩

/-! ## A takeover (R50, R74, R112) -/

/-- The bus of a routine job without a head passes to a desk job with a step left, in an edge mode: the routine job leaves TAKEN, and
the desk job waits for a head. -/
theorem Ctx.passOwnership_waits {c : Ctx} {old new : Nat} {jo jn : Job} {b : Bus} (ho : c.s.job? old = some jo)
    (hn : c.s.job? new = some jn) (hdiffer : new ≠ old) (hbus : jo.bus = some b) (hhead : jo.head = none)
    (access : (c.s.busRec b).access = .connected) (hline : jn.line = jo.line) (queued : jn.state = .queued)
    (hauto : jo.source = .auto) (hsteps : jn.step < jn.recipe.length) (hprio : jn.priority ≠ .urgent)
    (hmode : jn.watch.mode ≠ .loopPresent ∧ jn.watch.mode ≠ .loopAbsent)
    (hmarks : ∀ k ∈ c.s.sched.jobs, k.takeover ≠ some old ∧ k.claim ≠ some old) :
    c.passOwnership old new = ({ c with
      s := (((c.s.passes new b jn.watch).setJobs ((c.s.passes new b jn.watch).sched.jobs.filter fun k => k.id != old)).waits new)
      out := c.out.filter (fun i => !i.isStateOf old) ++ [.late (jobResultReport c.s jo .taken)]
      issueDue := true } : Ctx).jobChanged new .takeover := by
  have hfree : (c.abortEntered old).freeJobHead old = c := by
    have h1 : c.abortEntered old = c := by
      unfold Ctx.abortEntered
      simp only [ho, hhead]
    rw [h1]
    unfold Ctx.freeJobHead
    simp only [ho, hhead]
  have hnamed : ∀ k ∈ (c.s.passes new b jn.watch).sched.jobs, k.takeover ≠ some old ∧ k.claim ≠ some old := by
    intro k hk
    obtain ⟨i, hi, rfl⟩ := List.mem_map.1 hk
    split
    · exact ⟨fun h => (by cases h), fun h => (by cases h)⟩
    · exact hmarks i hi
  have hold : (c.s.passes new b jn.watch).job? old = some jo := by
    show (c.s.updJob new fun j => j.takes b (c.s.snapshot j.line)).job? old = some jo
    exact (State.job?_updJob_other (fun j => j.takes b (c.s.snapshot j.line)) (fun _ => rfl) hdiffer.symm).trans ho
  have hremove := Ctx.removeJob_quietly (c := { c with s := c.s.passes new b jn.watch }) (o := .taken) hold hhead
    (by rw [hauto]; decide) (fun _ => rfl) hnamed
  let d : Ctx := { c with
    s := (c.s.passes new b jn.watch).setJobs ((c.s.passes new b jn.watch).sched.jobs.filter fun k => k.id != old)
    out := c.out.filter (fun i => !i.isStateOf old) ++ [.late (jobResultReport c.s jo .taken)]
    issueDue := true }
  have hnew : d.s.job? new = some (jn.takes b (c.s.snapshot jn.line)) :=
    (State.job?_removed hdiffer).trans (State.job?_changed (f := fun j => j.takes b (c.s.snapshot j.line)) hn fun _ => rfl)
  have hwaits := Ctx.enterWaitHead_notUrgent .takeover hnew hprio
  have hmode' : (((d.upd fun s => s.waits new).jobChanged new .takeover).s.watchRec b).settings.mode = jn.watch.mode :=
    congrArg (fun w : WatchRecord => w.settings.mode) (State.setWatchRec_watchRec_same (s := c.s) b _)
  have hlevel : ((d.upd fun s => s.waits new).jobChanged new .takeover).levelCheck b =
      (d.upd fun s => s.waits new).jobChanged new .takeover :=
    Ctx.levelCheck_edge (by rw [hmode']; exact hmode.1) (by rw [hmode']; exact hmode.2)
  unfold Ctx.passOwnership
  simp only [ho, hn, hbus, hfree]
  refine (if_neg (by simp [access, hline, queued])).trans ?_
  refine Eq.trans (congrArg (fun c : Ctx => c.levelCheck b) ((if_pos hsteps).trans ?_)) hlevel
  exact (congrArg (fun c : Ctx => c.enterWaitHead new .takeover) hremove).trans hwaits

section
variable {s : State} {tag x y z : Byte} {p line : Nat} {keep : Bool} {r : List RecipeStep}

/-- A job at the tail of the table, which alone has its id, is changed. -/
theorem map_lastJob {js : List Job} {j : Job} {id : Nat} (fresh : ∀ k ∈ js, k.id ≠ id) (hid : j.id = id) (f : Job → Job) :
    (js ++ [j]).map (fun k => if k.id = id then f k else k) = js ++ [f j] := by
  rw [List.map_append, List.map_congr_left fun k hk => if_neg (fresh k hk), List.map_id', List.map_singleton, if_pos hid]

theorem State.nextId_fresh (hlen : s.sched.jobs.length ≤ 16) {k : Job} (hk : k ∈ s.sched.jobs) : k.id ≠ s.nextId := by
  obtain ⟨-, -, hfree, -⟩ := State.nextId_spec hlen
  exact fun h => hfree (List.mem_map.2 ⟨k, hk, h⟩)

/-- The table after a takeover: the desk job in WAIT-HEAD at the bus, the routine job gone. -/
theorem State.takeover_eq (hlen : s.sched.jobs.length ≤ 16) {q : JobRequest} {o : Job} (ho : o ∈ s.sched.jobs) (b : Bus)
    (w : WatchSettings) :
    (((s.enqueue q).passes s.nextId b w).setJobs
        (((s.enqueue q).passes s.nextId b w).sched.jobs.filter fun k => k.id != o.id)).waits s.nextId =
      (({ s with sched := { s.sched with
          jobs := (s.sched.jobs.filter fun k : Job => k.id != o.id) ++
            [((q.job s.nextId s.sched.nextQueue s.link.time).takes b (s.snapshot q.line)).waiting s.sched.nextWait s.link.time]
          lastId := s.nextId, nextQueue := s.sched.nextQueue + 1, nextWait := s.sched.nextWait + 1 } } : State).setBusRec b
        { s.busRec b with owner := some s.nextId }).setWatchRec b { s.watchRec b with settings := w, pending := false } := by
  have hfresh : ∀ k ∈ s.sched.jobs, k.id ≠ s.nextId := fun k hk => State.nextId_fresh hlen hk
  have hpasses : ((s.enqueue q).passes s.nextId b w).sched.jobs =
      s.sched.jobs ++ [(q.job s.nextId s.sched.nextQueue s.link.time).takes b (s.snapshot q.line)] :=
    map_lastJob hfresh rfl fun k => k.takes b (s.snapshot k.line)
  have hleft : ((s.enqueue q).passes s.nextId b w).sched.jobs.filter (fun k => k.id != o.id) =
      (s.sched.jobs.filter fun k => k.id != o.id) ++
        [(q.job s.nextId s.sched.nextQueue s.link.time).takes b (s.snapshot q.line)] := by
    rw [hpasses, List.filter_append]
    refine congrArg (_ ++ ·) (List.filter_eq_self.2 fun k hk => ?_)
    rw [List.mem_singleton.1 hk]
    simpa [JobRequest.job, Job.takes] using (hfresh o ho).symm
  have hwaits := map_lastJob (js := s.sched.jobs.filter fun k => k.id != o.id) (id := s.nextId)
    (fun k hk => hfresh k (List.mem_of_mem_filter hk))
    (j := (q.job s.nextId s.sched.nextQueue s.link.time).takes b (s.snapshot q.line)) rfl (Job.waiting s.sched.nextWait s.link.time)
  rw [hleft]
  refine Eq.trans ?_ (congrArg (fun js => (({ s with sched := { s.sched with
    jobs := js, lastId := s.nextId, nextQueue := s.sched.nextQueue + 1, nextWait := s.sched.nextWait + 1 } } : State).setBusRec b
      { s.busRec b with owner := some s.nextId }).setWatchRec b { s.watchRec b with settings := w, pending := false }) hwaits)
  rfl

/-- The one JOB-STATE of an event stands again, behind the JOB-RESULT of another job. -/
theorem Ctx.jobChanged_again {c : Ctx} {id old : Nat} (hout : c.out = [.jobState id .none false]) (h : id ≠ old) (u : State)
    (x : Report) (note : JobNote) : ({ c with
      s := u, out := c.out.filter (fun i => !i.isStateOf old) ++ [.late x], issueDue := true } : Ctx).jobChanged id note =
    { c with s := u, out := [.late x, .jobState id note false], issueDue := true } := by
  simp [Ctx.jobChanged, hout, noteSoFar, OutItem.isStateOf, h]

/-- The jobs of before are found after an entry. -/
theorem State.job?_enqueue_other {id : Nat} {k : Job} (hk : s.job? id = some k) (q : JobRequest) : (s.enqueue q).job? id = some k := by
  show List.find? _ (s.sched.jobs ++ [_]) = _
  rw [List.find?_append, show List.find? _ s.sched.jobs = some k from hk]
  rfl

/-- A TEST for the line of a routine job whose bus passes at once. -/
theorem Ctx.takeTest_passes {c : Ctx} {o : Job} (waits : o.state = .waitHead) (passes : c.s.passesAtOnce o = true) (q : TestRequest) :
    c.takeTest q (some o) none = .done (((c.enqueue (q.job none)).passOwnership o.id c.s.nextId).settle settleFuel)
      (testAck c.s.nextId o.id 0 q.watch) := by
  have hfrees : c.s.freesPlace o = true := by simp [State.freesPlace, passes]
  have henter : c.enterTest q (some o) = (c.enqueue (q.job none)).passOwnership o.id c.s.nextId := by
    unfold Ctx.enterTest
    simp only [waits]
    rw [if_neg (by decide), if_neg (by decide), if_pos passes]
  have hid : c.testId (some o) = c.s.nextId := if_neg (by rw [waits]; decide)
  unfold Ctx.takeTest
  simp only [henter, hid, if_pos hfrees]
  rfl

/-- The one job of a line, an AUTO or sweep one, is its routine job. -/
theorem State.routineJob?_only {o : Job} (ho : o ∈ s.sched.jobs) (hline : o.line = line) (hdesk : o.source.isDesk = false)
    (only : ∀ k ∈ s.sched.jobs, k.line = line → k = o) : s.routineJob? line = some o := by
  unfold State.routineJob?
  cases hfind : s.sched.jobs.find? (fun j => j.line == line && !j.source.isDesk) with
  | none => exact absurd (List.find?_eq_none.1 hfind o ho) (by simp [hline, hdesk])
  | some k =>
    have hk := List.find?_some hfind
    simp only [Bool.and_eq_true, beq_iff_eq] at hk
    exact congrArg some (only k (List.mem_of_find?_eq_some hfind) hk.1)

/-- The line of an AUTO job in WAIT-HEAD is taken over. -/
theorem TestPasses.takesOver (h : TestPasses s tag p line 0#8 r) (exits : ∀ b, (s.hazardRec b).exit = none)
    (heads : ∀ h, (s.headRec h).state ≠ .idle) (stopped : s.sweep.state ≠ .running) (hlen : s.sched.jobs.length ≤ 16)
    {o : Job} {b : Bus} (ho : s.job? o.id = some o) (hauto : o.source = .auto) (hline : o.line = line) (waits : o.state = .waitHead)
    (hbus : o.bus = some b) (hhead : o.head = none)
    (others : ∀ k ∈ s.sched.jobs, k.state ≠ .queued ∧ k.takeover ≠ some o.id ∧ k.claim ≠ some o.id ∧ (k.line = line → k = o))
    (access : (s.busRec b).access = .connected) :
    exec (.test tag (testBody p line 0#8 keep x y z r)) s =
      .next (((({ s with sched := { s.sched with
          jobs := (s.sched.jobs.filter fun k : Job => k.id != o.id) ++
            [((((deskRequest p line .normal keep r).job none).job s.nextId s.sched.nextQueue s.link.time).takes b
              (s.snapshot line)).waiting s.sched.nextWait s.link.time]
          lastId := s.nextId, nextQueue := s.sched.nextQueue + 1, nextWait := s.sched.nextWait + 1 } } : State).setBusRec b
        { s.busRec b with owner := some s.nextId }).setWatchRec b
          { s.watchRec b with settings := WatchSettings.ofDesk, pending := false }).acksTelling 0x28#8 tag
        (.test s.nextId (some .waitHead) 0 o.id 0 WatchSettings.ofDesk)
        [.jobResult ⟨o.id, .taken, .auto, line, s.link.time, o.verification, none, o.results⟩,
         .jobState ⟨s.nextId, .desk p, line, .waitHead, some b, none, 0, .takeover, 0, none, s.link.time⟩]) := by
  let q : JobRequest := (deskRequest p line .normal keep r).job none
  let j : Job := q.job s.nextId s.sched.nextQueue s.link.time
  let c : Ctx := s.served.enqueue q
  have hmem : o ∈ s.sched.jobs := State.job?_mem ho
  have hdiffer : s.nextId ≠ o.id := (State.nextId_fresh hlen hmem).symm
  have henqueue : c = { s.served with s := s.served.s.enqueue q, out := [.jobState s.nextId .none false], walkDue := true } :=
    Ctx.enqueue_first (c := s.served) rfl q
  have hc : c.s = s.served.s.enqueue q := by rw [henqueue]
  have hold : c.s.job? o.id = some o := by rw [hc]; exact State.job?_enqueue_other (s := s.served.s) ho q
  have hnew : c.s.job? s.nextId = some j := by rw [hc]; exact State.job?_enqueue (s := s.served.s) hlen q
  have hmarks : ∀ k ∈ c.s.sched.jobs, k.takeover ≠ some o.id ∧ k.claim ≠ some o.id := by
    rw [hc]
    intro k hk
    rcases List.mem_append.1 hk with hk | hk
    · exact ⟨(others k hk).2.1, (others k hk).2.2.1⟩
    · rw [List.mem_singleton.1 hk]
      exact ⟨nofun, nofun⟩
  have hpass := Ctx.passOwnership_waits hold hnew hdiffer hbus hhead (by rw [hc]; exact access) hline.symm rfl hauto
    (show 0 < r.length from h.recipe.1) Priority.noConfusion ⟨WatchMode.noConfusion, WatchMode.noConfusion⟩ hmarks
  let e : Ctx := { c with
    s := ((c.s.passes s.nextId b q.watch).setJobs
      ((c.s.passes s.nextId b q.watch).sched.jobs.filter fun k => k.id != o.id)).waits s.nextId
    out := [.late (jobResultReport c.s o .taken), .jobState s.nextId .takeover false]
    issueDue := true }
  have hevent : c.passOwnership o.id s.nextId = e := by
    exact hpass.trans (Ctx.jobChanged_again (by rw [henqueue]) hdiffer _ _ _)
  have hleft := State.takeover_eq (s := s.served.s) hlen (q := q) hmem b q.watch
  rw [← hc] at hleft
  change e.s = _ at hleft
  have hjobs : e.s.sched.jobs = (s.sched.jobs.filter fun k : Job => k.id != o.id) ++
      [(j.takes b (s.snapshot line)).waiting s.sched.nextWait s.link.time] := by rw [hleft]; rfl
  have hstates : ∀ k ∈ e.s.sched.jobs, k.state ≠ .queued := by
    rw [hjobs]
    intro k hk
    rcases List.mem_append.1 hk with hk | hk
    · exact (others k (List.mem_of_mem_filter hk)).1
    · rw [List.mem_singleton.1 hk]
      exact nofun
  have hrest : e.settle settleFuel = { e with walkDue := false, issueDue := false } := by
    refine Ctx.settle_rest (State.dueExit_none ?_) (State.nextHandout_none ?_)
      (fun _ => Ctx.walk_passes fun k hk hq => absurd hq (hstates k hk)) fun _ => State.mayIssue_stopped ?_
    · rw [hleft]; exact exits
    · rw [hleft]; exact heads
    · rw [hleft]; exact stopped
  have hfound : e.s.job? s.nextId = some ((j.takes b (s.snapshot line)).waiting s.sched.nextWait s.link.time) := by
    have hnone : (s.sched.jobs.filter fun k : Job => k.id != o.id).find? (fun k => k.id == s.nextId) = none :=
      List.find?_eq_none.2 fun k hk hid => State.nextId_fresh hlen (List.mem_of_mem_filter hk) (beq_iff_eq.1 hid)
    show e.s.sched.jobs.find? _ = _
    rw [hjobs, List.find?_append, hnone]
    simp [Job.waiting, Job.takes, j, JobRequest.job]
  have hdesk : o.source.isDesk = false := by rw [hauto]; rfl
  have hroutine : s.routineJob? line = some o := State.routineJob?_only hmem hline hdesk fun k hk => (others k hk).2.2.2
  have hpasses : s.passesAtOnce o = true := by simp [State.passesAtOnce, waits, hbus, access]
  have hplace : s.placeFor (testPriority 0#8) (some o) = some none := by
    unfold State.placeFor
    split
    · rfl
    · exact if_pos (by simp [State.freesPlace, hpasses])
  have howner : ownerTest (testBody p line 0#8 keep x y z r) s.served = .done (e.settle settleFuel)
      (testAck s.nextId o.id 0 WatchSettings.ofDesk) := by
    rw [h.takes hroutine hplace, Ctx.takeTest_passes (c := s.served) waits hpasses, ← hevent]
    rfl
  refine congrArg Host.Outcome.next (requestFrame_tells h.ready 0x28#8 (testBody_length h.recipe.2) howner hrest ?_ ?_ ?_)
  · rw [hleft]
    rfl
  · exact testAck_found hfound
  · have htime : e.s.link.time = s.link.time := by rw [hleft]; rfl
    have hresult : jobResultReport c.s o .taken = .jobResult ⟨o.id, .taken, .auto, line, s.link.time, o.verification, none, o.results⟩ := by
      rw [jobResultReport, hauto, hline, hc]
      rfl
    simp [e, ordered, OutItem.report, hfound, hresult, Report.atEnd, jobStateReport]
    exact ⟨rfl, rfl, rfl, rfl, rfl, rfl, rfl, rfl, htime⟩

end

end Sys2Proof.Machine
end

section
/-! PROOF. TEST with no place in the table or no bus of its route (R97, R114, R129). -/

namespace Sys2Proof.Machine

section
variable {s : State} {c : Ctx} {k : Job}

/-! ## A sweep job hands its line over and leaves (R94, R129, R130) -/

/-- The revisit list with the line of a preempted job at its end (R129). -/
def Sweep.joined (w : Sweep) (now : Moment) (k : Job) : Sweep :=
  { w with revisit := w.revisit ++ [⟨k.line, .preempted, w.attemptsOf k.id + 1, now + 480000⟩] }

theorem Ctx.handOverJob_joins (sweep : k.source = .sweep) (fresh : ∀ e ∈ c.s.sweep.revisit, e.line ≠ k.line)
    (place : c.s.sweep.revisit.length < 16) (attempts : c.s.sweep.attemptsOf k.id + 1 ≤ 3) :
    c.handOverJob k .preempted = c.upd fun s => s.setSweep (s.sweep.joined s.now k) := by
  have hnone : c.s.sweep.revisit.find? (fun e => e.line == k.line) = none :=
    List.find?_eq_none.2 fun e he => by simpa using fresh e he
  rw [Ctx.handOverJob, if_pos sweep]
  unfold Ctx.handOver
  simp only [hnone]
  rw [if_pos attempts]
  split
  next e rest hlist =>
    have hroom : ¬Config.revisitPlaces ≤ c.s.sweep.revisit.length := Nat.not_le.2 place
    rw [if_neg hroom]
    rfl
  next hlist =>
    simp only [Ctx.upd, Sweep.joined, hlist]
    rfl

/-- A sweep job without a head, which no mark or claim names, leaves the table with its issue note. -/
theorem Ctx.removeJob_preempted (hk : c.s.job? k.id = some k) (hhead : k.head = none) (sweep : k.source = .sweep)
    (hmarks : ∀ m ∈ c.s.sched.jobs, m.takeover ≠ some k.id ∧ m.claim ≠ some k.id) :
    c.removeJob k.id .preempted = { c with
      s := (c.s.setJobs (c.s.sched.jobs.filter fun m => m.id != k.id)).setSweep
        { c.s.sweep with notes := c.s.sweep.notes.filter fun m => m.job != k.id }
      out := c.out.filter (fun i => !i.isStateOf k.id) ++ [.late (jobResultReport c.s k .preempted)]
      issueDue := true } := by
  have hfree : c.freeJobHead k.id = c := by
    unfold Ctx.freeJobHead
    simp only [hk, hhead]
  have hnotes : c.s.sweep.jobRemoved k .preempted = { c.s.sweep with notes := c.s.sweep.notes.filter fun m => m.job != k.id } := by
    simp [Sweep.jobRemoved, sweep]
  unfold Ctx.removeJob
  simp only [hk, hfree, Option.getD_some]
  simp [dropMarks_unnamed hmarks, sweep, Ctx.issue, Ctx.upd, Ctx.put, Ctx.jobGone, State.setJobs, State.setSweep, hnotes]

/-! ## Eviction (R97) -/

/-- A choice among one job alone. -/
theorem foldl_only {f : Option Job → Job → Option Job} (first : f none k = some k) (again : f (some k) k = some k) {l : List Job}
    (hl : ∀ m ∈ l, m = k) (hne : l ≠ []) : l.foldl f none = some k := by
  have hkept : ∀ l : List Job, (∀ m ∈ l, m = k) → l.foldl f (some k) = some k := by
    intro l
    induction l with
    | nil => exact fun _ => rfl
    | cons m l ih =>
      intro hl
      rw [List.foldl_cons, hl m List.mem_cons_self, again]
      exact ih fun m hm => hl m (List.mem_cons_of_mem _ hm)
  cases l with
  | nil => exact absurd rfl hne
  | cons m l =>
    rw [List.foldl_cons, hl m List.mem_cons_self, first]
    exact hkept l fun m hm => hl m (List.mem_cons_of_mem _ hm)

/-- The one QUEUED sweep job is the one to evict. -/
theorem State.evictable?_only (hk : k ∈ s.sched.jobs) (sweep : k.source = .sweep) (queued : k.state = .queued)
    (others : ∀ m ∈ s.sched.jobs, m.source = .sweep → m = k) : s.evictable? = some k := by
  refine foldl_only rfl (if_neg (Nat.lt_irrefl _)) (fun m hm => ?_)
    (List.ne_nil_of_mem (List.mem_filter.2 ⟨hk, by simp [sweep, queued]⟩))
  obtain ⟨hmem, hm⟩ := List.mem_filter.1 hm
  simp only [Bool.and_eq_true, beq_iff_eq] at hm
  exact others m hmem hm.1

/-- An entry behind a JOB-RESULT. -/
theorem Ctx.enqueue_late {x : Report} (hout : c.out = [.late x]) (q : JobRequest) :
    c.enqueue q = { c with s := c.s.enqueue q, out := [.late x, .jobState c.s.nextId .none false], walkDue := true } := by
  simp [Ctx.enqueue, Ctx.jobChanged, Ctx.upd, Ctx.walk, hout, noteSoFar, OutItem.isStateOf]
  rfl

/-- With no sweep job there is none to preempt. -/
theorem State.preemptVictim_none (h : ∀ m ∈ s.sched.jobs, m.source ≠ .sweep) (line : Nat) : s.preemptVictim line = none := by
  have hnone : ∀ f, s.sweepJobs f = [] := fun f => List.filter_eq_nil_iff.2 fun m hm => by simp [h m hm]
  unfold State.preemptVictim
  simp only [hnone]
  split <;> rfl

end

section
variable {s : State} {tag x y z : Byte} {p line : Nat} {keep : Bool} {r : List RecipeStep} {k : Job}

/-- The sweep job that an URGENT TEST ends: no mark or claim names it, every other job is neither QUEUED nor of the sweep, its line joins
the revisit list, and no bus of the TEST's route is allocatable. -/
structure EndsSweepJob (s : State) (line : Nat) (k : Job) : Prop where
  exits : ∀ b, (s.hazardRec b).exit = none
  heads : ∀ h, (s.headRec h).state ≠ .idle
  stopped : s.sweep.state ≠ .running
  found : s.job? k.id = some k
  sweep : k.source = .sweep
  others : ∀ m ∈ s.sched.jobs, m.line ≠ line ∧ m.takeover ≠ some k.id ∧ m.claim ≠ some k.id ∧ (m.id = k.id → m = k) ∧
    (m.id ≠ k.id → m.state ≠ .queued ∧ m.source ≠ .sweep)
  fresh : ∀ e ∈ s.sweep.revisit, e.line ≠ k.line
  place : s.sweep.revisit.length < 16
  attempts : s.sweep.attemptsOf k.id + 1 ≤ 3
  busy : ∀ b, inSet (s.route (line / 64)).allowed b = true → s.allocatable b = false

/-- The one sweep job. -/
theorem EndsSweepJob.only (h : EndsSweepJob s line k) {m : Job} (hm : m ∈ s.sched.jobs) (sweep : m.source = .sweep) : m = k := by
  obtain ⟨-, -, -, hsame, hother⟩ := h.others m hm
  by_cases hid : m.id = k.id
  · exact hsame hid
  · exact absurd sweep (hother hid).2

/-- The state without the evicted job, its line in the revisit list. -/
def State.evicted (s : State) (k : Job) : State :=
  { s with
    sched := { s.sched with jobs := s.sched.jobs.filter fun m => m.id != k.id }
    sweep := { s.sweep.joined s.now k with notes := s.sweep.notes.filter fun m => m.job != k.id } }

/-- An URGENT TEST that meets a full table evicts the QUEUED sweep job. -/
theorem TestPasses.evicts (h : TestPasses s tag p line 1#8 r) (ends : EndsSweepJob s line k) (full : s.sched.jobs.length = 16)
    (queued : k.state = .queued) (hhead : k.head = none) :
    exec (.test tag (testBody p line 1#8 keep x y z r)) s =
      .next (((s.evicted k).enqueue ((deskRequest p line .urgent keep r).job none)).acksTelling 0x28#8 tag
        (.test (s.evicted k).nextId (some .queued) 0 0 k.id WatchSettings.ofDesk)
        [.jobResult ⟨k.id, .preempted, .sweep, k.line, s.link.time, k.verification, none, k.results⟩,
         .jobState ⟨(s.evicted k).nextId, .desk p, line, .queued, none, none, 0, .none, 0, none, s.link.time⟩]) := by
  let q : JobRequest := (deskRequest p line .urgent keep r).job none
  let c : Ctx := { s.served with
    s := s.served.s.evicted k, out := [.late (jobResultReport s k .preempted)], issueDue := true }
  have hmem : k ∈ s.sched.jobs := State.job?_mem ends.found
  have hlen : (s.evicted k).sched.jobs.length ≤ 16 := full ▸ List.length_filter_le _ _
  have hleaves : (s.served.handOverJob k .preempted).removeJob k.id .preempted = c := by
    rw [Ctx.handOverJob_joins (c := s.served) ends.sweep ends.fresh ends.place ends.attempts,
      Ctx.removeJob_preempted (c := s.served.upd fun s => s.setSweep (s.sweep.joined s.now k)) ends.found hhead ends.sweep
        fun m hm => ⟨(ends.others m hm).2.1, (ends.others m hm).2.2.1⟩]
    rfl
  have henqueue := Ctx.enqueue_late (c := c) rfl q
  have hfound : (c.s.enqueue q).job? (s.evicted k).nextId = some (q.job (s.evicted k).nextId s.sched.nextQueue s.link.time) :=
    State.job?_enqueue (s := s.served.s.evicted k) hlen q
  have howner : ownerTest (testBody p line 1#8 keep x y z r) s.served = .done ((c.enqueue q).settle settleFuel)
      (testAck (s.evicted k).nextId 0 k.id WatchSettings.ofDesk) := by
    have hplace : s.placeFor (testPriority 1#8) none = some (some k) := by
      have hevict : s.evictable? = some k := State.evictable?_only hmem ends.sweep queued fun m hm => ends.only hm
      unfold State.placeFor
      rw [if_neg (by rw [full]; decide), if_neg Bool.false_ne_true, if_pos (by decide), hevict]
      rfl
    rw [h.takes (State.routineJob?_none fun m hm => (ends.others m hm).1) hplace]
    unfold Ctx.takeTest
    simp only [hleaves]
    rfl
  have hrest : (c.enqueue q).settle settleFuel = { c.enqueue q with walkDue := false, issueDue := false } := by
    have hjobs : ∀ m ∈ (c.s.enqueue q).sched.jobs, m.source ≠ .sweep ∧
        (m.state = .queued → m = q.job (s.evicted k).nextId s.sched.nextQueue s.link.time) := by
      intro m hm
      rcases List.mem_append.1 hm with hm | hm
      · obtain ⟨hmem, hid⟩ := List.mem_filter.1 hm
        obtain ⟨-, -, -, -, hother⟩ := ends.others m hmem
        obtain ⟨hqueued, hsweep⟩ := hother (by simpa using hid)
        exact ⟨hsweep, fun h => absurd h hqueued⟩
      · rw [List.mem_singleton.1 hm]
        exact ⟨nofun, fun _ => rfl⟩
    have hwalk : ∀ m ∈ (c.enqueue q).s.sched.jobs, m.state = .queued → (c.enqueue q).PassesOver m := by
      rw [henqueue]
      intro m hm hqueued
      rw [(hjobs m hm).2 hqueued]
      exact ⟨h.equipped, .inr ⟨State.startBus?_none (s := c.s.enqueue q) (.inr ends.busy), fun _ _ =>
        State.preemptVictim_none (s := c.s.enqueue q) (fun m hm => (hjobs m hm).1) line⟩⟩
    refine Ctx.settle_rest (State.dueExit_none ?_) (State.nextHandout_none ?_) (fun _ => Ctx.walk_passes hwalk)
      fun _ => State.mayIssue_stopped ?_
    · rw [henqueue]; exact ends.exits
    · rw [henqueue]; exact ends.heads
    · rw [henqueue]; exact ends.stopped
  refine congrArg Host.Outcome.next (requestFrame_tells h.ready 0x28#8 (testBody_length h.recipe.2) howner hrest ?_ ?_ ?_)
  · rw [henqueue]
    rfl
  · rw [henqueue]
    exact testAck_found hfound
  · rw [henqueue]
    have hid : c.s.nextId = (s.evicted k).nextId := rfl
    have htime : (c.s.enqueue q).link.time = s.link.time := rfl
    simp [ordered, OutItem.report, hid, hfound, jobResultReport, Report.atEnd, jobStateReport, ends.sweep, JobRequest.job, htime]
    exact ⟨rfl, rfl⟩

/-! ## Preemption (R114) -/

theorem Ctx.walkList_preempts {c : Ctx} {j : Job} {l : List Job} (equipped : (c.s.dirEntry j.line).cls ≠ 0) (unmarked : j.takeover = none)
    (bus : c.s.startBus? j.line = none) (urgent : j.priority = .urgent) (unclaimed : j.claim = none)
    (victim : c.s.preemptVictim j.line = some k) : c.walkList (j :: l) = some (c.claimAndPreempt j k) := by
  unfold Ctx.walkList
  rw [if_neg equipped, if_neg (by simp [unmarked])]
  simp only [bus]
  rw [if_pos ⟨urgent, unclaimed⟩]
  simp only [victim]

/-- The one sweep job, on a bus of the route, is the one to preempt where no bus stands in the group. -/
theorem State.preemptVictim_only {b : Bus} (hk : k ∈ s.sched.jobs) (sweep : k.source = .sweep) (waits : k.state = .waitHead)
    (bus : k.bus = some b) (allowed : inSet (s.route (line / 64)).allowed b = true)
    (free : ∀ b' l, (s.busRec b').line = some l → l / 64 ≠ line / 64) (others : ∀ m ∈ s.sched.jobs, m.source = .sweep → m = k) :
    s.preemptVictim line = some k := by
  unfold State.preemptVictim
  refine (if_neg (by simp [State.groupHeld_free free])).trans ?_
  refine foldl_only rfl (if_neg (Nat.lt_irrefl _)) (fun m hm => ?_)
    (List.ne_nil_of_mem (List.mem_filter.2 ⟨hk, by simp [sweep, waits, bus, groupOf, allowed]⟩))
  obtain ⟨hmem, hm⟩ := List.mem_filter.1 hm
  simp only [Bool.and_eq_true, beq_iff_eq] at hm
  exact others m hmem hm.1.1

/-- The record of a job that claims the bus of another (R114). -/
def Job.claims (k j : Job) : Job := { j with claim := some k.id }

/-- The state after a job has entered and claims the bus of a sweep job, whose line joins the revisit list. -/
def State.claimed (s : State) (k j : Job) : State :=
  { s with
    sched := { s.sched with
      jobs := s.sched.jobs ++ [k.claims j], lastId := s.nextId, nextQueue := s.sched.nextQueue + 1 }
    sweep := s.sweep.joined s.now k }

/-- The state after a job has entered that claims the bus of a preempted sweep job, whose line joins the revisit list. -/
def State.preempted (s : State) (k j : Job) (b : Bus) (l : Nat) : State :=
  ((({ s with
      sched := { s.sched with
        jobs := (s.sched.jobs.map fun m => if m.id = k.id then m.released .preempted else m) ++ [k.claims j]
        lastId := s.nextId, nextQueue := s.sched.nextQueue + 1 }
      sweep := s.sweep.joined s.now k } : State).setRelays l { s.relaysOf l with testPath := false }).setBusRec b
    { s.busRec b with access := .releasing, func := .none, interval := some (s.restoreTaken l), reserveMark := false }).setWatchRec b
    { s.watchRec b with timer := none, guard := none }

/-- The claimed bus is released. -/
theorem State.claimed_released {j : Job} (hdiffer : j.id ≠ k.id) (b : Bus) (l : Nat) :
    ((((s.claimed k j).updJob k.id (Job.released .preempted)).setRelays l { (s.claimed k j).relaysOf l with testPath := false }).setBusRec b
      { (s.claimed k j).busRec b with
        access := .releasing, func := .none, interval := some ((s.claimed k j).restoreTaken l), reserveMark := false }).setWatchRec b
      { (s.claimed k j).watchRec b with timer := none, guard := none } = s.preempted k j b l := by
  have hmap : (s.claimed k j).sched.jobs.map (fun m => if m.id = k.id then m.released .preempted else m) =
      (s.sched.jobs.map fun m => if m.id = k.id then m.released .preempted else m) ++ [k.claims j] :=
    List.map_append.trans (congrArg (fun m => List.map _ s.sched.jobs ++ [m]) (if_neg hdiffer))
  exact congrArg (fun js => ((({ s.claimed k j with sched := { (s.claimed k j).sched with jobs := js } } : State).setRelays l
    { s.relaysOf l with testPath := false }).setBusRec b
      { s.busRec b with access := .releasing, func := .none, interval := some (s.restoreTaken l), reserveMark := false }).setWatchRec b
      { s.watchRec b with timer := none, guard := none }) hmap

/-- The sweep job waits for a head on a CONNECTED bus of the TEST's route, and no bus stands in the group of the TEST's line. -/
structure HoldsRouteBus (s : State) (line : Nat) (k : Job) (b : Bus) (l : Nat) : Prop where
  waits : k.state = .waitHead
  noHead : k.head = none
  bus : k.bus = some b
  allowed : inSet (s.route (line / 64)).allowed b = true
  access : (s.busRec b).access = .connected
  owner : (s.busRec b).owner = some k.id
  number : (s.busRec b).line = some l
  speech : (s.busRec b).speech = none
  busHead : (s.busRec b).head = none
  free : ∀ b' l', (s.busRec b').line = some l' → l' / 64 ≠ line / 64

section
variable {b : Bus} {l : Nat} {q : JobRequest} {j : Job}

/-- The claim of a job that has just entered: the sweep job's line joins the revisit list, and its bus is released. -/
theorem EndsSweepJob.claims (ends : EndsSweepJob s line k) (holds : HoldsRouteBus s line k b l) (room : s.sched.jobs.length < 16)
    (hj : j = q.job s.nextId s.sched.nextQueue s.link.time) :
    (s.served.enqueue q).claimAndPreempt j k = { s.served.enqueue q with
      s := s.served.s.preempted k j b l, out := [.jobState s.nextId .none false, .jobState k.id .none false] } := by
  subst hj
  let j : Job := q.job s.nextId s.sched.nextQueue s.link.time
  let c : Ctx := s.served.enqueue q
  let c1 : Ctx := c.upd fun s => s.updJob j.id k.claims
  let c2 : Ctx := c1.upd fun s => s.setSweep (s.sweep.joined s.now k)
  have hlen : s.sched.jobs.length ≤ 16 := Nat.le_of_lt room
  have hdiffer : k.id ≠ s.nextId := State.nextId_fresh hlen (State.job?_mem ends.found)
  have henqueue : c = { s.served with s := s.served.s.enqueue q, out := [.jobState s.nextId .none false], walkDue := true } :=
    Ctx.enqueue_first (c := s.served) rfl q
  have hclaimed : c2.s = s.served.s.claimed k j := by
    show (c.s.updJob j.id k.claims).setSweep (c.s.sweep.joined c.s.now k) = _
    rw [henqueue]
    exact congrArg (fun js => ({ s.served.s with
      sched := { s.sched with jobs := js, lastId := s.nextId, nextQueue := s.sched.nextQueue + 1 }
      sweep := s.sweep.joined s.now k } : State)) (State.updJob_enqueue (s := s.served.s) hlen q k.claims)
  have hgoes : c1.handOverJob k .preempted = c2 := by
    have hsweep : c1.s.sweep = s.sweep := by rw [show c1.s.sweep = c.s.sweep from rfl, henqueue]; rfl
    exact Ctx.handOverJob_joins (c := c1) ends.sweep (by rw [hsweep]; exact ends.fresh) (by rw [hsweep]; exact ends.place)
      (by rw [hsweep]; exact ends.attempts)
  have hfound : c2.s.job? k.id = some k := by
    rw [hclaimed]
    show List.find? _ (s.sched.jobs ++ [_]) = _
    rw [List.find?_append, show List.find? _ s.sched.jobs = some k from ends.found]
    rfl
  have hasks := Ctx.askRelease_path (c := c2) (o := .preempted) (note := .none) hfound (by rw [holds.waits]; decide) holds.noHead holds.bus
    (by rw [hclaimed]; exact holds.owner) (by rw [hclaimed]; exact holds.access) (by rw [hclaimed]; exact holds.number)
    (by rw [hclaimed]; exact holds.speech) (by rw [hclaimed]; exact holds.busHead)
  have hevent : c.claimAndPreempt j k = c2.askRelease k.id .preempted := congrArg (fun c : Ctx => c.askRelease k.id .preempted) hgoes
  have hout : c2.jobChanged k.id .none = { c2 with out := [.jobState s.nextId .none false, .jobState k.id .none false] } := by
    have hbefore : c2.out = [.jobState s.nextId .none false] := by rw [show c2.out = c.out from rfl, henqueue]
    simp [Ctx.jobChanged, hbefore, noteSoFar, OutItem.isStateOf, hdiffer.symm]
  have hleft := State.claimed_released (s := s.served.s) (k := k) (j := j) hdiffer.symm b l
  rw [← hclaimed] at hleft
  rw [hevent, hasks, hout]
  exact congrArg (fun v => ({ c with s := v, out := [.jobState s.nextId .none false, .jobState k.id .none false] } : Ctx)) hleft

/-- No bus of the route is allocatable while the claimed bus is released. -/
theorem State.preempted_busy (busy : ∀ b', inSet (s.route (line / 64)).allowed b' = true → s.allocatable b' = false) :
    ∀ b', inSet ((s.preempted k j b l).route (line / 64)).allowed b' = true → (s.preempted k j b l).allocatable b' = false := by
  intro b' hb'
  have hrec : (s.preempted k j b l).busRec b' = if b' = b then { s.busRec b with
      access := .releasing, func := .none, interval := some (s.restoreTaken l), reserveMark := false } else s.busRec b' :=
    State.setBusRec_busRec ..
  unfold State.allocatable
  rw [hrec]
  split
  · rfl
  · exact busy b' hb'

/-- The claiming job, whose id is new. -/
theorem State.preempted_new (fresh : ∀ m ∈ s.sched.jobs, m.id ≠ j.id) (found : s.job? k.id = some k) :
    (s.preempted k j b l).job? j.id = some (k.claims j) := by
  have hnone : (s.updJob k.id (Job.released .preempted)).job? j.id = none := by
    rw [State.job?_updJob_other _ (by exact fun _ => rfl) (fresh k (State.job?_mem found)).symm]
    exact List.find?_eq_none.2 fun m hm hid => fresh m hm (beq_iff_eq.1 hid)
  show List.find? _ (List.map _ s.sched.jobs ++ [_]) = _
  rw [List.find?_append, show List.find? _ (List.map _ s.sched.jobs) = none from hnone]
  simp [Job.claims]

/-- The preempted job. -/
theorem State.preempted_old (found : s.job? k.id = some k) : (s.preempted k j b l).job? k.id = some (k.released .preempted) := by
  have hreleased : (s.updJob k.id (Job.released .preempted)).job? k.id = some (k.released .preempted) :=
    State.job?_changed found fun _ => rfl
  show List.find? _ (List.map _ s.sched.jobs ++ [_]) = _
  rw [List.find?_append, show List.find? _ (List.map _ s.sched.jobs) = _ from hreleased]
  rfl

end

/-- An URGENT TEST that finds no bus of its route allocatable preempts the sweep job on one of them and claims it. -/
theorem TestPasses.preempts (h : TestPasses s tag p line 1#8 r) (ends : EndsSweepJob s line k) (room : s.sched.jobs.length < 16)
    {b : Bus} {l : Nat} (holds : HoldsRouteBus s line k b l) :
    exec (.test tag (testBody p line 1#8 keep x y z r)) s =
      .next ((s.preempted k (((deskRequest p line .urgent keep r).job none).job s.nextId s.sched.nextQueue s.link.time) b l).acksTelling
        0x28#8 tag (.test s.nextId (some .queued) 0 0 0 WatchSettings.ofDesk)
        [.jobState ⟨s.nextId, .desk p, line, .queued, none, none, 0, .none, 0, none, s.link.time⟩,
         .jobState ⟨k.id, .sweep, k.line, .releasing, some b, none, k.step, .none, k.losses, none, s.link.time⟩]) := by
  let q : JobRequest := (deskRequest p line .urgent keep r).job none
  let j : Job := q.job s.nextId s.sched.nextQueue s.link.time
  let c : Ctx := s.served.enqueue q
  let u : State := s.served.s.preempted k j b l
  let e : Ctx := { c with s := u, out := [.jobState s.nextId .none false, .jobState k.id .none false] }
  have hlen : s.sched.jobs.length ≤ 16 := Nat.le_of_lt room
  have hmem : k ∈ s.sched.jobs := State.job?_mem ends.found
  have henqueue : c = { s.served with s := s.served.s.enqueue q, out := [.jobState s.nextId .none false], walkDue := true } :=
    Ctx.enqueue_first (c := s.served) rfl q
  have hc : c.s = s.served.s.enqueue q := by rw [henqueue]
  have hclaim : c.claimAndPreempt j k = e := ends.claims holds room rfl
  have hidle : ∀ m ∈ s.sched.jobs, m.state ≠ .queued := by
    intro m hm
    obtain ⟨-, -, -, hsame, hother⟩ := ends.others m hm
    by_cases hid : m.id = k.id
    · rw [hsame hid, holds.waits]; decide
    · exact (hother hid).1
  have hwalk : c.walkList c.s.queue = some e := by
    have hqueue : c.s.queue = [j] := by
      rw [hc]
      exact State.queue_enqueue (s := s.served.s) hidle q
    rw [hqueue, ← hclaim]
    refine Ctx.walkList_preempts (by rw [hc]; exact h.equipped) rfl ?_ rfl rfl ?_
    · rw [hc]
      exact State.startBus?_none (s := s) (.inr ends.busy)
    · rw [hc]
      refine State.preemptVictim_only (List.mem_append_left _ hmem) ends.sweep holds.waits holds.bus holds.allowed holds.free
        fun m hm hsweep => ?_
      rcases List.mem_append.1 hm with hm | hm
      · exact ends.only hm hsweep
      · rw [List.mem_singleton.1 hm] at hsweep
        cases hsweep
  have hpasses : ∀ m ∈ e.s.sched.jobs, m.state = .queued → e.PassesOver m := by
    intro m hm hqueued
    rcases List.mem_append.1 hm with hm | hm
    · obtain ⟨i, hi, rfl⟩ := List.mem_map.1 hm
      split at hqueued
      · cases hqueued
      · exact absurd hqueued (hidle i hi)
    · rw [List.mem_singleton.1 hm]
      exact ⟨h.equipped, .inr ⟨State.startBus?_none (.inr (State.preempted_busy (s := s.served.s) ends.busy)), fun _ => nofun⟩⟩
  have hrest : c.settle settleFuel = { e with walkDue := false, issueDue := false } := by
    have hstep : c.settleStep = some e :=
      Ctx.settleStep_walks (State.dueExit_none (by rw [hc]; exact ends.exits)) (State.nextHandout_none (by rw [hc]; exact ends.heads))
        (by rw [henqueue]) hwalk
    have hsettle : c.settle (399 + 1) = e.settle 399 := Ctx.settle_of_some hstep 399
    have hexits : ∀ b, (e.s.hazardRec b).exit = none := ends.exits
    have hheads : ∀ h, (e.s.headRec h).state ≠ .idle := ends.heads
    exact hsettle.trans (Ctx.settle_restFrom 397 (State.dueExit_none hexits) (State.nextHandout_none hheads)
      (fun _ => Ctx.walk_passes hpasses) fun _ => State.mayIssue_stopped ends.stopped)
  have howner : ownerTest (testBody p line 1#8 keep x y z r) s.served = .done { e with walkDue := false, issueDue := false }
      (testAck s.nextId 0 0 WatchSettings.ofDesk) := by
    have hplace : s.placeFor (testPriority 1#8) none = some none := if_pos room
    rw [h.takes (State.routineJob?_none fun m hm => (ends.others m hm).1) hplace, Ctx.takeTest_free]
    exact congrArg (Served.done · _) hrest
  have hnew : e.s.job? s.nextId = some (k.claims j) :=
    State.preempted_new (s := s.served.s) (j := j) (fun m hm => State.nextId_fresh hlen hm) ends.found
  have hold : e.s.job? k.id = some (k.released .preempted) := State.preempted_old (s := s.served.s) ends.found
  refine congrArg Host.Outcome.next (requestFrame_telling h.ready 0x28#8 (testBody_length h.recipe.2) howner rfl ?_ ?_)
  · exact testAck_found hnew
  · simp [e, ordered, OutItem.report, hnew, hold, jobStateReport]
    exact ⟨⟨rfl, rfl, rfl, rfl, rfl, rfl, rfl, rfl, rfl⟩, rfl, ends.sweep, rfl, rfl, holds.bus, holds.noHead, rfl, rfl, rfl⟩

end

/-- Settles O27: the entry, and what the walk of its event does with the job; the bus that passes; the eviction; the preemption. -/
theorem testQueuesOrStarts : Obligations.TestQueuesOrStarts := by
  refine ⟨fun s tag x y z p line r keep j hr hset hp1 hp4 hline hcls henabled hlow hhigh hlegs hfree hfew hlen hj => ?_, ?_⟩
  · obtain rfl := hj.trans (deskRequest_job _ _ _ _).symm
    have hpasses : TestPasses s tag p line 0#8 r := ⟨hr, ⟨hp1, hp4⟩, hline, .inl rfl, hcls, henabled, ⟨hlow, hhigh⟩, hlegs,
      fun k hk h => absurd h (hfree k hk), hfew⟩
    constructor
    · intro hwaits
      exact hpasses.queues hset hfree hlen (State.startBus?_none (hwaits.imp_left fun ⟨b, l, hb, hl⟩ => State.groupHeld_of hb hl))
    · intro b timer htimer hgroup hallowed hallocatable hlower habsent
      have hbus := State.startBus?_lowest hr.supply hgroup hallowed hallocatable hlower
      refine (hpasses.starts hset hfree hlen hbus habsent).trans (congrArg (fun t : State => Host.Outcome.next (t.acksTelling _ _ _ _)) ?_)
      have hidle : (s.busRec b).access = .idle := (State.allocatable_spec hallocatable).1
      have hsnapshot : s.snapshot ((deskRequest p line .normal keep r).job none).line = _ := State.snapshot_equipped hcls
      rw [State.starts_enqueue (Nat.le_of_lt hlen), hsnapshot, htimer]
      exact State.take_ofDesk hidle habsent _
  · intro s tag x y z prio p line id r keep j hr hexits hheads hstopped hp1 hp4 hline hcls henabled hlow hhigh hlegs hfew hj
    constructor
    · intro o b hprio hid hlen ho hauto holine howaits hobus hohead hothers haccess
      subst hprio hid
      obtain rfl := hj.trans (deskRequest_job .normal _ _ _).symm
      have hpasses : TestPasses s tag p line 0#8 r := ⟨hr, ⟨hp1, hp4⟩, hline, .inl rfl, hcls, henabled, ⟨hlow, hhigh⟩, hlegs,
        fun k hk h => by rw [(hothers k hk).2.2.2 h, hauto]; rfl, hfew⟩
      have htakes := hpasses.takesOver (x := x) (y := y) (z := z) (keep := keep) hexits hheads hstopped hlen ho hauto holine howaits hobus
        hohead hothers haccess
      rw [State.snapshot_equipped hcls] at htakes
      exact htakes
    · intro k n joined hprio hk hsweep hothers hfresh hplace hn hn3 hjoined hbusy
      subst hprio hn
      have ends : EndsSweepJob s line k := ⟨hexits, hheads, hstopped, hk, hsweep, hothers, hfresh, hplace, hn3, hbusy⟩
      have hpasses : TestPasses s tag p line 1#8 r := ⟨hr, ⟨hp1, hp4⟩, hline, .inr rfl, hcls, henabled, ⟨hlow, hhigh⟩, hlegs,
        fun k hk h => absurd h (hothers k hk).1, hfew⟩
      obtain rfl := hj.trans (deskRequest_job .urgent _ _ _).symm
      refine ⟨fun hfull hqueued hhead hid => ?_, fun b l d rec hroom hid hwaits hhead hbus hallowed hrec haccess howner hrecline hspeech
        hbushead hfree hd => ?_⟩
      · have hevicts := hpasses.evicts (x := x) (y := y) (z := z) (keep := keep) ends hfull hqueued hhead
        subst hid hjoined
        exact hevicts
      · subst hid hrec hd hjoined
        exact hpasses.preempts ends hroom ⟨hwaits, hhead, hbus, hallowed, haccess, howner, hrecline, hspeech, hbushead, hfree⟩

end Sys2Proof.Machine
end
